-- ==== Sys2Proof/Word.lean ====
section
/-! DEFINITION. The word types of the Fultara 4410 and the collection of four like things that its four ports, groups and triggers make. -/

namespace Sys2Proof

/-- One byte of a request, a media slot or a management frame. -/
abbrev Byte := BitVec 8

/-- A 36-bit physical byte address (00_scope, Conventions). -/
abbrev Addr := BitVec 36

/-- A 30-bit block address: the byte address divided by 64 (00_scope, Conventions). -/
abbrev Block := BitVec 30

/-- A 32-bit epoch number (R7). -/
abbrev Epoch := BitVec 32

/-- RP0 to RP3. -/
abbrev PortId := Fin 4

/-- G0 to G3. -/
abbrev GroupId := Fin 4

/-- TRIG0 to TRIG3. -/
abbrev TrigId := Fin 4

/-- D0 to D15, an entry of a copy of the domain map. -/
abbrev EntryId := Fin 16

/-- One of the sixteen places of the memory port (R150). -/
abbrev PlaceId := Fin 16

/-- Four like things: the four ports, groups or triggers. -/
structure Four (α : Type) where
  at0 : α
  at1 : α
  at2 : α
  at3 : α
deriving DecidableEq, Repr

/-- The thing numbered `i`. -/
def Four.get {α : Type} (v : Four α) (i : Fin 4) : α :=
  match i with
  | 0 => v.at0
  | 1 => v.at1
  | 2 => v.at2
  | 3 => v.at3

/-- The same four, but with `x` at number `i`. -/
def Four.set {α : Type} (v : Four α) (i : Fin 4) (x : α) : Four α :=
  match i with
  | 0 => { v with at0 := x }
  | 1 => { v with at1 := x }
  | 2 => { v with at2 := x }
  | 3 => { v with at3 := x }

/-- Four times the same thing. -/
def Four.const {α : Type} (x : α) : Four α := { at0 := x, at1 := x, at2 := x, at3 := x }

/-- The thing `f` makes of each of the four. -/
def Four.map {α β : Type} (f : α → β) (v : Four α) : Four β :=
  { at0 := f v.at0, at1 := f v.at1, at2 := f v.at2, at3 := f v.at3 }

/-- The four numbers in rising order. -/
def fourIds : List (Fin 4) := [0, 1, 2, 3]

/-- A set of ports or groups: one membership mark for each of the four. -/
abbrev FourSet := Four Bool

/-- The empty set. -/
def FourSet.empty : FourSet := Four.const false

end Sys2Proof
end

