-- ==== Sys2Proof/Syntax.lean ====
section
/-! DEFINITION. The commands of the block: one constructor of Instr for each row of spec/opcode_table.json, with what the event carries. -/

namespace Sys2Proof

/-- Whether an access reads or writes. -/
inductive AccessKind where
  | read
  | write
deriving DecidableEq, Repr

/-- A request as a requester presents it on its bus (R121). A write carries one data byte for each byte of its size, a read none. -/
structure BusRequest where
  kind : AccessKind
  addr : Addr
  size : Nat
  data : List Byte
deriving DecidableEq, Repr

/-- The memory's answer to one outstanding transaction (R155). A read answered OK carries its data. -/
inductive MemAnswer where
  | ok (data : List Byte)
  | error
deriving DecidableEq, Repr

/-- How a frame of the management port stands to the edges of RESET_N (R171, R180): it straddles none, or it is stale, its falling edge having come before the latest one, the deassertion where it ends out of reset and the assertion where it ends in reset. `inReset` says which of a stale frame's bits were clocked while RESET_N was asserted: one mask for each byte after the first, with those bits set (DESIGN CHOICE, notes/assumptions/26). -/
inductive FrameSpan where
  | whole
  | stale (inReset : List Byte)
deriving DecidableEq, Repr

/-- The commands and events of spec/opcode_table.json, in the table's order. -/
inductive Instr where
  /-- POWER_ON (R22). -/
  | powerOn
  /-- RESET_N_ASSERT (R22). -/
  | resetNAssert
  /-- RESET_N_DEASSERT (R162): `levels` are the levels of TRIG0 to TRIG3 at that moment, true for high. -/
  | resetNDeassert (levels : Four Bool)
  /-- PORT_RESET (R133): the assertion of PRSTp. -/
  | portReset (p : PortId)
  /-- PRST_DEASSERT (R134). -/
  | prstDeassert (p : PortId)
  /-- TRIGGER_EVENT (R163): TRIGn is seen high. -/
  | triggerEvent (n : TrigId)
  /-- TRIGGER_INPUT_LOW (R162): TRIGn is seen low. -/
  | triggerInputLow (n : TrigId)
  /-- REQUEST_ACCEPT (R121): the requester of port p presents a request. -/
  | requestAccept (p : PortId) (r : BusRequest)
  /-- CLASSIFICATION (R115): the head of port p is classified. -/
  | classification (p : PortId)
  /-- BEGIN (R140) on ECp, with the argument it carries and nobody reads (R136). -/
  | beginEpoch (p : PortId) (arg : Fin 8)
  /-- MARK (R50) on ECp. -/
  | mark (p : PortId) (arg : Fin 8)
  /-- UNDO(m) (R52) on ECp. -/
  | undo (p : PortId) (m : Fin 8)
  /-- VOTE_COMMIT (R64) on ECp. -/
  | voteCommit (p : PortId) (arg : Fin 8)
  /-- VOTE_ABORT (R144) on ECp. -/
  | voteAbort (p : PortId) (arg : Fin 8)
  /-- QUERY (R141) on ECp. -/
  | query (p : PortId) (arg : Fin 8)
  /-- UNKNOWN_COMMAND (R139) on ECp: `code` is one of the two kind values that name no command (R136). -/
  | unknownCommand (p : PortId) (code : Fin 2) (arg : Fin 8)
  /-- GRANT (R153) of the free place named (DESIGN CHOICE, notes/assumptions/14). -/
  | grant (place : PlaceId)
  /-- REQUESTER_ANSWER (R156): the memory answers the requester transaction in the place named. -/
  | requesterAnswer (place : PlaceId) (a : MemAnswer)
  /-- OLD_BLOCK_READ (R35). -/
  | oldBlockRead (place : PlaceId) (a : MemAnswer)
  /-- RECORD_WRITE (R36). -/
  | recordWrite (place : PlaceId) (a : MemAnswer)
  /-- CLEAR_PHASE_WRITE (R55). -/
  | clearPhaseWrite (place : PlaceId) (a : MemAnswer)
  /-- RECORD_READ (R56). -/
  | recordRead (place : PlaceId) (a : MemAnswer)
  /-- RESTORE_WRITE (R57). -/
  | restoreWrite (place : PlaceId) (a : MemAnswer)
  /-- POP_COMPLETE (R57). -/
  | popComplete (place : PlaceId) (a : MemAnswer)
  /-- COMMIT_HEADER_WRITE (R73). -/
  | commitHeaderWrite (place : PlaceId) (a : MemAnswer)
  /-- ROLLBACK_HEADER_WRITE (R80). -/
  | rollbackHeaderWrite (place : PlaceId) (a : MemAnswer)
  /-- FORMAT_CLEARING_WRITE (R93). -/
  | formatClearingWrite (place : PlaceId) (a : MemAnswer)
  /-- FORMAT_HEADER_WRITE (R94). -/
  | formatHeaderWrite (place : PlaceId) (a : MemAnswer)
  /-- HEADER_READ (R97). -/
  | headerRead (place : PlaceId) (a : MemAnswer)
  /-- SCAN_READ (R99). -/
  | scanRead (place : PlaceId) (a : MemAnswer)
  /-- REPLAY_READ (R100). -/
  | replayRead (place : PlaceId) (a : MemAnswer)
  /-- RECOVERY_RESTORE_WRITE (R100). -/
  | recoveryRestoreWrite (place : PlaceId) (a : MemAnswer)
  /-- RECOVERY_HEADER_WRITE (R101). -/
  | recoveryHeaderWrite (place : PlaceId) (a : MemAnswer)
  /-- ORPHANED_ANSWER (R157). -/
  | orphanedAnswer (place : PlaceId) (a : MemAnswer)
  /-- HOLD_EXPIRY (R42) of the held head of group g. -/
  | holdExpiry (g : GroupId)
  /-- VOTE_TIMEOUT (R67) of group g. -/
  | voteTimeout (g : GroupId)
  /-- MAP_ACTIVATION_COMPLETE (R112). -/
  | mapActivationComplete
  /-- REQUEST_FRAME (R172): the bytes clocked in, CFG_EN at the rising edge of MCS_N, and how the frame stands to the edges of RESET_N. -/
  | requestFrame (bytes : List Byte) (cfgEn : Bool) (span : FrameSpan)
  /-- FETCH (R173): a frame whose first byte is 0x00, with its further bytes, and how the frame stands to the edges of RESET_N. -/
  | fetch (more : List Byte) (span : FrameSpan)
  /-- READ (R175): the held request, a READ, is decided. -/
  | read
  /-- DOMAIN_SHADOW_WRITE (R107): the held request is decided. -/
  | domainShadowWrite
  /-- JOURNAL_AREA_WRITE (R3): the held request is decided. -/
  | journalAreaWrite
  /-- PARTICIPANT_SET_WRITE (R4): the held request is decided. -/
  | participantSetWrite
  /-- POLICY_WRITE (R5): the held request is decided. -/
  | policyWrite
  /-- TRIGGER_CONFIG_WRITE (R161): the held request is decided. -/
  | triggerConfigWrite
  /-- ALERT_MASK_WRITE (R169): the held request is decided. -/
  | alertMaskWrite
  /-- ACTIVATE_MAP (R109): the held request is decided. -/
  | activateMap
  /-- CANCEL_MAP (R113): the held request is decided. -/
  | cancelMap
  /-- FORMAT (R92): the held request is decided. -/
  | format
  /-- RECOVER (R96): the held request is decided. -/
  | recover
  /-- FORCE_ABORT (R177): the held request is decided. -/
  | forceAbort
  /-- CLEAR_FAULT (R17): the held request is decided. -/
  | clearFault
  /-- CLEAR_REFUSAL (R130): the held request is decided. -/
  | clearRefusal
  /-- CLEAR_ALERTS (R170): the held request is decided. -/
  | clearAlerts
  /-- CLEAR_STATS (R20): the held request is decided. -/
  | clearStats
  /-- SOFT_RESET (R179): the held request is decided. -/
  | softReset
  /-- SOFT_RESET_RESPONSE (R179): the next event of the management port after SOFT_RESET. -/
  | softResetResponse
  /-- REFUSED_REQUEST (R172): the held request is decided and refused by checks 1 to 6, or is a WRITE of length 0. -/
  | refusedRequest
deriving DecidableEq, Repr

end Sys2Proof
end

