-- ==== Sys2Proof/Decode.lean ====
section
/-! DEFINITION. Reading a command from table bits. No row of spec/opcode_table.json gives bits (98_reader: rows with fixed 0, rows with fields 0), so no word spells a command. -/

namespace Sys2Proof

/-- The command that a word spells by the table's bits: none, since the table gives no row any bits. -/
def decodeTableWord (nbits w : Nat) : Option Instr :=
  match nbits, w with
  | _, _ => none

end Sys2Proof
end

