-- ==== Sys2Proof/Config.lean ====
section
/-! DEFINITION. What one implementation of the 4410 fixes and the spec leaves open, as constants without a body: nothing can be proved of their values. Each is applied to the counter State.draws, so that every use is a fresh value. -/

namespace Sys2Proof

/-- The four bytes an object layout shows for a field that is absent, where the spec gives no code for absent (DESIGN CHOICE, notes/assumptions/4). -/
opaque Config.absentWord : Nat → BitVec 32

/-- Which of two orders of one event is taken, where the spec names both and gives no rule (DESIGN CHOICE, notes/assumptions/5). -/
opaque Config.orderChoice : Nat → Bool

/-- The byte on MSO at a place after the first of a FETCH frame that is not taken, where RESET_N is not asserted: no rule gives it (DESIGN CHOICE, notes/assumptions/23). -/
opaque Config.staleByte : Nat → Nat → BitVec 8

end Sys2Proof
end

