-- ==== Sys2Proof/Machine/State.lean ====
section
/-! DEFINITION. The state of the Fultara 4410: the groups, the tracking table, the ports and their epoch channels, the domain map, the memory port, the trigger and alert units and the management port, with the queue of waiting commands; and the state after reset. -/

namespace Sys2Proof.Machine

/-! ### Group configuration and state -/

/-- Overflow policy of a group (R1). -/
inductive Policy where
  | refuse
  | hold
  | abort
deriving DecidableEq, Repr

/-- The configuration record of a group (R1). -/
structure GroupConfig where
  base : Addr
  slots : Nat
  participants : FourSet
  policy : Policy
  /-- microseconds -/
  holdLimit : Nat
  /-- units of 100 microseconds; 0 is no window -/
  voteWindow : Nat
  autoOpen : Bool
  quota : Nat
deriving DecidableEq, Repr

/-- The eleven states of a group (R6). -/
inductive GroupState where
  | disabled
  | unverified
  | formatting
  | recovering
  | closed
  | opened
  | voting
  | unwinding
  | committing
  | rollingBack
  | faulted
deriving DecidableEq, Repr

/-- The last close cause of a group (R18). The six abort causes are among them (R13). -/
inductive CloseCause where
  | noClose
  | commit
  | voteAbort (p : PortId)
  | voteTimeout
  | portReset (p : PortId)
  | trigger (n : TrigId)
  | management
  | overflow
  | recovery
deriving DecidableEq, Repr

/-- The fault kinds (R16). -/
inductive FaultKind where
  | noFault
  | recordCorrupt
  | restoreWrite
  | headerWrite
  | recoveryRead
  | recoveryWrite
deriving DecidableEq, Repr

/-- The fault record of a group (R16). -/
structure FaultRecord where
  kind : FaultKind
  epoch : Epoch
  slot : Option Nat
  block : Option Block
deriving DecidableEq, Repr

/-- A header copy (R91). -/
inductive Copy where
  | a
  | b
deriving DecidableEq, Repr

/-- The outcome of a recovery result (R19). -/
inductive RecoveryOutcome where
  | noOutcome
  | formatted
  | clean
  | replayed
  | noJournal
  | areaMismatch
  | faulted
deriving DecidableEq, Repr

/-- The recovery result of a group (R19). -/
structure RecoveryResult where
  copy : Option Copy
  closedFound : Epoch
  found : Nat
  replayed : Nat
  outcome : RecoveryOutcome
deriving DecidableEq, Repr

/-- The six statistic counters of a group (R20). -/
structure Stats where
  commits : Nat
  rollbacks : Nat
  undos : Nat
  recordsAppended : Nat
  overflowRefusals : Nat
  holdExpiries : Nat
deriving DecidableEq, Repr

/-- The two overflows of the capacity check (R33). -/
inductive Overflow where
  | journalFull
  | trackFull
deriving DecidableEq, Repr

/-- The journaling step in progress of a group, from its reservation (R34). `owner` is the port whose write it carries, none once that port was reset (R47). -/
structure JournalStep where
  owner : Option PortId
  block : Block
  level : Nat
  prior : Option Nat
  slot : Nat
  sequence : Nat
  epoch : Epoch
deriving DecidableEq, Repr

/-- The hold of a head of a journal queue (R41): its reason, the hold timer as it was loaded in microseconds (DESIGN CHOICE, notes/assumptions/3), and the place of its beginning in the order of all holds (R43). -/
structure Hold where
  reason : Overflow
  timer : Nat
  since : Nat
deriving DecidableEq, Repr

/-- The phases of an undo or a rollback (03, R76). The unwind context is in none of them when it is absent. -/
inductive Phase where
  | drain
  | clear
  | pop
  | header
deriving DecidableEq, Repr

/-- The unwind context of a group (03, R52). -/
structure UnwindContext where
  target : Nat
  port : PortId
  phase : Phase
  slot : Option Nat
deriving DecidableEq, Repr

/-- The rollback context of a group (04, R76). -/
structure RollbackContext where
  cause : CloseCause
  phase : Phase
  slot : Option Nat
deriving DecidableEq, Repr

/-- How a recovery judged one header slot (R97). -/
inductive CopyJudgement where
  | malformed
  | otherSize
  | valid (e : Epoch)
deriving DecidableEq, Repr

/-- What a recovery has found so far (R97 to R102): the judgement of copy A, the copy chosen and the epoch it named, and the records found once the scan has ended. -/
structure RecoveryContext where
  judgedA : CopyJudgement
  chosen : Option Copy
  named : Epoch
  found : Option Nat
deriving DecidableEq, Repr

/-- One epoch group: its configuration and its runtime context (01). The level is the number of marks (R49); the record-in-flight flag is the presence of a step (R31); the tracking entries held are counted in the table (R24). -/
structure Group where
  config : GroupConfig
  state : GroupState
  closedEpoch : Epoch
  /-- the setting ports, oldest first; the mark in place k, counted from 1, is mark k (R49) -/
  marks : List PortId
  journalLength : Nat
  effectiveQuota : Nat
  voteSet : FourSet
  /-- the vote window timer: none stopped, some the microseconds loaded (R66; DESIGN CHOICE, notes/assumptions/3) -/
  voteTimer : Option Nat
  /-- the journal queue, oldest first, each write named by its port (R30) -/
  queue : List PortId
  step : Option JournalStep
  hold : Option Hold
  /-- the put-back list (R12) -/
  putBack : List PortId
  unwind : Option UnwindContext
  rollback : Option RollbackContext
  recovery : Option RecoveryContext
  fault : FaultRecord
  lastClose : CloseCause
  recoveryResult : RecoveryResult
  stats : Stats
deriving DecidableEq, Repr

/-! ### Tracking table -/

/-- One tracking entry (R24). It is PENDING while a staged level is present and DURABLE otherwise. -/
structure TrackEntry where
  block : Block
  group : GroupId
  durable : Option Nat
  staged : Option Nat
  waiters : List PortId
deriving DecidableEq, Repr

/-! ### Requester ports and epoch channels -/

/-- Why a head is held (R128). -/
inductive HoldReason where
  | unwinding
  | committing
  | rollingBack
  | overflow (o : Overflow)
deriving DecidableEq, Repr

/-- The stage of a request in its port's queue (R124). An issued request keeps the memory's answer until its turn (R126). -/
inductive Stage where
  | waiting
  | classifying
  | held (why : HoldReason)
  | waitingOnEntry
  | inQueue
  | issued (answer : Option MemAnswer)
  | answered
deriving DecidableEq, Repr

/-- A request in a port's queue (R121, R124). `tag` tells it from the port's other requests. -/
structure Request where
  kind : AccessKind
  addr : Addr
  size : Nat
  data : List Byte
  tag : Nat
  stage : Stage
deriving DecidableEq, Repr

/-- The refusal reasons, in the order of R129. -/
inductive RefusalReason where
  | malformed
  | journalArea
  | noGrant
  | readOnly
  | notParticipant
  | groupUnverified
  | groupFaulted
  | noEpoch
  | voted
  | mapPending
  | epochLimit
  | journalFull
  | trackFull
  | memoryError
deriving DecidableEq, Repr

/-- The refusal record of a port while it is valid (R129). -/
structure RefusalRecord where
  kind : AccessKind
  addr : Addr
  size : Nat
  reason : RefusalReason
  domain : Option EntryId
  group : Option GroupId
  epoch : Option Epoch
deriving DecidableEq, Repr

/-- The three commands that can wait on a channel (R138). -/
inductive WaitingKind where
  | undo
  | voteCommit
  | voteAbort
deriving DecidableEq, Repr

/-- The command that an OUTSTANDING channel keeps (R138). -/
structure Outstanding where
  kind : WaitingKind
  arg : Fin 8
  group : GroupId
deriving DecidableEq, Repr

/-- One requester port with its epoch channel (R124, R129, R131, R138). -/
structure Port where
  /-- oldest first -/
  queue : List Request
  /-- the domain and group of the head's latest classification (R124) -/
  headDomain : Option EntryId
  headGroup : Option GroupId
  /-- none is a record not valid -/
  refusal : Option RefusalRecord
  refusalCount : Nat
  lastWrite : Option Addr
  /-- none is IDLE -/
  channel : Option Outstanding
  /-- PRSTp is asserted -/
  resetPin : Bool
  /-- the tag of the next request accepted -/
  nextTag : Nat
deriving DecidableEq, Repr

/-! ### Domain map -/

/-- The kind of a domain (R106). -/
inductive DomainKind where
  | passing
  | guarded
  | journaled
deriving DecidableEq, Repr

/-- A grant of a domain to a port (R106). -/
inductive Grant where
  | noAccess
  | read
  | readWrite
deriving DecidableEq, Repr

/-- One entry of a copy of the domain map (R106). -/
structure DomainEntry where
  valid : Bool
  base : Block
  limit : Block
  kind : DomainKind
  group : Option GroupId
  grants : Four Grant
deriving DecidableEq, Repr

/-- The domain map: both copies and the pending activation flag (R106). -/
structure DomainMap where
  shadow : Vector DomainEntry 16
  active : Vector DomainEntry 16
  pending : Bool
deriving DecidableEq, Repr

/-! ### Memory port -/

/-- The source of a transaction (R150). -/
inductive Source where
  | port (p : PortId)
  | group (g : GroupId)
deriving DecidableEq, Repr

/-- The class of a transaction (R150). -/
inductive TxnClass where
  | restore
  | journal
  | requester
deriving DecidableEq, Repr

/-- Whether a transaction is orphaned, and by which event of R157. -/
inductive Orphan where
  | live
  | byPortReset
  | bySoftReset
  | byFault
deriving DecidableEq, Repr

/-- What a transaction is to its owner (R151, R156). -/
inductive Role where
  /-- a requester transaction, with its request's tag -/
  | request (tag : Nat)
  | oldBlockRead
  | recordWrite
  | clearPhase
  | popRead
  /-- the restore write of the record of `block` with prior level `prior` -/
  | popRestore (block : Block) (prior : Option Nat)
  | popClear (block : Block) (prior : Option Nat)
  | commitHeader
  | rollbackHeader
  | formatClear (slot : Nat)
  | formatHeader (copy : Copy)
  | headerRead (copy : Copy)
  | scanRead
  | replayRead
  | recoveryRestore (block : Block)
  | recoveryHeader
deriving DecidableEq, Repr

/-- One transaction of the memory port (R150). `stamp` numbers the event of its hand-on. -/
structure Txn where
  source : Source
  cls : TxnClass
  kind : AccessKind
  addr : Addr
  size : Nat
  data : List Byte
  dataGroup : Option GroupId
  orphan : Orphan
  role : Role
  stamp : Nat
deriving DecidableEq, Repr

/-- The memory port: the WAITING transactions in order of hand-on, the OUTSTANDING ones by their places, and the rotation pointer (R150, R154). -/
structure MemPort where
  waiting : List Txn
  places : Vector (Option Txn) 16
  pointer : PortId
deriving DecidableEq, Repr

/-! ### Trigger and alert units -/

/-- The action of a trigger input (R161). -/
inductive TriggerAction where
  | noAction
  | note
  | rollback
deriving DecidableEq, Repr

/-- What a trigger event was to a group (R165). -/
inductive TriggerOutcome where
  | notActed
  | rollbackStarted
  | joined
  | tooLate
  | nothingOpen
  | faulted
deriving DecidableEq, Repr

/-- A group as a snapshot holds it (R164). -/
structure GroupShot where
  state : GroupState
  closedEpoch : Epoch
  journalLength : Nat
  level : Nat
  outcome : TriggerOutcome
deriving DecidableEq, Repr

/-- A valid snapshot slot (R164). -/
structure Snapshot where
  action : TriggerAction
  number : Nat
  groups : Four GroupShot
  lastWrites : Four (Option Addr)
deriving DecidableEq, Repr

/-- One trigger input (R161 to R164). -/
structure Trigger where
  action : TriggerAction
  mask : FourSet
  count : Nat
  /-- none is a slot not valid -/
  snapshot : Option Snapshot
  /-- the reference level, true for high -/
  level : Bool
deriving DecidableEq, Repr

/-- The alert unit: the latched causes and their mask, numbered as the ALERT object numbers them (R168, R169, R175). -/
structure Alerts where
  latched : BitVec 21
  mask : BitVec 21
deriving DecidableEq, Repr

/-! ### Management port -/

/-- The status of a response (R171). -/
inductive Status where
  | ok
  | accepted
  | pending
  | badChecksum
  | badFrame
  | unknown
  | range
  | locked
  | state
  | conflict
  | overlap
  | invalidEntry
  | mapPending
deriving DecidableEq, Repr

/-- A response that is ready (R171). -/
structure Response where
  status : Status
  data : List Byte
deriving DecidableEq, Repr

/-- The held request with its CFG_EN sample and its response, none while not ready (11, R172). -/
structure HeldRequest where
  bytes : List Byte
  cfgEn : Bool
  response : Option Response
deriving DecidableEq, Repr

/-- The management port. `resetting` says that a SOFT_RESET was decided and its response is not ready yet (R179). -/
structure Mgmt where
  held : Option HeldRequest
  resetting : Bool
deriving DecidableEq, Repr

/-! ### What the block sends out -/

/-- The status of a response on a requester bus (R123). -/
inductive BusStatus where
  | ok
  | error
deriving DecidableEq, Repr

/-- The reasons of a REFUSED answer (R137). -/
inductive CommandReason where
  | busy
  | noGroup
  | unknownCommand
  | mapPending
  | epochLimit
  | unverified
  | faulted
  | committing
  | rollingBack
  | markLimit
  | voteInProgress
  | unwinding
  | notOpen
  | noSuchMark
  | tooLate
deriving DecidableEq, Repr

/-- The runtime context that a QUERY answers (R141). -/
structure QueryContext where
  group : GroupId
  state : GroupState
  epoch : Epoch
  level : Nat
  journalLength : Nat
  voteSet : FourSet
  marks : List PortId
deriving DecidableEq, Repr

/-- An answer on an epoch channel (R137). -/
inductive Answer where
  | beginDone (epoch : Epoch) (openedNow : Bool)
  | markDone (number : Nat)
  | undoDone (mark : Nat) (length : Nat)
  | queryDone (context : QueryContext)
  | committed (epoch : Epoch)
  | rolledBack (epoch : Epoch) (cause : CloseCause)
  | faulted (kind : FaultKind) (epoch : Epoch)
  | refused (why : CommandReason)
deriving DecidableEq, Repr

/-- One thing the block gives out on one of its interfaces: a response on a requester bus (R123), an answer on an epoch channel (R137), a transaction on the memory bus (R153), or the bytes of a frame on MSO (R171). -/
inductive Emission where
  | response (p : PortId) (status : BusStatus) (data : List Byte)
  | answer (p : PortId) (a : Answer)
  | memory (place : PlaceId) (kind : AccessKind) (addr : Addr) (size : Nat) (data : List Byte)
  | mso (bytes : List Byte)
deriving DecidableEq, Repr

/-! ### The whole state -/

/-- The reasons for which a step of the machine stops with a fault. There is none: the spec gives every command of its table an effect on every state, and the block itself reports failures in its own fault records and refusal records, which are State. -/
inductive Fault where
deriving DecidableEq, Repr

/-- The reasons for which a command has no meaning in this model. -/
inductive Refusal where
  /-- Raised by exec for a command that has no meaning yet; safe, since nothing is claimed of it. No arm of exec raises it now. -/
  | notModelled (mnemonic : String)
deriving DecidableEq, Repr

/-- The state of the 4410. The fields from `emitted` on are the model's own (DESIGN CHOICE, notes/assumptions/13): what has been given out, in order; the number of the event, for the order of hand-ons (R152); the number of the next hold (R43); how many free values have been used; and the commands waiting. -/
structure State where
  groups : Four Group
  /-- the tracking table, in rising order of block address (R24) -/
  table : List TrackEntry
  ports : Four Port
  map : DomainMap
  mem : MemPort
  triggers : Four Trigger
  alerts : Alerts
  mgmt : Mgmt
  /-- RESET_N is asserted -/
  resetPin : Bool
  emitted : List Emission
  clock : Nat
  nextHold : Nat
  draws : Nat
  pending : List Instr
deriving DecidableEq, Repr

/-- The configuration defaults of R1. -/
def GroupConfig.reset : GroupConfig :=
  { base := 0, slots := 0, participants := FourSet.empty, policy := .refuse, holdLimit := 1000,
    voteWindow := 0, autoOpen := false, quota := 1024 }

/-- The fault record of R22: kind NONE, the other fields 0 or absent (R16). -/
def FaultRecord.reset : FaultRecord := { kind := .noFault, epoch := 0, slot := none, block := none }

/-- The recovery result of R22. -/
def RecoveryResult.reset : RecoveryResult :=
  { copy := none, closedFound := 0, found := 0, replayed := 0, outcome := .noOutcome }

/-- All statistics 0 (R22). -/
def Stats.reset : Stats :=
  { commits := 0, rollbacks := 0, undos := 0, recordsAppended := 0, overflowRefusals := 0, holdExpiries := 0 }

/-- A group at power-on (R22). -/
def Group.reset : Group :=
  { config := GroupConfig.reset, state := .disabled, closedEpoch := 0, marks := [], journalLength := 0,
    effectiveQuota := 1024, voteSet := FourSet.empty, voteTimer := none, queue := [], step := none,
    hold := none, putBack := [], unwind := none, rollback := none, recovery := none,
    fault := FaultRecord.reset, lastClose := .noClose, recoveryResult := RecoveryResult.reset,
    stats := Stats.reset }

/-- A port at power-on (R135). -/
def Port.reset : Port :=
  { queue := [], headDomain := none, headGroup := none, refusal := none, refusalCount := 0,
    lastWrite := none, channel := none, resetPin := false, nextTag := 0 }

/-- An entry of the domain map at power-on (R106). -/
def DomainEntry.reset : DomainEntry :=
  { valid := false, base := 0, limit := 0, kind := .passing, group := none, grants := Four.const .noAccess }

/-- The domain map at power-on (R106). -/
def DomainMap.reset : DomainMap :=
  { shadow := Vector.replicate 16 DomainEntry.reset, active := Vector.replicate 16 DomainEntry.reset,
    pending := false }

/-- The memory port at power-on (R154, R160). -/
def MemPort.reset : MemPort := { waiting := [], places := Vector.replicate 16 none, pointer := 3 }

/-- A trigger input at power-on (R167); its reference level before any deassertion of RESET_N is low (DESIGN CHOICE, notes/assumptions/2). -/
def Trigger.reset : Trigger :=
  { action := .noAction, mask := FourSet.empty, count := 0, snapshot := none, level := false }

/-- The alert unit at power-on (R169). -/
def Alerts.reset : Alerts := { latched := 0, mask := 0 }

/-- The management port at power-on (R180). -/
def Mgmt.reset : Mgmt := { held := none, resetting := false }

/-- The machine right after reset: RESET_N and every PRSTn deasserted, every trigger input low, nothing waiting (R22, R106, R135, R160, R167, R169, R180; DESIGN CHOICE, notes/assumptions/1 and 2). -/
def State.reset : State :=
  { groups := Four.const Group.reset, table := [], ports := Four.const Port.reset, map := DomainMap.reset,
    mem := MemPort.reset, triggers := Four.const Trigger.reset, alerts := Alerts.reset, mgmt := Mgmt.reset,
    resetPin := false, emitted := [], clock := 0, nextHold := 0, draws := 0, pending := [] }

end Sys2Proof.Machine
end

