-- ==== Sys2Proof/Machine/Flags.lean ====
section
/-! DEFINITION. The alert causes and their numbers, latching and clearing, and the ALERT line (10, R168 to R170). -/

namespace Sys2Proof.Machine

/-- The 21 alert causes (R168). -/
inductive Cause where
  | fault (g : GroupId)
  | autoRollback (g : GroupId)
  | recoveryDone (g : GroupId)
  | refusal (p : PortId)
  | trigger (n : TrigId)
  | mapActivated
deriving DecidableEq, Repr

/-- The number of a cause in the cause set and the mask (R175, ALERT). -/
def Cause.bit (c : Cause) : Nat :=
  match c with
  | .fault g => g.val
  | .autoRollback g => 4 + g.val
  | .recoveryDone g => 8 + g.val
  | .refusal p => 12 + p.val
  | .trigger n => 16 + n.val
  | .mapActivated => 20

/-- The set of one cause. -/
def Cause.flag (c : Cause) : BitVec 21 := BitVec.ofNat 21 (2 ^ c.bit)

/-- A cause latches, whatever its mask bit (R168). -/
def State.latch (s : State) (c : Cause) : State :=
  { s with alerts := { s.alerts with latched := s.alerts.latched ||| c.flag } }

/-- The causes named become clear (R170). -/
def State.clearCauses (s : State) (set : BitVec 21) : State :=
  { s with alerts := { s.alerts with latched := s.alerts.latched &&& ~~~ set } }

/-- A cause is latched. -/
def State.isLatched (s : State) (c : Cause) : Bool := s.alerts.latched.getLsbD c.bit

/-- The level of ALERT: high while a cause is both latched and enabled (R169). While RESET_N is asserted every cause is clear, so it is low. -/
def State.alertLine (s : State) : Bool := decide (s.alerts.latched &&& s.alerts.mask ≠ 0#21)

end Sys2Proof.Machine
end

