-- ==== Sys2Proof/Machine/Operands.lean ====
section
/-! DEFINITION. Byte strings: little-endian fields, the 32-bit check of media slots and the checksum of management frames (00_scope, Conventions). -/

namespace Sys2Proof.Machine

/-- `n` bytes of `v`, least significant first (00_scope, Numbers and units). -/
def leBytes (n v : Nat) : List Byte :=
  match n with
  | 0 => []
  | k + 1 => BitVec.ofNat 8 v :: leBytes k (v / 256)

/-- The number that little-endian bytes stand for. -/
def leNat (bytes : List Byte) : Nat :=
  match bytes with
  | [] => 0
  | b :: rest => b.toNat + 256 * leNat rest

/-- Byte `i`, 0 beyond the end. -/
def byteAt (bytes : List Byte) (i : Nat) : Byte := bytes.getD i 0#8

/-- The little-endian field of `n` bytes at offset `off`. -/
def fieldAt (bytes : List Byte) (off n : Nat) : Nat := leNat ((bytes.drop off).take n)

/-- `n` zero bytes. -/
def zeroBytes (n : Nat) : List Byte := List.replicate n 0#8

/-- The first `n` bytes, as a bus of that size carries them (DESIGN CHOICE, notes/assumptions/7). -/
def fitBytes (n : Nat) (bytes : List Byte) : List Byte := (bytes ++ zeroBytes n).take n

/-- One bit of the check: a shift toward the least significant bit with the reversed polynomial 0x82F63B78 (00_scope, Check value). -/
def checkBit (r : BitVec 32) : BitVec 32 :=
  if r.getLsbD 0 then (r >>> 1) ^^^ 0x82F63B78#32 else r >>> 1

/-- One byte of the check, least significant bit first. -/
def checkByte (r : BitVec 32) (b : Byte) : BitVec 32 :=
  checkBit (checkBit (checkBit (checkBit (checkBit (checkBit (checkBit (checkBit (r ^^^ b.setWidth 32))))))))

/-- The check value of a byte string: initial register all ones, result inverted (00_scope, Check value). -/
def checkValue (bytes : List Byte) : BitVec 32 := ~~~ (bytes.foldl checkByte 0xFFFFFFFF#32)

/-- A slot's check is good (00_scope, Check value). -/
def checkGood (slot : List Byte) : Bool :=
  decide ((checkValue (slot.take 124)).toNat = fieldAt slot 124 4)

/-- 124 bytes with their check behind them. -/
def sealSlot (body : List Byte) : List Byte := body ++ leBytes 4 (checkValue body).toNat

/-- The checksum byte of a frame: the one's complement of the 8-bit sum (00_scope, Frame checksum). -/
def frameChecksum (bytes : List Byte) : Byte := ~~~ (bytes.foldl (· + ·) 0#8)

/-- The block address of a byte address (00_scope, Addresses, blocks and slots). -/
def blockOf (a : Addr) : Block := BitVec.ofNat 30 (a.toNat / 64)

/-- The first byte of a block. -/
def blockAddr (b : Block) : Addr := BitVec.ofNat 36 (b.toNat * 64)

end Sys2Proof.Machine
end

