-- ==== Sys2Proof/Machine/Ops.lean ====
section
/-! DEFINITION. The named operations over the state that every command is made of: groups and ports, emissions, the tracking table, and handing transactions to the memory port. -/

namespace Sys2Proof.Machine

/-! ### Groups and ports -/

/-- Group `g`. -/
def State.group (s : State) (g : GroupId) : Group := s.groups.get g

/-- The state with group `g` replaced. -/
def State.setGroup (s : State) (g : GroupId) (x : Group) : State := { s with groups := s.groups.set g x }

/-- The state with group `g` changed by `f`. -/
def State.modGroup (s : State) (g : GroupId) (f : Group → Group) : State := s.setGroup g (f (s.group g))

/-- Port `p`. -/
def State.port (s : State) (p : PortId) : Port := s.ports.get p

/-- The state with port `p` replaced. -/
def State.setPort (s : State) (p : PortId) (x : Port) : State := { s with ports := s.ports.set p x }

/-- The state with port `p` changed by `f`. -/
def State.modPort (s : State) (p : PortId) (f : Port → Port) : State := s.setPort p (f (s.port p))

/-- The current epoch of a group, c + 1 (R7). -/
def Group.currentEpoch (x : Group) : Epoch := x.closedEpoch + 1

/-- The level of a group: the number of its marks (R49). -/
def Group.level (x : Group) : Nat := x.marks.length

/-- The capacity of a group's journal: slot count less the two header slots (R1). -/
def Group.capacity (x : Group) : Nat := x.config.slots - 2

/-- The record-in-flight flag: set while a step is in progress (R31). -/
def Group.recordInFlight (x : Group) : Bool := x.step.isSome

/-- Quiet states (06, Group States): every other state is busy. -/
def GroupState.quiet (st : GroupState) : Bool :=
  match st with
  | .disabled => true
  | .unverified => true
  | .closed => true
  | .faulted => true
  | .formatting => false
  | .recovering => false
  | .opened => false
  | .voting => false
  | .unwinding => false
  | .committing => false
  | .rollingBack => false

/-- Every group is quiet (R112). -/
def State.allQuiet (s : State) : Bool := fourIds.all (fun g => (s.group g).state.quiet)

/-- The group whose participant set holds the port (R4, R139). -/
def State.groupOf (s : State) (p : PortId) : Option GroupId :=
  fourIds.find? (fun g => (s.group g).config.participants.get p)

/-! ### Emissions, event number and free values -/

/-- Something given out on an interface. -/
def State.emit (s : State) (e : Emission) : State := { s with emitted := s.emitted ++ [e] }

/-- The beginning of a new event (R152: hand-ons are ordered by their events). -/
def State.tick (s : State) : State := { s with clock := s.clock + 1 }

/-- A free value has been used. -/
def State.drawn (s : State) : State := { s with draws := s.draws + 1 }

/-- Saturating count (R20, R129, R163). -/
def countUp (limit n : Nat) : Nat := min limit (n + 1)

/-- The largest value of a statistic counter (R20). -/
def statLimit : Nat := 2 ^ 32 - 1

/-! ### The tracking table (02, R24) -/

/-- The entry of a block, if it has one. -/
def findEntry (table : List TrackEntry) (b : Block) : Option TrackEntry := table.find? (fun e => e.block == b)

/-- The table with the entry of `e`'s block being `e`, in rising order of block address. -/
def putEntry (e : TrackEntry) (table : List TrackEntry) : List TrackEntry :=
  match table with
  | [] => [e]
  | x :: rest =>
    if e.block < x.block then e :: x :: rest
    else if e.block = x.block then e :: rest
    else x :: putEntry e rest

/-- The table without an entry of the block. -/
def dropEntry (b : Block) (table : List TrackEntry) : List TrackEntry := table.filter (fun e => e.block != b)

/-- The table without the entries of a group. -/
def dropGroup (g : GroupId) (table : List TrackEntry) : List TrackEntry := table.filter (fun e => e.group != g)

/-- How many entries the group holds (R24). -/
def State.entriesOf (s : State) (g : GroupId) : Nat := s.table.countP (fun e => e.group == g)

/-- The capacity of the tracking table (R24). -/
def tableCapacity : Nat := 1024

/-- The state with another tracking table. -/
def State.setTable (s : State) (t : List TrackEntry) : State := { s with table := t }

/-! ### The memory port -/

/-- A transaction is handed on: it is WAITING from now on (R150), and its hand-on is of this event. -/
def State.handOn (s : State) (t : Txn) : State :=
  { s with mem := { s.mem with waiting := s.mem.waiting ++ [{ t with stamp := s.clock }] } }

/-- The OUTSTANDING transactions, by place. -/
def MemPort.outstanding (m : MemPort) : List Txn := m.places.toList.filterMap id

/-- Every transaction the memory port holds (R150). -/
def MemPort.held (m : MemPort) : List Txn := m.waiting ++ m.outstanding

/-- The transaction is the group's own and not orphaned (R151). -/
def Txn.isOwn (t : Txn) (g : GroupId) : Bool := t.source == .group g && t.orphan == .live

/-- The group has a transaction of its own at the memory port (R151). -/
def State.ownTxn (s : State) (g : GroupId) : Bool := s.mem.held.any (fun t => t.isOwn g)

/-- An issued data write of the group's, not yet answered; it counts though its port was reset (R54, R157). -/
def Txn.isDataWriteOf (t : Txn) (g : GroupId) : Bool :=
  t.dataGroup == some g && (t.orphan == .live || t.orphan == .byPortReset)

/-- Some issued requester write of the group is unanswered (R54). -/
def State.writesUnanswered (s : State) (g : GroupId) : Bool := s.mem.held.any (fun t => t.isDataWriteOf g)

/-- Every transaction of the memory port changed by `f`. -/
def State.mapTxns (s : State) (f : Txn → Txn) : State :=
  { s with mem := { s.mem with waiting := s.mem.waiting.map f, places := s.mem.places.map (fun o => o.map f) } }

/-- A place becomes free (R155). -/
def State.freePlace (s : State) (i : PlaceId) : State :=
  { s with mem := { s.mem with places := s.mem.places.set i none } }

/-- The byte address of a slot of the group's journal area (R87). -/
def Group.slotAddr (x : Group) (slot : Nat) : Addr := x.config.base + BitVec.ofNat 36 (128 * slot)

/-- A transaction of a group's own (R151). -/
def ownOf (g : GroupId) (cls : TxnClass) (kind : AccessKind) (addr : Addr) (size : Nat) (data : List Byte)
    (role : Role) : Txn :=
  { source := .group g, cls := cls, kind := kind, addr := addr, size := size, data := data, dataGroup := none,
    orphan := .live, role := role, stamp := 0 }

/-- The group hands on a 128-byte read of a slot (R87). -/
def State.handSlotRead (s : State) (g : GroupId) (slot : Nat) (role : Role) : State :=
  s.handOn (ownOf g .restore .read ((s.group g).slotAddr slot) 128 [] role)

/-- The group hands on a 128-byte write of a slot (R87). -/
def State.handSlotWrite (s : State) (g : GroupId) (cls : TxnClass) (slot : Nat) (data : List Byte) (role : Role) :
    State :=
  s.handOn (ownOf g cls .write ((s.group g).slotAddr slot) 128 data role)

/-- The group hands on a clearing write: 128 zero bytes over a slot (03, R88). -/
def State.handClearing (s : State) (g : GroupId) (slot : Nat) (role : Role) : State :=
  s.handSlotWrite g .restore slot (zeroBytes 128) role

/-- The group hands on a 64-byte restore write of a block (R57, R100). -/
def State.handRestore (s : State) (g : GroupId) (b : Block) (contents : List Byte) (role : Role) : State :=
  s.handOn (ownOf g .restore .write (blockAddr b) 64 contents role)

end Sys2Proof.Machine
end

