-- ==== Sys2Proof/Machine/Media.lean ====
section
/-! DEFINITION. The slot formats of the journal area: records and headers, composed and read back (05, R88 to R91, R97). -/

namespace Sys2Proof.Machine

/-- The byte of an optional level: 0xFF for none (R88). -/
def levelByte (l : Option Nat) : Byte :=
  match l with
  | none => 0xFF#8
  | some n => BitVec.ofNat 8 n

/-- A record slot (R88), with its check. -/
def recordSlot (g : GroupId) (st : JournalStep) (contents : List Byte) : List Byte :=
  sealSlot (([0xA5#8, BitVec.ofNat 8 g.val, BitVec.ofNat 8 st.level, levelByte st.prior]
    ++ leBytes 4 st.epoch.toNat ++ leBytes 2 st.sequence ++ zeroBytes 2 ++ leBytes 4 st.block.toNat)
    ++ contents ++ zeroBytes 44)

/-- The state field of a header (R89). -/
inductive HeaderState where
  | committed
  | rolledBack
  | formatted
deriving DecidableEq, Repr

/-- The code of a header state (R89). -/
def HeaderState.code (h : HeaderState) : Byte :=
  match h with
  | .committed => 1#8
  | .rolledBack => 2#8
  | .formatted => 3#8

/-- The slot of a header copy (R91). -/
def Copy.slot (c : Copy) : Nat :=
  match c with
  | .a => 0
  | .b => 1

/-- The copy that a header of epoch `e` goes to: A when `e` is even (R91). -/
def copyFor (e : Epoch) : Copy := if e.getLsbD 0 then .b else .a

/-- A header slot (R89), with its check. -/
def headerSlot (g : GroupId) (c : Copy) (h : HeaderState) (e : Epoch) (slots : Nat) : List Byte :=
  sealSlot (([0x5A#8, BitVec.ofNat 8 g.val, BitVec.ofNat 8 c.slot, h.code]
    ++ leBytes 4 e.toNat ++ leBytes 4 slots) ++ zeroBytes 112)

/-- The slot matches record (g, E, s) (R90). -/
def matchesRecord (g : GroupId) (e : Epoch) (sequence : Nat) (slot : List Byte) : Bool :=
  byteAt slot 0 == 0xA5#8 && decide ((byteAt slot 1).toNat = g.val) && decide (fieldAt slot 4 4 = e.toNat)
    && decide (fieldAt slot 8 2 = sequence) && checkGood slot

/-- The level field of a record slot (R88), as the number it is (DEDUCED, notes/assumptions/24). -/
def recordLevel (slot : List Byte) : Nat := (byteAt slot 2).toNat

/-- The prior level of a record slot, none for 0xFF (R88; DEDUCED, notes/assumptions/24). -/
def recordPrior (slot : List Byte) : Option Nat :=
  if byteAt slot 3 = 0xFF#8 then none else some (byteAt slot 3).toNat

/-- The block address of a record slot, its remainder on division by 2^30 (R90). -/
def recordBlock (slot : List Byte) : Block := BitVec.ofNat 30 (fieldAt slot 12 4)

/-- The old contents of a record slot (R88). -/
def recordContents (slot : List Byte) : List Byte := (slot.drop 16).take 64

/-- A copy is well-formed (R97). -/
def headerWellFormed (g : GroupId) (c : Copy) (slot : List Byte) : Bool :=
  byteAt slot 0 == 0x5A#8 && decide ((byteAt slot 1).toNat = g.val) && decide ((byteAt slot 2).toNat = c.slot)
    && decide (1 ≤ (byteAt slot 3).toNat) && decide ((byteAt slot 3).toNat ≤ 3)
    && decide (fieldAt slot 4 4 ≤ 0xFFFFFFFE) && checkGood slot

/-- The judgement of a header slot read for copy `c` under a configured slot count (R97). -/
def judgeHeader (g : GroupId) (c : Copy) (slots : Nat) (slot : List Byte) : CopyJudgement :=
  if headerWellFormed g c slot then
    if fieldAt slot 8 4 = slots then .valid (BitVec.ofNat 32 (fieldAt slot 4 4)) else .otherSize
  else .malformed

/-- What the choice between the two judgements comes to (R98). -/
inductive Choice where
  | chosen (c : Copy) (e : Epoch)
  | areaMismatch
  | noJournal
deriving DecidableEq, Repr

/-- The choice of a header (R98): the higher epoch of two valid copies, copy A on equal epochs. -/
def chooseHeader (ja jb : CopyJudgement) : Choice :=
  match ja, jb with
  | .valid ea, .valid eb => if ea.toNat < eb.toNat then .chosen .b eb else .chosen .a ea
  | .valid ea, .malformed => .chosen .a ea
  | .valid ea, .otherSize => .chosen .a ea
  | .malformed, .valid eb => .chosen .b eb
  | .otherSize, .valid eb => .chosen .b eb
  | .malformed, .malformed => .noJournal
  | .malformed, .otherSize => .areaMismatch
  | .otherSize, .malformed => .areaMismatch
  | .otherSize, .otherSize => .areaMismatch

end Sys2Proof.Machine
end

