-- ==== Sys2Proof/Machine/Port.lean ====
section
/-! DEFINITION. The requester ports: the queue and its head, responses, refusals, issue to memory and holds (07), and the meanings of REQUEST_ACCEPT and PRST_DEASSERT. -/

namespace Sys2Proof.Machine

/-! ### The head of a queue -/

/-- The request is neither issued nor answered: the oldest such is the head (R124). -/
def Stage.undecided (g : Stage) : Bool :=
  match g with
  | .waiting => true
  | .classifying => true
  | .held _ => true
  | .waitingOnEntry => true
  | .inQueue => true
  | .issued _ => false
  | .answered => false

/-- The head of a queue (R124). -/
def headOf (q : List Request) : Option Request := q.find? (fun r => r.stage.undecided)

/-- The queue with its head changed by `f`. -/
def mapHead (f : Request → Request) (q : List Request) : List Request :=
  match q with
  | [] => []
  | r :: rest => if r.stage.undecided then f r :: rest else r :: mapHead f rest

/-- The head of port `p` (R124). -/
def State.head (s : State) (p : PortId) : Option Request := headOf (s.port p).queue

/-- The request at another stage. -/
def Request.atStage (r : Request) (g : Stage) : Request := { r with stage := g }

/-- The head of port `p` enters a stage. -/
def State.stageHead (s : State) (p : PortId) (g : Stage) : State :=
  s.modPort p (fun x => { x with queue := mapHead (fun r => r.atStage g) x.queue })

/-- The stage of the head of port `p`. -/
def State.headStage (s : State) (p : PortId) : Option Stage := (s.head p).map (fun r => r.stage)

/-- The block of the head of port `p`. -/
def State.headBlock (s : State) (p : PortId) : Block :=
  match s.head p with
  | none => 0
  | some r => blockOf r.addr

/-- The outcome of the head's latest classification (R124). -/
def State.setHeadClass (s : State) (p : PortId) (d : Option EntryId) (g : Option GroupId) : State :=
  s.modPort p (fun x => { x with headDomain := d, headGroup := g })

/-! ### Responses (R123, R126) -/

/-- The data of an OK response, and of an ERROR response: as many zero bytes as the size of a read (R123). -/
def Request.errorData (r : Request) : List Byte :=
  match r.kind with
  | .read => zeroBytes r.size
  | .write => []

/-- The response a request is ready to be given, if it is ready (R123, R126). -/
def Request.response (r : Request) : Option (BusStatus × List Byte) :=
  match r.stage with
  | .answered => some (.error, r.errorData)
  | .issued (some .error) => some (.error, r.errorData)
  | .issued (some (.ok data)) =>
    match r.kind with
    | .read => some (.ok, fitBytes r.size data)
    | .write => some (.ok, [])
  | .issued none => none
  | .waiting => none
  | .classifying => none
  | .held _ => none
  | .waitingOnEntry => none
  | .inQueue => none

/-- The responses of the oldest ready requests of port `p`, in order (R126). -/
def readyResponses (p : PortId) (q : List Request) : List Emission :=
  match q with
  | [] => []
  | r :: rest =>
    match r.response with
    | none => []
    | some (st, data) => .response p st data :: readyResponses p rest

/-- The queue once those responses have been given (R126). -/
def dropReady (q : List Request) : List Request :=
  match q with
  | [] => []
  | r :: rest => if r.response.isSome then dropReady rest else r :: rest

/-- A waiting request that is now the head enters classifying (R125). -/
def Request.presented (r : Request) : Request :=
  match r.stage with
  | .waiting => r.atStage .classifying
  | _ => r

/-- The head has not been presented to classification yet, or there is none. -/
def newHead (q : List Request) : Bool :=
  match headOf q with
  | none => true
  | some r => r.stage == .waiting

/-- What follows at a port from any change of its queue, at the same event: a new head enters classifying with no classification outcome (R125), and the oldest ready requests get their responses (R126). -/
def Port.settled (x : Port) : Port :=
  { x with
    queue := dropReady (mapHead Request.presented x.queue)
    headDomain := if newHead x.queue then none else x.headDomain
    headGroup := if newHead x.queue then none else x.headGroup }

/-- Port `p` settles (R125, R126). -/
def State.settle (s : State) (p : PortId) : State :=
  { s.modPort p Port.settled with emitted := s.emitted ++ readyResponses p (mapHead Request.presented (s.port p).queue) }

/-! ### Refusal, issue and hold -/

/-- The refusal of a request (R129): its record. -/
def Request.refusalRecord (r : Request) (why : RefusalReason) (d : Option EntryId) (g : Option GroupId)
    (e : Option Epoch) : RefusalRecord :=
  { kind := r.kind, addr := r.addr, size := r.size, reason := why, domain := d, group := g, epoch := e }

/-- The limit of a refusal count and of an event count (R129, R163). -/
def countLimit : Nat := 65535

/-- The head of port `p` is refused (R129): it is answered, the record and count are written with the head's domain and group and that group's current epoch, and REFUSAL(p) latches. -/
def State.refuseHead (s : State) (p : PortId) (why : RefusalReason) : State :=
  match s.head p with
  | none => s
  | some r =>
    (((s.modPort p (fun x =>
        { x with
          queue := mapHead (fun r => r.atStage .answered) x.queue
          refusal := some (r.refusalRecord why x.headDomain x.headGroup
            (x.headGroup.map (fun g => (s.group g).currentEpoch)))
          refusalCount := countUp countLimit x.refusalCount })).latch (.refusal p))).settle p

/-- The requester transaction of the head of port `p` (R151). -/
def Request.txn (r : Request) (p : PortId) (dataGroup : Option GroupId) : Txn :=
  { source := .port p, cls := .requester, kind := r.kind, addr := r.addr, size := r.size, data := r.data,
    dataGroup := dataGroup, orphan := .live, role := .request r.tag, stamp := 0 }

/-- The head of port `p` is issued to memory, unchanged (R29, R117); `dataGroup` is the group of a data write to a JOURNALED block (R150). -/
def State.issueHead (s : State) (p : PortId) (dataGroup : Option GroupId) : State :=
  match s.head p with
  | none => s
  | some r => ((s.handOn (r.txn p dataGroup)).stageHead p (.issued none)).settle p

/-- The head of port `p` is held (R128). -/
def State.holdHead (s : State) (p : PortId) (why : HoldReason) : State := s.stageHead p (.held why)

/-- The hold reason of a group's state: the states that hold (R11). -/
def GroupState.holding (st : GroupState) : Option HoldReason :=
  match st with
  | .unwinding => some .unwinding
  | .committing => some .committing
  | .rollingBack => some .rollingBack
  | .disabled => none
  | .unverified => none
  | .formatting => none
  | .recovering => none
  | .closed => none
  | .opened => none
  | .voting => none
  | .faulted => none

/-- The hold is by a group's state (R128). -/
def HoldReason.byState (h : HoldReason) : Bool :=
  match h with
  | .unwinding => true
  | .committing => true
  | .rollingBack => true
  | .overflow _ => false

/-- The head of port `p` is held by the state of group `g` (R11). -/
def State.heldByState (s : State) (g : GroupId) (p : PortId) : Bool :=
  match s.head p with
  | none => false
  | some r =>
    match r.stage with
    | .held why => why.byState && (s.port p).headGroup == some g
    | _ => false

/-- The head of port `p`, if the state of `g` holds it, is held under another reason (R61). -/
def State.reholdHead (s : State) (g : GroupId) (why : HoldReason) (p : PortId) : State :=
  if s.heldByState g p then s.holdHead p why else s

/-- The head of port `p`, if the state of `g` holds it, returns to classifying (R11, R125). -/
def State.releaseHead (s : State) (g : GroupId) (p : PortId) : State :=
  if s.heldByState g p then s.stageHead p .classifying else s

/-- Every head that the state of `g` holds returns to classifying (R11, R12). -/
def State.releaseHeads (s : State) (g : GroupId) : State :=
  fourIds.foldl (fun s p => s.releaseHead g p) s

/-! ### REQUEST_ACCEPT, PRST_DEASSERT -/

/-- The places of a request queue (R121). -/
def queuePlaces : Nat := 8

/-- The port accepts requests (R121, R134, R135): RESET_N and PRSTp deasserted, no SOFT_RESET waiting for its response, and a place free. -/
def State.accepts (s : State) (p : PortId) : Bool :=
  !s.resetPin && !s.mgmt.resetting && !(s.port p).resetPin && decide ((s.port p).queue.length < queuePlaces)

/-- The request as the queue takes it: a write has one byte for each byte of its size, a read none (R121). -/
def acceptedRequest (r : BusRequest) (tag : Nat) : Request :=
  { kind := r.kind, addr := r.addr, size := r.size,
    data := match r.kind with
      | .read => []
      | .write => fitBytes r.size r.data
    tag := tag, stage := .waiting }

/-- REQUEST_ACCEPT (R121): the request joins the tail of the queue; where the port does not accept, the requester keeps it on its bus and nothing changes (DEDUCED, notes/assumptions/15). -/
def execRequestAccept (p : PortId) (r : BusRequest) (s : State) : Host.Outcome State Fault Refusal :=
  if s.accepts p then
    .next ((s.modPort p (fun x =>
      { x with queue := x.queue ++ [acceptedRequest r x.nextTag], nextTag := x.nextTag + 1 })).settle p)
  else .next s

/-- PRST_DEASSERT (R134): the port accepts requests again and its channel takes commands. -/
def execPrstDeassert (p : PortId) (s : State) : Host.Outcome State Fault Refusal :=
  .next (s.modPort p (fun x => { x with resetPin := false }))

end Sys2Proof.Machine
end

