-- ==== Sys2Proof/Machine/Close.lean ====
section
/-! DEFINITION. Answers at an epoch's close, the drain, popping, the finish of an undo, the entry to ROLLING_BACK and to COMMITTING's header, and the two closes of an epoch (03, 04). -/

namespace Sys2Proof.Machine

/-! ### Answers to waiting commands (R145) -/

/-- An answer on ECp (R137). -/
def State.answer (s : State) (p : PortId) (a : Answer) : State := s.emit (.answer p a)

/-- The answer `a` to the command waiting on ECp, if it is of group `g` and of a kind that `kinds` takes; the channel returns to IDLE (R138, R145). -/
def State.answerWaiting (s : State) (g : GroupId) (kinds : WaitingKind → Bool) (a : Answer) (p : PortId) : State :=
  match (s.port p).channel with
  | none => s
  | some o =>
    if o.group = g ∧ kinds o.kind = true then
      (s.modPort p (fun x => { x with channel := none })).answer p a
    else s

/-- The same answer to every such command, each on its own channel (R145). -/
def State.answerAll (s : State) (g : GroupId) (kinds : WaitingKind → Bool) (a : Answer) : State :=
  fourIds.foldl (fun s p => s.answerWaiting g kinds a p) s

/-- A vote (R145, commit point). -/
def WaitingKind.isVote (k : WaitingKind) : Bool :=
  match k with
  | .voteCommit => true
  | .undo => false
  | .voteAbort => false

/-- An undo (R145, finish of an undo). -/
def WaitingKind.isUndo (k : WaitingKind) : Bool :=
  match k with
  | .undo => true
  | .voteCommit => false
  | .voteAbort => false

/-- Any waiting command (R145, close of a rollback and entry to FAULTED). -/
def WaitingKind.isAny (k : WaitingKind) : Bool :=
  match k with
  | .undo => true
  | .voteCommit => true
  | .voteAbort => true

/-! ### Counters -/

/-- A group with one of its statistic counters changed (R20). -/
def Group.modStats (x : Group) (f : Stats → Stats) : Group := { x with stats := f x.stats }

/-- The commits counter rises (R20). -/
def Stats.addCommit (t : Stats) : Stats := { t with commits := countUp statLimit t.commits }

/-- The rollbacks counter rises (R20). -/
def Stats.addRollback (t : Stats) : Stats := { t with rollbacks := countUp statLimit t.rollbacks }

/-- The undos counter rises (R20). -/
def Stats.addUndo (t : Stats) : Stats := { t with undos := countUp statLimit t.undos }

/-- The records-appended counter rises (R20). -/
def Stats.addRecord (t : Stats) : Stats := { t with recordsAppended := countUp statLimit t.recordsAppended }

/-- The overflow-refusals counter rises (R20). -/
def Stats.addOverflow (t : Stats) : Stats := { t with overflowRefusals := countUp statLimit t.overflowRefusals }

/-- The hold-expiries counter rises (R20). -/
def Stats.addExpiry (t : Stats) : Stats := { t with holdExpiries := countUp statLimit t.holdExpiries }

/-! ### Phases of the unwind and rollback contexts -/

/-- The phase of the undo or rollback running in the group (03, 04). -/
def Group.phase (x : Group) : Option Phase :=
  match x.state with
  | .unwinding => x.unwind.map (fun u => u.phase)
  | .rollingBack => x.rollback.map (fun r => r.phase)
  | _ => none

/-- The slot whose pop is in progress (03, 04). -/
def Group.popSlot (x : Group) : Option Nat :=
  match x.state with
  | .unwinding => x.unwind.bind (fun u => u.slot)
  | .rollingBack => x.rollback.bind (fun r => r.slot)
  | _ => none

/-- The running undo or rollback enters a phase, with the slot of the pop in progress. -/
def Group.atPhase (x : Group) (ph : Phase) (slot : Option Nat) : Group :=
  match x.state with
  | .unwinding => { x with unwind := x.unwind.map (fun u => { u with phase := ph, slot := slot }) }
  | .rollingBack => { x with rollback := x.rollback.map (fun r => { r with phase := ph, slot := slot }) }
  | _ => x

/-! ### Finishing an undo (R58) -/

/-- The group as the finish of an undo to mark `m` leaves it (R58). -/
def Group.undone (x : Group) (m : Nat) : Group :=
  { x.modStats Stats.addUndo with marks := x.marks.take m, unwind := none, state := .opened, putBack := [] }

/-- The undo finishes (R58): its group is OPEN at level m, the UNDO is answered DONE, and the held heads are released. -/
def State.finishUndo (s : State) (g : GroupId) : State :=
  match (s.group g).unwind with
  | none => s
  | some u =>
    (((s.modGroup g (fun x => x.undone u.target)).answerWaiting g WaitingKind.isUndo
      (.undoDone u.target (s.group g).journalLength) u.port)).releaseHeads g

/-! ### Popping (R55 to R57, R78) -/

/-- The group hands on the write of a closing or commit header for its current epoch (R72, R79, R91). -/
def State.handHeader (s : State) (g : GroupId) (h : HeaderState) (role : Role) : State :=
  s.handSlotWrite g .journal (copyFor (s.group g).currentEpoch).slot
    (headerSlot g (copyFor (s.group g).currentEpoch) h (s.group g).currentEpoch (s.group g).config.slots) role

/-- The next pop begins, or popping ends at length 0 (R56, R78): an undo finishes, a rollback enters HEADER (R79). -/
def State.nextPop (s : State) (g : GroupId) : State :=
  if (s.group g).journalLength = 0 then
    match (s.group g).state with
    | .rollingBack => (s.modGroup g (fun x => x.atPhase .header none)).handHeader g .rolledBack .rollbackHeader
    | _ => s.finishUndo g
  else
    (s.modGroup g (fun x => x.atPhase .pop (some (1 + x.journalLength)))).handSlotRead g
      (1 + (s.group g).journalLength) .popRead

/-- The drain has ended: phase CLEAR clears slot 2 + journal length, or popping begins when there is no such slot (R55, R78). -/
def State.beginClear (s : State) (g : GroupId) : State :=
  if (s.group g).journalLength < (s.group g).capacity then
    (s.modGroup g (fun x => x.atPhase .clear none)).handClearing g (2 + (s.group g).journalLength) .clearPhase
  else s.nextPop g

/-! ### The drains (R54, R70, R77) -/

/-- The drain of an undo or a rollback has ended (R54, R77). -/
def State.drained (s : State) (g : GroupId) : Bool :=
  (s.group g).phase == some .drain && (s.group g).step.isNone && !s.writesUnanswered g

/-- The drain by completion of a commit has ended and its header write is not handed on yet (R70, R72). -/
def State.commitDrained (s : State) (g : GroupId) : Bool :=
  (s.group g).queue.isEmpty && (s.group g).step.isNone && !s.writesUnanswered g && !s.ownTxn g

/-- At the first event at which its drain has ended, a group goes on: to phase CLEAR (R54, R77), or to the commit header (R72). -/
def State.drainCheck (s : State) (g : GroupId) : State :=
  match (s.group g).state with
  | .unwinding => if s.drained g then s.beginClear g else s
  | .rollingBack => if s.drained g then s.beginClear g else s
  | .committing => if s.commitDrained g then s.handHeader g .committed .commitHeader else s
  | _ => s

/-- Every write in the journal queue whose step has not begun, in queue order (R54, R77). -/
def Group.unbegun (x : Group) : List PortId :=
  match x.step with
  | none => x.queue
  | some st => x.queue.filter (fun p => st.owner != some p)

/-- The write of the step in progress, which stays in the queue through a drain (R54). -/
def Group.begun (x : Group) : List PortId :=
  match x.step with
  | none => []
  | some st => x.queue.filter (fun p => st.owner == some p)

/-- The queued writes whose step has not begun are put back, held for `why`; a held head's timer stops (R12, R44, R54, R77). -/
def State.putBackQueue (s : State) (g : GroupId) (why : HoldReason) : State :=
  ((s.group g).unbegun.foldl (fun s p => s.holdHead p why) s).modGroup g
    (fun x => { x with queue := x.begun, hold := none, putBack := x.putBack ++ x.unbegun })

/-! ### Entry to ROLLING_BACK (R76, R61) -/

/-- The rollback context at entry, by where the group stands (R76). -/
def Group.rollbackAtEntry (x : Group) (cause : CloseCause) : RollbackContext :=
  match x.state, x.unwind with
  | .unwinding, some u => { cause := cause, phase := u.phase, slot := u.slot }
  | _, _ => { cause := cause, phase := .drain, slot := none }

/-- The unwind context stays while a pop begun under UNWINDING completes (R61). -/
def Group.unwindAtEntry (x : Group) : Option UnwindContext :=
  match x.unwind with
  | none => none
  | some u => if u.slot.isSome then some u else none

/-- The group takes an abort cause in OPEN, VOTING or UNWINDING and enters ROLLING_BACK (R76). -/
def Group.intoRollback (x : Group) (cause : CloseCause) : Group :=
  { x with
    rollback := some (x.rollbackAtEntry cause)
    unwind := x.unwindAtEntry
    lastClose := cause
    voteTimer := none
    state := .rollingBack }

/-- Entry to ROLLING_BACK (R76, R77): requests held by UNWINDING are now held by ROLLING_BACK, the queue is put back, and the drain may end at once. -/
def State.enterRollingBack (s : State) (g : GroupId) (cause : CloseCause) : State :=
  (((fourIds.foldl (fun s p => s.reholdHead g .rollingBack p) s).modGroup g
    (fun x => x.intoRollback cause)).putBackQueue g .rollingBack).drainCheck g

/-- The states in which an abort cause enters ROLLING_BACK (R13). -/
def GroupState.abortable (st : GroupState) : Bool :=
  match st with
  | .opened => true
  | .voting => true
  | .unwinding => true
  | .disabled => false
  | .unverified => false
  | .formatting => false
  | .recovering => false
  | .closed => false
  | .committing => false
  | .rollingBack => false
  | .faulted => false

/-- An abort cause reaches the group: it enters ROLLING_BACK in OPEN, VOTING and UNWINDING and changes nothing elsewhere (R13). -/
def State.abortCause (s : State) (g : GroupId) (cause : CloseCause) : State :=
  if (s.group g).state.abortable then s.enterRollingBack g cause else s

/-! ### Opening and the two closes of an epoch -/

/-- The group as the opening of an epoch leaves it (R8). -/
def Group.openedEpoch (x : Group) : Group :=
  { x with
    state := .opened
    marks := []
    journalLength := 0
    step := none
    effectiveQuota := x.config.quota
    voteSet := FourSet.empty
    voteTimer := none
    queue := []
    hold := none
    putBack := [] }

/-- The last epoch number that a group may open the epoch after (R7; DEDUCED, notes/assumptions/25). -/
def lastOpenable : Epoch := 0xFFFFFFFD#32

/-- An epoch opens (R8). -/
def State.openEpoch (s : State) (g : GroupId) : State :=
  (s.setTable (dropGroup g s.table)).modGroup g Group.openedEpoch

/-- The group as the commit point leaves it (R73). -/
def Group.committedEpoch (x : Group) : Group :=
  { x.modStats Stats.addCommit with
    closedEpoch := x.currentEpoch
    marks := []
    journalLength := 0
    step := none
    lastClose := .commit
    state := .closed
    voteSet := FourSet.empty }

/-- The commit point of a group, but for the heads of other groups that take up the freed entries (R73). -/
def State.commitPoint (s : State) (g : GroupId) : State :=
  ((((s.setTable (dropGroup g s.table)).modGroup g Group.committedEpoch).answerAll g WaitingKind.isVote
    (.committed (s.group g).currentEpoch))).releaseHeads g

/-- The close cause asks for AUTO_ROLLBACK (R85): every cause but VOTE_ABORT. -/
def CloseCause.automatic (c : CloseCause) : Bool :=
  match c with
  | .voteAbort _ => false
  | .noClose => true
  | .commit => true
  | .voteTimeout => true
  | .portReset _ => true
  | .trigger _ => true
  | .management => true
  | .overflow => true
  | .recovery => true

/-- The group as the close of a rollback leaves it (R80). -/
def Group.rolledBackEpoch (x : Group) : Group :=
  { x.modStats Stats.addRollback with
    closedEpoch := x.currentEpoch
    marks := []
    rollback := none
    unwind := none
    state := .closed
    voteSet := FourSet.empty
    putBack := [] }

/-- AUTO_ROLLBACK(g) latches unless a participant asked for the rollback (R85). -/
def State.latchRollback (s : State) (g : GroupId) (c : CloseCause) : State :=
  if c.automatic then s.latch (.autoRollback g) else s

/-- The close of a rollback (R80, R81, R85). -/
def State.rollbackClose (s : State) (g : GroupId) : State :=
  (((s.modGroup g Group.rolledBackEpoch).answerAll g WaitingKind.isAny
    (.rolledBack (s.group g).currentEpoch (s.group g).lastClose)).latchRollback g (s.group g).lastClose).releaseHeads g

end Sys2Proof.Machine
end

