-- ==== Sys2Proof/Machine/Journal.lean ====
section
/-! DEFINITION. The journal path: the judgement against the tracking table, the journal queue, the journaling step and its reservation, overflow and holds, and the end of a step (02); the meaning of HOLD_EXPIRY. -/

namespace Sys2Proof.Machine

/-! ### Tracking entries of a step (R25, R26) -/

/-- The entry is DURABLE at a level (R24). -/
def TrackEntry.durableAt (e : TrackEntry) (l : Nat) : Bool := e.staged.isNone && e.durable == some l

/-- The entry that a reservation creates or stages (R25). -/
def stagedEntry (g : GroupId) (b : Block) (l : Nat) (old : Option TrackEntry) : TrackEntry :=
  match old with
  | none => { block := b, group := g, durable := none, staged := some l, waiters := [] }
  | some e => { e with staged := some l }

/-- The entry once its record is acknowledged: DURABLE at the staged level, its waiting list released (R26). -/
def TrackEntry.acknowledged (e : TrackEntry) (l : Nat) : TrackEntry :=
  { e with durable := some l, staged := none, waiters := [] }

/-- The table once the record of a block at level `l` is acknowledged (R26, R36). -/
def acknowledgeEntry (b : Block) (l : Nat) (table : List TrackEntry) : List TrackEntry :=
  match findEntry table b with
  | none => table
  | some e => putEntry (e.acknowledged l) table

/-- The table once the step of a block failed: the entry is removed, or DURABLE again at its old level (R26). -/
def failEntry (b : Block) (prior : Option Nat) (table : List TrackEntry) : List TrackEntry :=
  match prior, findEntry table b with
  | none, _ => dropEntry b table
  | some _, none => table
  | some l, some e => putEntry (e.acknowledged l) table

/-- The waiting list of a block's entry (R27). -/
def waitersOf (table : List TrackEntry) (b : Block) : List PortId :=
  match findEntry table b with
  | none => []
  | some e => e.waiters

/-- The table with a port at the tail of the waiting list of a block's entry (R27). -/
def joinWaiters (b : Block) (p : PortId) (table : List TrackEntry) : List TrackEntry :=
  match findEntry table b with
  | none => table
  | some e => putEntry { e with waiters := e.waiters ++ [p] } table

/-- The table with a port on no waiting list (R47). -/
def leaveWaiters (p : PortId) (table : List TrackEntry) : List TrackEntry :=
  table.map (fun e => { e with waiters := e.waiters.filter (fun q => q != p) })

/-! ### The start of a step (R32, R33) -/

/-- The capacity check for a write to block `b` (R33): the first test met. -/
def State.capacityCheck (s : State) (g : GroupId) (b : Block) : Option Overflow :=
  if (s.group g).capacity ≤ (s.group g).journalLength then some .journalFull
  else if (findEntry s.table b).isNone ∧
      (tableCapacity ≤ s.table.length ∨ (s.group g).effectiveQuota ≤ s.entriesOf g) then some .trackFull
  else none

/-- What the start of a step comes to for a head writing block `b` (R32, R33). -/
inductive StartDecision where
  | issue
  | reserve
  | overflow (o : Overflow)
deriving DecidableEq, Repr

/-- The block's entry is DURABLE at the group's current level (R28, R32). -/
def State.durableNow (s : State) (g : GroupId) (b : Block) : Bool :=
  match findEntry s.table b with
  | none => false
  | some e => e.durableAt (s.group g).level

/-- The judgement and capacity check at the start of a step (R32, R33). -/
def State.startDecision (s : State) (g : GroupId) (b : Block) : StartDecision :=
  if s.durableNow g b then .issue
  else
    match s.capacityCheck g b with
    | some o => .overflow o
    | none => .reserve

/-- The level of a block's durable record, absent for a new block (R25). -/
def State.priorLevel (s : State) (b : Block) : Option Nat := (findEntry s.table b).bind (fun e => e.durable)

/-- The step that a reservation fixes (R34). -/
def State.stepFor (s : State) (g : GroupId) (p : PortId) (b : Block) : JournalStep :=
  { owner := some p, block := b, level := (s.group g).level, prior := s.priorLevel b,
    slot := 2 + (s.group g).journalLength, sequence := (s.group g).journalLength + 1,
    epoch := (s.group g).currentEpoch }

/-- The reservation (R34): the entry is created or staged, the step begins, and the old-block read is handed on; a hold of the head ends (R41). -/
def State.reserve (s : State) (g : GroupId) (p : PortId) : State :=
  ((((s.setTable (putEntry (stagedEntry g (s.headBlock p) (s.group g).level (findEntry s.table (s.headBlock p)))
        s.table)).modGroup g
      (fun x => { x with step := some (s.stepFor g p (s.headBlock p)), hold := none })).stageHead p .inQueue)).handOn
    (ownOf g .journal .read (blockAddr (s.headBlock p)) 64 [] .oldBlockRead)

/-! ### Overflow (R40 to R46) -/

/-- The refusal reason of an overflow (R33). -/
def Overflow.reason (o : Overflow) : RefusalReason :=
  match o with
  | .journalFull => .journalFull
  | .trackFull => .trackFull

/-- The head of the group's queue has left it; a hold of it ends. -/
def Group.headLeaves (x : Group) : Group := { x with queue := x.queue.tail, hold := none }

/-- The head leaves the queue refused with its overflow reason, and the counter rises (R40, R45, R46). -/
def State.refuseOverflow (s : State) (g : GroupId) (p : PortId) (o : Overflow) : State :=
  (s.modGroup g (fun x => x.headLeaves.modStats Stats.addOverflow)).refuseHead p o.reason

/-- The head is held under HOLD and its hold timer starts (R41). -/
def State.beginHold (s : State) (g : GroupId) (p : PortId) (o : Overflow) : State :=
  { (s.modGroup g (fun x =>
      { x with hold := some { reason := o, timer := x.config.holdLimit, since := s.nextHold } })).holdHead p (.overflow o)
    with nextHold := s.nextHold + 1 }

/-- What is done with a head that meets an overflow (R40, R41, R45, R46). -/
inductive OverflowAct where
  | refuse
  | hold
  | abort
deriving DecidableEq, Repr

/-- The group's overflow policy, not consulted in COMMITTING (R46). -/
def Group.overflowAct (x : Group) : OverflowAct :=
  match x.state, x.config.policy with
  | .committing, _ => .refuse
  | _, .refuse => .refuse
  | _, .hold => .hold
  | _, .abort => .abort

/-! ### Running the queue (R31) -/

/-- The states in which a head starts its step (R31). -/
def GroupState.journals (st : GroupState) : Bool :=
  match st with
  | .opened => true
  | .voting => true
  | .committing => true
  | .disabled => false
  | .unverified => false
  | .formatting => false
  | .recovering => false
  | .closed => false
  | .unwinding => false
  | .rollingBack => false
  | .faulted => false

/-- The head may start its step: the state journals, no step is in progress and no head is held (R31, R41). -/
def Group.canStart (x : Group) : Bool := x.state.journals && x.step.isNone && x.hold.isNone

/-- The heads in `q` start one after the other until one has its step, is held, or the group aborts (R31, R32, R40, R41, R45, R46). -/
def State.runQueue (s : State) (g : GroupId) (q : List PortId) : State :=
  match q with
  | [] => s
  | p :: rest =>
    if (s.group g).canStart then
      match s.startDecision g (s.headBlock p) with
      | .issue => ((s.modGroup g Group.headLeaves).issueHead p (some g)).runQueue g rest
      | .reserve => s.reserve g p
      | .overflow o =>
        match (s.group g).overflowAct with
        | .refuse => (s.refuseOverflow g p o).runQueue g rest
        | .hold => s.beginHold g p o
        | .abort => (s.refuseOverflow g p o).abortCause g .overflow
    else s

/-- The head of the group's queue starts its step, if it may (R31). -/
def State.startHeads (s : State) (g : GroupId) : State := s.runQueue g (s.group g).queue

/-- The head of port `p` stands at the tail of the group's journal queue (R30). -/
def State.enqueue (s : State) (g : GroupId) (p : PortId) : State :=
  (s.stageHead p .inQueue).modGroup g (fun x => { x with queue := x.queue ++ [p] })

/-- The head of port `p` joins the tail of the group's journal queue (R28, R30); one that joins an empty queue starts its step, if it may (R31). -/
def State.joinQueue (s : State) (g : GroupId) (p : PortId) : State :=
  if (s.group g).queue.isEmpty then (s.enqueue g p).startHeads g else s.enqueue g p

/-- The head of port `p` joins the waiting list of its block's entry (R27). -/
def State.joinWaiting (s : State) (p : PortId) : State :=
  (s.setTable (joinWaiters (s.headBlock p) p s.table)).stageHead p .waitingOnEntry

/-- The judgement of a write on the journal path (R28); `joined` is the state in which the write has joined the journal queue, where the judgement sends it there. -/
def State.judgeTo (s : State) (g : GroupId) (p : PortId) (joined : State) : State :=
  match findEntry s.table (s.headBlock p) with
  | none => joined
  | some e =>
    if e.staged.isSome then s.joinWaiting p
    else if e.durableAt (s.group g).level then s.issueHead p (some g)
    else joined

/-- The judgement of a write on the journal path, which starts its step at once where it joins an empty queue (R28, R31). -/
def State.judge (s : State) (g : GroupId) (p : PortId) : State := s.judgeTo g p (s.joinQueue g p)

/-! ### Held heads retake their check (R41, R43) -/

/-- The held head of the group retakes its step from the start (R41): it reserves, is issued without a record, or stays held with the reason found now. -/
def State.retakeHead (s : State) (g : GroupId) : State :=
  match (s.group g).hold, (s.group g).queue with
  | some h, p :: _ =>
    match s.startDecision g (s.headBlock p) with
    | .issue => ((s.modGroup g Group.headLeaves).issueHead p (some g)).startHeads g
    | .reserve => s.reserve g p
    | .overflow o =>
      (s.modGroup g (fun x => { x with hold := some { h with reason := o } })).holdHead p (.overflow o)
  | _, _ => s

/-- When the hold of the group began (R43). -/
def Group.holdSince (x : Group) : Nat :=
  match x.hold with
  | none => 0
  | some h => h.since

/-- The groups with a held head, oldest hold first (R43). -/
def State.heldGroups (s : State) : List GroupId :=
  (fourIds.filter (fun g => (s.group g).hold.isSome)).insertionSort
    (fun g k => (s.group g).holdSince ≤ (s.group k).holdSince)

/-- Every held head retakes its check, oldest hold first (R41, R43). -/
def State.retakeAll (s : State) : State := s.heldGroups.foldl (fun s g => s.retakeHead g) s

/-! ### The end of a step (R36 to R39) -/

/-- A write released from a waiting list passes admission again under the group state of the moment (R27); `joined` is the state in which it has joined the journal queue. -/
def State.releaseTo (s : State) (g : GroupId) (p : PortId) (joined : State) : State :=
  match (s.group g).state with
  | .opened => s.judgeTo g p joined
  | .voting => s.judgeTo g p joined
  | .unwinding => s.holdHead p .unwinding
  | .committing => s.holdHead p .committing
  | .rollingBack => s.holdHead p .rollingBack
  | _ => s.stageHead p .classifying

/-- The release of one write at the acknowledgement of a record (R27, R38): one that joins an empty queue starts its step (R31). -/
def State.releaseWaiter (s : State) (g : GroupId) (p : PortId) : State := s.releaseTo g p (s.joinQueue g p)

/-- The writes released at the acknowledgement of a record are taken one by one in list order (R27). -/
def State.releaseWaiters (s : State) (g : GroupId) (ps : List PortId) : State :=
  ps.foldl (fun s p => s.releaseWaiter g p) s

/-- The release of one write at the end of a failed step (R27, R39): it joins the queue, and no step starts before the whole list is released (R37). -/
def State.queueWaiter (s : State) (g : GroupId) (p : PortId) : State := s.releaseTo g p (s.enqueue g p)

/-- The writes released at the end of a failed step join the queue one by one in list order (R27, R39). -/
def State.queueWaiters (s : State) (g : GroupId) (ps : List PortId) : State :=
  ps.foldl (fun s p => s.queueWaiter g p) s

/-- The write of a step leaves the queue (R37, R38). -/
def Group.stepWriteLeaves (x : Group) (owner : Option PortId) : Group :=
  { x with queue := x.queue.filter (fun p => owner != some p) }

/-- The group at a record's acknowledgement (R36). -/
def Group.recordDurable (x : Group) : Group :=
  { x.modStats Stats.addRecord with journalLength := x.journalLength + 1, step := none }

/-- The course of the step's own write at the acknowledgement of its record in UNWINDING or ROLLING_BACK: onto the put-back list, held (R12, R38). -/
def State.putBackStepWrite (s : State) (g : GroupId) (owner : Option PortId) (why : HoldReason) : State :=
  match owner with
  | none => s
  | some p =>
    (s.modGroup g (fun x => { x.stepWriteLeaves owner with putBack := x.putBack ++ [p] })).holdHead p why

/-- The course of the step's own write at the acknowledgement of its record (R38). In OPEN, VOTING and COMMITTING the start of the queue's head does it: an entry DURABLE at the group's level issues the write, one at a lower level journals it again. -/
def State.settleStepWrite (s : State) (g : GroupId) (owner : Option PortId) : State :=
  match (s.group g).state with
  | .unwinding => s.putBackStepWrite g owner .unwinding
  | .rollingBack => s.putBackStepWrite g owner .rollingBack
  | _ => s.startHeads g

/-- A record is durable (R36, R38, R27): its own write is dealt with, then its entry's waiting list is released, and a drain may have ended (DEDUCED, notes/assumptions/16). -/
def State.recordAcknowledged (s : State) (g : GroupId) (st : JournalStep) : State :=
  (((((s.setTable (acknowledgeEntry st.block st.level s.table)).modGroup g Group.recordDurable).settleStepWrite g
    st.owner)).releaseWaiters g (waitersOf s.table st.block)).drainCheck g

/-- The step's own write is refused MEMORY_ERROR and leaves the queue (R37, R39). -/
def State.refuseStepWrite (s : State) (g : GroupId) (owner : Option PortId) : State :=
  match owner with
  | none => s
  | some p => (s.modGroup g (fun x => x.stepWriteLeaves owner)).refuseHead p .memoryError

/-- Some group has a held head. -/
def State.anyHeld (s : State) : Bool := fourIds.any (fun g => (s.group g).hold.isSome)

/-- The waiting list is released, and then the group's next head starts its step (R37, R39; DEDUCED, notes/assumptions/16). -/
def State.afterFailure (s : State) (g : GroupId) (ps : List PortId) : State :=
  (s.queueWaiters g ps).startHeads g

/-- The freed entry is offered to the held heads and to the group's own next head; the spec lets either be taken first (R43, DESIGN CHOICE, notes/assumptions/5). -/
def State.shareFreed (s : State) (g : GroupId) (ps : List PortId) : State :=
  if Config.orderChoice s.draws then (s.drawn.retakeAll).afterFailure g ps
  else (s.drawn.afterFailure g ps).retakeAll

/-- A step has ended without a record (R37, R39): its entry is removed or reverted, and its write is refused. -/
def State.endFailedStep (s : State) (g : GroupId) (st : JournalStep) : State :=
  ((s.setTable (failEntry st.block st.prior s.table)).modGroup g (fun x => { x with step := none })).refuseStepWrite g
    st.owner

/-- The group has a write that could take up an entry freed at this event. -/
def State.wantsFreed (s : State) (g : GroupId) (ps : List PortId) : Bool :=
  s.anyHeld && !((s.group g).queue.isEmpty && ps.isEmpty)

/-- What follows the end of a failed step (R37, R41): the waiting list is released and the next head starts, and where an entry was removed the held heads retake their checks. -/
def State.shareAfterFailure (s : State) (g : GroupId) (st : JournalStep) (ps : List PortId) : State :=
  if st.prior.isSome then s.afterFailure g ps
  else if s.wantsFreed g ps then s.shareFreed g ps
  else (s.afterFailure g ps).retakeAll

/-- A step ends without a record (R37, R39). -/
def State.stepFailed (s : State) (g : GroupId) (st : JournalStep) : State :=
  ((s.endFailedStep g st).shareAfterFailure g st (waitersOf s.table st.block)).drainCheck g

/-! ### HOLD_EXPIRY -/

/-- The refusal reason of a held head at its expiry is its hold reason (R42). -/
def State.expireHold (s : State) (g : GroupId) (p : PortId) (h : Hold) : State :=
  (((s.modGroup g (fun x => x.headLeaves.modStats Stats.addExpiry)).refuseHead p h.reason.reason)).startHeads g

/-- HOLD_EXPIRY (R42): the held head is refused with its hold reason and the next head starts its step; without a running hold timer nothing happens. -/
def execHoldExpiry (g : GroupId) (s : State) : Host.Outcome State Fault Refusal :=
  match (s.group g).hold, (s.group g).queue with
  | some h, p :: _ => .next (s.tick.expireHold g p h)
  | _, _ => .next s

end Sys2Proof.Machine
end

