-- ==== Sys2Proof/Machine/Classify.lean ====
section
/-! DEFINITION. Classification of the head of a port by journal areas, the active map, grants, kinds and participant sets (06), admission by the group's state and auto-open (01), and entry to FAULTED, which classifies again what the group held; the meaning of CLASSIFICATION. -/

namespace Sys2Proof.Machine

/-! ### Classification (R116 to R120) -/

/-- The request is well-formed (R122). -/
def Request.wellFormed (r : Request) : Bool :=
  [1, 2, 4, 8, 16, 32, 64].contains r.size && decide (r.addr.toNat % r.size = 0)

/-- The byte range of an enabled journal area holds the byte (R1, R87). -/
def GroupConfig.areaHolds (c : GroupConfig) (byte : Nat) : Bool :=
  decide (c.slots ≠ 0) && decide (c.base.toNat ≤ byte) && decide (byte < c.base.toNat + 128 * c.slots)

/-- The block lies inside the journal area of a group whose slot count is nonzero (R116). -/
def State.inJournalArea (s : State) (b : Block) : Bool :=
  fourIds.any (fun g => (s.group g).config.areaHolds (b.toNat * 64))

/-- A valid entry covers a block between its base and its limit, both included (R106). -/
def DomainEntry.covers (d : DomainEntry) (b : Block) : Bool :=
  d.valid && decide (d.base.toNat ≤ b.toNat) && decide (b.toNat ≤ d.limit.toNat)

/-- The entries' numbers in rising order. -/
def entryIds : List EntryId := [0, 1, 2, 3, 4, 5, 6, 7, 8, 9, 10, 11, 12, 13, 14, 15]

/-- The entry of the active map that covers the block (R117). -/
def State.domainOf (s : State) (b : Block) : Option EntryId := entryIds.find? (fun i => s.map.active[i].covers b)

/-- The group that a domain names: present when its kind is JOURNALED (R106, R107). -/
def DomainEntry.journalGroup (d : DomainEntry) : Option GroupId :=
  match d.kind with
  | .journaled => d.group
  | .passing => none
  | .guarded => none

/-- The grant lets the access through (R118, step 3). -/
def Grant.permits (x : Grant) (k : AccessKind) : Bool :=
  match x, k with
  | .noAccess, _ => false
  | .read, .read => true
  | .read, .write => false
  | .readWrite, _ => true

/-- What classification decides (R115): a refusal, passing through, or the admission of a group, with the domain and group it found (R124). -/
inductive Verdict where
  | refuse (why : RefusalReason) (d : Option EntryId) (g : Option GroupId)
  | pass (d : Option EntryId)
  | handOver (d : EntryId) (g : GroupId)
deriving DecidableEq, Repr

/-- Step 6 of classification (R119). A JOURNALED entry without a group is never active (R110, R114); DEDUCED, notes/assumptions/8. -/
def State.journaledVerdict (s : State) (p : PortId) (k : AccessKind) (i : EntryId) : Verdict :=
  match s.map.active[i].group with
  | none => .refuse .groupUnverified (some i) none
  | some g =>
    if k = .write ∧ (s.group g).config.participants.get p = false then .refuse .notParticipant (some i) (some g)
    else .handOver i g

/-- Steps 3 to 6 of classification in domain `i` (R118, R119). -/
def State.domainVerdict (s : State) (p : PortId) (k : AccessKind) (i : EntryId) : Verdict :=
  if (s.map.active[i].grants.get p).permits k then
    match s.map.active[i].kind with
    | .passing => .pass (some i)
    | .guarded =>
      match k with
      | .read => .pass (some i)
      | .write => .refuse .readOnly (some i) none
    | .journaled => s.journaledVerdict p k i
  else .refuse .noGrant (some i) s.map.active[i].journalGroup

/-- The classification of a request of port `p` (R122, R116 to R119): the first step that decides. -/
def State.verdict (s : State) (p : PortId) (r : Request) : Verdict :=
  if r.wellFormed then
    if s.inJournalArea (blockOf r.addr) then .refuse .journalArea none none
    else
      match s.domainOf (blockOf r.addr) with
      | none => .pass none
      | some i => s.domainVerdict p r.kind i
  else .refuse .malformed none none

/-! ### Opening and admission (R8 to R10) -/

/-- Why the opening of an epoch in CLOSED is refused (R8): a pending activation comes before the epoch limit. -/
inductive OpenRefusal where
  | mapPending
  | epochLimit
deriving DecidableEq, Repr

/-- The refusal of an opening, if it is refused (R7, R8). -/
def State.openRefusal (s : State) (g : GroupId) : Option OpenRefusal :=
  if s.map.pending then some .mapPending
  else if lastOpenable.toNat < (s.group g).closedEpoch.toNat then some .epochLimit
  else none

/-- The refusal reason of a write whose auto-open is refused (R9). -/
def OpenRefusal.reason (o : OpenRefusal) : RefusalReason :=
  match o with
  | .mapPending => .mapPending
  | .epochLimit => .epochLimit

/-- A participant's write reaches a CLOSED group (R9): it is refused NO_EPOCH without auto-open, or opens the epoch and goes on into its journal path. -/
def State.autoOpen (s : State) (g : GroupId) (p : PortId) : State :=
  if (s.group g).config.autoOpen then
    match s.openRefusal g with
    | some o => s.refuseHead p o.reason
    | none => (s.openEpoch g).judge g p
  else s.refuseHead p .noEpoch

/-- Admission of the head of port `p` by the state of group `g` (R10). DISABLED admits nothing (R114; DEDUCED, notes/assumptions/8). -/
def State.admission (s : State) (g : GroupId) (p : PortId) (k : AccessKind) : State :=
  match (s.group g).state, k with
  | .disabled, _ => s.refuseHead p .groupUnverified
  | .unverified, _ => s.refuseHead p .groupUnverified
  | .formatting, _ => s.refuseHead p .groupUnverified
  | .recovering, _ => s.refuseHead p .groupUnverified
  | .closed, .read => s.issueHead p none
  | .closed, .write => s.autoOpen g p
  | .opened, .read => s.issueHead p none
  | .opened, .write => s.judge g p
  | .voting, .read => s.issueHead p none
  | .voting, .write => if (s.group g).voteSet.get p then s.refuseHead p .voted else s.judge g p
  | .unwinding, _ => s.holdHead p .unwinding
  | .committing, .read => s.issueHead p none
  | .committing, .write => s.holdHead p .committing
  | .rollingBack, _ => s.holdHead p .rollingBack
  | .faulted, _ => s.refuseHead p .groupFaulted

/-- The head of port `p` is classified, and what follows is done at the same event (R115, R125). -/
def State.classify (s : State) (p : PortId) : State :=
  match s.head p with
  | none => s
  | some r =>
    match s.verdict p r with
    | .refuse why d g => (s.setHeadClass p d g).refuseHead p why
    | .pass d => (s.setHeadClass p d none).issueHead p none
    | .handOver d g => (s.setHeadClass p (some d) (some g)).admission g p r.kind

/-- CLASSIFICATION (R115): taken when the head of the port is in the stage classifying. -/
def execClassification (p : PortId) (s : State) : Host.Outcome State Fault Refusal :=
  if s.headStage p = some .classifying then .next (s.tick.classify p) else .next s

/-! ### Entry to FAULTED (R15) -/

/-- The head of the port stands inside the group: held, on a waiting list or in its queue. -/
def State.headInside (s : State) (g : GroupId) (p : PortId) : Bool :=
  match s.headStage p with
  | some (.held _) => (s.port p).headGroup == some g
  | some .waitingOnEntry => (s.port p).headGroup == some g
  | some .inQueue => (s.port p).headGroup == some g
  | _ => false

/-- The group as its entry to FAULTED leaves it (R15). -/
def Group.intoFaulted (x : Group) (f : FaultRecord) : Group :=
  { x with
    fault := f
    marks := []
    voteSet := FourSet.empty
    voteTimer := none
    queue := []
    step := none
    hold := none
    putBack := []
    unwind := none
    rollback := none
    recovery := none
    state := .faulted }

/-- The group's own transactions are orphaned at its entry to FAULTED (R157). -/
def Txn.orphanedByFault (g : GroupId) (t : Txn) : Txn := if t.isOwn g then { t with orphan := .byFault } else t

/-- The heads that stand inside the group are classified again at this event (R15). -/
def State.reclassify (s : State) (ps : List PortId) : State := ps.foldl (fun s p => s.classify p) s

/-- Entry to FAULTED (R15): the fault record, FAULT(g), the release of the entries, the emptied context, the refusal of what the group held, the answers, and the freed entries offered to other groups' held heads (R41). -/
def State.enterFaulted (s : State) (g : GroupId) (f : FaultRecord) : State :=
  ((((((s.setTable (dropGroup g s.table)).modGroup g (fun x => x.intoFaulted f)).mapTxns
    (Txn.orphanedByFault g)).latch (.fault g)).reclassify (fourIds.filter (s.headInside g))).answerAll g
      WaitingKind.isAny (.faulted f.kind f.epoch)).retakeAll

/-- Entry to FAULTED at a failure of kind `k` with the group's current epoch (R16). -/
def State.faultNow (s : State) (g : GroupId) (k : FaultKind) (slot : Option Nat) (b : Option Block) : State :=
  s.enterFaulted g { kind := k, epoch := (s.group g).currentEpoch, slot := slot, block := b }

end Sys2Proof.Machine
end

