-- ==== Sys2Proof/Machine/Channel.lean ====
section
/-! DEFINITION. The epoch channels: the tests every command meets, and the meanings of BEGIN, MARK, UNDO, VOTE_COMMIT, VOTE_ABORT, QUERY, UNKNOWN_COMMAND and VOTE_TIMEOUT (08, R136 to R149; 03, R50, R52; 04, R64 to R70). -/

namespace Sys2Proof.Machine

/-! ### The channel's tests (R139) -/

/-- The channel takes commands: test 1 of R139 does not discard them. -/
def State.takesCommands (s : State) (p : PortId) : Bool :=
  !(s.port p).resetPin && !s.resetPin && !s.mgmt.resetting

/-- The answer REFUSED with a reason (R137). -/
def State.refuseCommand (s : State) (p : PortId) (why : CommandReason) : State := s.answer p (.refused why)

/-- A command whose kind names a command is taken on ECp (R139): discarded, BUSY, NO_GROUP, or decided by the port's group. -/
def State.takeCommand (s : State) (p : PortId) (decide : GroupId → State → State) : State :=
  if s.takesCommands p then
    if (s.port p).channel.isSome then s.refuseCommand p .busy
    else
      match s.groupOf p with
      | none => s.refuseCommand p .noGroup
      | some g => decide g s
  else s

/-- The command waits on its channel (R138). -/
def State.wait (s : State) (p : PortId) (k : WaitingKind) (arg : Fin 8) (g : GroupId) : State :=
  s.modPort p (fun x => { x with channel := some { kind := k, arg := arg, group := g } })

/-! ### BEGIN (R140) -/

/-- The reason of a BEGIN whose opening is refused (R140). -/
def OpenRefusal.command (o : OpenRefusal) : CommandReason :=
  match o with
  | .mapPending => .mapPending
  | .epochLimit => .epochLimit

/-- BEGIN in a CLOSED group (R8, R140). -/
def State.beginClosed (s : State) (g : GroupId) (p : PortId) : State :=
  match s.openRefusal g with
  | some o => s.refuseCommand p o.command
  | none => (s.openEpoch g).answer p (.beginDone (s.group g).currentEpoch true)

/-- BEGIN by the group's state (R140). -/
def State.begin (s : State) (g : GroupId) (p : PortId) : State :=
  match (s.group g).state with
  | .closed => s.beginClosed g p
  | .opened => s.answer p (.beginDone (s.group g).currentEpoch false)
  | .voting => s.answer p (.beginDone (s.group g).currentEpoch false)
  | .unwinding => s.answer p (.beginDone (s.group g).currentEpoch false)
  | .committing => s.refuseCommand p .committing
  | .rollingBack => s.refuseCommand p .rollingBack
  | .faulted => s.refuseCommand p .faulted
  | .disabled => s.refuseCommand p .unverified
  | .unverified => s.refuseCommand p .unverified
  | .formatting => s.refuseCommand p .unverified
  | .recovering => s.refuseCommand p .unverified

/-- BEGIN (R140): its argument is not read (R136). -/
def execBegin (p : PortId) (_arg : Fin 8) (s : State) : Host.Outcome State Fault Refusal :=
  .next (s.takeCommand p (fun g s => s.begin g p))

/-! ### MARK (R50) -/

/-- The largest level (R49). -/
def levelLimit : Nat := 7

/-- MARK in an OPEN group (R50). -/
def State.pushMark (s : State) (g : GroupId) (p : PortId) : State :=
  if (s.group g).level < levelLimit then
    (s.modGroup g (fun x => { x with marks := x.marks ++ [p] })).answer p (.markDone ((s.group g).level + 1))
  else s.refuseCommand p .markLimit

/-- MARK by the group's state (R50). -/
def State.mark (s : State) (g : GroupId) (p : PortId) : State :=
  match (s.group g).state with
  | .opened => s.pushMark g p
  | .voting => s.refuseCommand p .voteInProgress
  | .unwinding => s.refuseCommand p .unwinding
  | _ => s.refuseCommand p .notOpen

/-- MARK (R50): its argument is not read (R136). -/
def execMark (p : PortId) (_arg : Fin 8) (s : State) : Host.Outcome State Fault Refusal :=
  .next (s.takeCommand p (fun g s => s.mark g p))

/-! ### UNDO (R52, R54) -/

/-- The group at its entry to UNWINDING (R52). -/
def Group.intoUnwinding (x : Group) (m : Nat) (p : PortId) : Group :=
  { x with state := .unwinding, unwind := some { target := m, port := p, phase := .drain, slot := none } }

/-- Entry to UNWINDING (R52, R54). -/
def State.enterUnwinding (s : State) (g : GroupId) (p : PortId) (m : Fin 8) : State :=
  ((((s.wait p .undo m g).modGroup g (fun x => x.intoUnwinding m.val p))).putBackQueue g .unwinding).drainCheck g

/-- UNDO in an OPEN group (R52). -/
def State.undoOpen (s : State) (g : GroupId) (p : PortId) (m : Fin 8) : State :=
  if 1 ≤ m.val ∧ m.val ≤ (s.group g).level then s.enterUnwinding g p m else s.refuseCommand p .noSuchMark

/-- UNDO by the group's state (R52). -/
def State.undo (s : State) (g : GroupId) (p : PortId) (m : Fin 8) : State :=
  match (s.group g).state with
  | .opened => s.undoOpen g p m
  | .voting => s.refuseCommand p .voteInProgress
  | .unwinding => s.refuseCommand p .unwinding
  | _ => s.refuseCommand p .notOpen

/-- UNDO(m) (R52). -/
def execUndo (p : PortId) (m : Fin 8) (s : State) : Host.Outcome State Fault Refusal :=
  .next (s.tick.takeCommand p (fun g s => s.undo g p m))

/-! ### VOTE_COMMIT (R64, R66, R69) -/

/-- The vote window timer as the first vote starts it: none for a window of 0, otherwise in microseconds (R66). -/
def GroupConfig.windowTimer (c : GroupConfig) : Option Nat := if c.voteWindow = 0 then none else some (c.voteWindow * 100)

/-- The group with the port in its vote set (R63), VOTING from OPEN with the timer started (R64, R66). -/
def Group.voted (x : Group) (p : PortId) : Group :=
  match x.state with
  | .opened => { x with state := .voting, voteSet := x.voteSet.set p true, voteTimer := x.config.windowTimer }
  | _ => { x with voteSet := x.voteSet.set p true }

/-- The group at its entry to COMMITTING (R69): a held head has left its queue. -/
def Group.intoCommitting (x : Group) : Group :=
  { x with
    state := .committing
    voteTimer := none
    queue := if x.hold.isSome then x.queue.tail else x.queue
    hold := none }

/-- The held head of the group's queue is held by the state COMMITTING (R44, R69). -/
def State.holdForCommit (s : State) (g : GroupId) : State :=
  match (s.group g).hold, (s.group g).queue with
  | some _, p :: _ => s.holdHead p .committing
  | _, _ => s

/-- Entry to COMMITTING (R69, R70). -/
def State.enterCommitting (s : State) (g : GroupId) : State :=
  (((s.holdForCommit g).modGroup g Group.intoCommitting).startHeads g).drainCheck g

/-- The vote set equals the participant set (R64). -/
def Group.voteComplete (x : Group) : Bool := decide (x.voteSet = x.config.participants)

/-- The group commits when the vote completed its vote set (R64). -/
def State.commitIfComplete (s : State) (g : GroupId) : State :=
  if (s.group g).voteComplete then s.enterCommitting g else s

/-- A vote is taken (R64). -/
def State.takeVote (s : State) (g : GroupId) (p : PortId) (arg : Fin 8) : State :=
  ((s.wait p .voteCommit arg g).modGroup g (fun x => x.voted p)).commitIfComplete g

/-- VOTE_COMMIT by the group's state (R64). -/
def State.voteCommit (s : State) (g : GroupId) (p : PortId) (arg : Fin 8) : State :=
  match (s.group g).state with
  | .opened => s.takeVote g p arg
  | .voting => s.takeVote g p arg
  | .unwinding => s.refuseCommand p .unwinding
  | .committing => s.refuseCommand p .tooLate
  | .rollingBack => s.refuseCommand p .tooLate
  | _ => s.refuseCommand p .notOpen

/-- VOTE_COMMIT (R64): the channel keeps its argument, which the group does not read (R136, R138). -/
def execVoteCommit (p : PortId) (arg : Fin 8) (s : State) : Host.Outcome State Fault Refusal :=
  .next (s.tick.takeCommand p (fun g s => s.voteCommit g p arg))

/-! ### VOTE_ABORT (R144) -/

/-- VOTE_ABORT by the group's state (R13, R144). -/
def State.voteAbort (s : State) (g : GroupId) (p : PortId) (arg : Fin 8) : State :=
  match (s.group g).state with
  | .opened => (s.wait p .voteAbort arg g).enterRollingBack g (.voteAbort p)
  | .voting => (s.wait p .voteAbort arg g).enterRollingBack g (.voteAbort p)
  | .unwinding => (s.wait p .voteAbort arg g).enterRollingBack g (.voteAbort p)
  | .rollingBack => s.wait p .voteAbort arg g
  | .committing => s.refuseCommand p .tooLate
  | _ => s.refuseCommand p .notOpen

/-- VOTE_ABORT (R144). -/
def execVoteAbort (p : PortId) (arg : Fin 8) (s : State) : Host.Outcome State Fault Refusal :=
  .next (s.tick.takeCommand p (fun g s => s.voteAbort g p arg))

/-! ### QUERY, UNKNOWN_COMMAND (R141, R139) -/

/-- The runtime context of a group as a QUERY answers it (R141). -/
def State.queryContext (s : State) (g : GroupId) : QueryContext :=
  { group := g, state := (s.group g).state, epoch := (s.group g).currentEpoch, level := (s.group g).level,
    journalLength := (s.group g).journalLength, voteSet := (s.group g).voteSet, marks := (s.group g).marks }

/-- QUERY (R141): its argument is not read (R136). -/
def execQuery (p : PortId) (_arg : Fin 8) (s : State) : Host.Outcome State Fault Refusal :=
  .next (s.takeCommand p (fun g s => s.answer p (.queryDone (s.queryContext g))))

/-- UNKNOWN_COMMAND (R139): test 2 comes before the channel's state and the port's group. -/
def execUnknownCommand (p : PortId) (_code : Fin 2) (_arg : Fin 8) (s : State) : Host.Outcome State Fault Refusal :=
  if s.takesCommands p then .next (s.refuseCommand p .unknownCommand) else .next s

/-! ### VOTE_TIMEOUT (R67) -/

/-- The vote window can run out: the timer runs in VOTING (R66, R67). -/
def Group.windowRuns (x : Group) : Bool := x.state == .voting && x.voteTimer.isSome

/-- VOTE_TIMEOUT (R67): the abort cause VOTE_TIMEOUT; without a running timer it has no effect (R68). -/
def execVoteTimeout (g : GroupId) (s : State) : Host.Outcome State Fault Refusal :=
  if (s.group g).windowRuns then .next (s.tick.enterRollingBack g .voteTimeout) else .next s

end Sys2Proof.Machine
end

