-- ==== Sys2Proof/Machine/Bus.lean ====
section
/-! DEFINITION. The memory port: the address hazard rule, the arbiter and its rotation, and the routing of answers (09); the meanings of GRANT, REQUESTER_ANSWER and ORPHANED_ANSWER. -/

namespace Sys2Proof.Machine

/-! ### The address hazard rule (R152) -/

/-- The first block a transaction touches (R150). -/
def Txn.firstBlock (t : Txn) : Nat := t.addr.toNat / 64

/-- The last block a transaction touches (R150). -/
def Txn.lastBlock (t : Txn) : Nat := (t.addr.toNat + t.size - 1) / 64

/-- Both touch a common block and at least one of the two is a write (R152). -/
def Txn.clashes (t u : Txn) : Bool :=
  decide (t.firstBlock ≤ u.lastBlock) && decide (u.firstBlock ≤ t.lastBlock) && (t.kind == .write || u.kind == .write)

/-- The WAITING transaction is blocked (R152): by an OUTSTANDING one, or by a WAITING one handed on at an earlier event. -/
def MemPort.blocked (m : MemPort) (t : Txn) : Bool :=
  m.outstanding.any (fun u => t.clashes u) || m.waiting.any (fun u => decide (u.stamp < t.stamp) && t.clashes u)

/-! ### The arbiter (R153, R154) -/

/-- The transaction a source presents: its oldest WAITING one, unless that is blocked (R153). -/
def MemPort.presented (m : MemPort) (src : Source) : Option Txn :=
  (m.waiting.find? (fun t => t.source == src)).filter (fun t => !m.blocked t)

/-- The transaction that group `g` presents, if it is of the class. -/
def MemPort.presentedOf (m : MemPort) (cls : TxnClass) (g : GroupId) : Option Txn :=
  (m.presented (.group g)).filter (fun t => t.cls == cls)

/-- The earlier handed on of two; of two of the same event, the first (R153). -/
def earlier (x y : Option Txn) : Option Txn :=
  match x, y with
  | none, y => y
  | some t, none => some t
  | some t, some u => if u.stamp < t.stamp then some u else some t

/-- The winner of a class among the groups: the earliest handed on, at the same event the lower-numbered group (R153). -/
def MemPort.winner (m : MemPort) (cls : TxnClass) : Option Txn :=
  fourIds.foldl (fun best g => earlier best (m.presentedOf cls g)) none

/-- The ports in rotation after the pointer (R154). -/
def rotation (pointer : PortId) : List PortId := [pointer + 1, pointer + 2, pointer + 3, pointer]

/-- The requester port that the rotation finds (R154). -/
def MemPort.turn (m : MemPort) : Option PortId :=
  (rotation m.pointer).find? (fun p => (m.presented (.port p)).isSome)

/-- The transaction the arbiter chooses (R153). -/
def MemPort.choice (m : MemPort) : Option Txn :=
  match m.winner .restore with
  | some t => some t
  | none =>
    match m.winner .journal with
    | some t => some t
    | none => m.turn.bind (fun p => m.presented (.port p))

/-- The rotation pointer after a grant (R154). -/
def Txn.pointerAfter (t : Txn) (old : PortId) : PortId :=
  match t.source with
  | .port p => p
  | .group _ => old

/-- The chosen transaction becomes OUTSTANDING in a place (R153). -/
def MemPort.granted (m : MemPort) (i : PlaceId) (t : Txn) : MemPort :=
  { waiting := m.waiting.eraseP (fun u => u.source == t.source), places := m.places.set i (some t),
    pointer := t.pointerAfter m.pointer }

/-- The transaction granted a place: the arbiter's choice, if the place is free and RESET_N is not asserted (R153, R160). -/
def State.grantChoice (s : State) (place : PlaceId) : Option Txn :=
  if s.resetPin ∨ s.mem.places[place].isSome then none else s.mem.choice

/-- GRANT (R153): at the free place named, the chosen transaction takes the place and is put on the memory bus. Where the place is taken, nothing is presented or RESET_N is asserted there is no grant. -/
def execGrant (place : PlaceId) (s : State) : Host.Outcome State Fault Refusal :=
  match s.grantChoice place with
  | some t => .next ({ s with mem := s.mem.granted place t }.emit (.memory place t.kind t.addr t.size t.data))
  | none => .next s

/-! ### Answers (R155 to R157) -/

/-- The answer for the transaction in a place, taken by the row that `wanted` describes (R155): the place becomes free and `body` acts on the answer. Where the place holds no such transaction the event is not there (DESIGN CHOICE, notes/assumptions/9), and while RESET_N is asserted the answer is discarded (R160). -/
def State.takeAnswer (s : State) (place : PlaceId) (wanted : Txn → Bool) (body : Txn → State → State) :
    Host.Outcome State Fault Refusal :=
  match s.mem.places[place] with
  | some t => if wanted t ∧ s.resetPin = false then .next (body t (s.tick.freePlace place)) else .next s
  | none => .next s

/-- The requests of a port with the answer kept with the issued one of that tag (R126). -/
def keepAnswer (tag : Nat) (a : MemAnswer) (q : List Request) : List Request :=
  q.map (fun r => if r.tag = tag ∧ r.stage = .issued none then r.atStage (.issued (some a)) else r)

/-- The last passed write address after an answer (R131). -/
def Txn.lastWriteAfter (t : Txn) (a : MemAnswer) (old : Option Addr) : Option Addr :=
  match t.kind, a with
  | .write, .ok _ => some t.addr
  | _, _ => old

/-- A live requester transaction. -/
def Txn.isRequester (t : Txn) : Bool :=
  match t.source, t.role, t.orphan with
  | .port _, .request _, .live => true
  | _, _, _ => false

/-- The drain of a transaction's data group may have ended with its answer (R54, R70, R77). -/
def State.countAnswered (s : State) (dataGroup : Option GroupId) : State :=
  match dataGroup with
  | none => s
  | some g => s.drainCheck g

/-- The answer to a requester transaction reaches its port (R127, R131, R156). -/
def State.requesterAnswered (s : State) (t : Txn) (a : MemAnswer) : State :=
  match t.source, t.role with
  | .port p, .request tag =>
    (((s.modPort p (fun x =>
      { x with queue := keepAnswer tag a x.queue, lastWrite := t.lastWriteAfter a x.lastWrite })).settle p)).countAnswered
        t.dataGroup
  | _, _ => s

/-- REQUESTER_ANSWER (R156). -/
def execRequesterAnswer (place : PlaceId) (a : MemAnswer) (s : State) : Host.Outcome State Fault Refusal :=
  s.takeAnswer place Txn.isRequester (fun t s => s.requesterAnswered t a)

/-- The group whose drain still counts an orphaned transaction: that of a data write orphaned by a port reset (R157). -/
def Txn.countedGroup (t : Txn) : Option GroupId :=
  match t.orphan with
  | .byPortReset => t.dataGroup
  | .live => none
  | .bySoftReset => none
  | .byFault => none

/-- ORPHANED_ANSWER (R157): the place becomes free, the answer reaches no owner, and a reset port's data write is counted answered, whatever the answer says. -/
def execOrphanedAnswer (place : PlaceId) (_a : MemAnswer) (s : State) : Host.Outcome State Fault Refusal :=
  s.takeAnswer place (fun t => t.orphan != .live) (fun t s => s.countAnswered t.countedGroup)

/-- The group of a live transaction of a group's own. -/
def Txn.ownGroup (t : Txn) : Option GroupId :=
  match t.source, t.orphan with
  | .group g, .live => some g
  | _, _ => none

/-- The answer to a transaction of a group's own in the role that `role` describes (R156): `onOk` has the data as the bus carries it, `onError` follows an ERROR. -/
def State.takeOwn (s : State) (place : PlaceId) (a : MemAnswer) (role : Role → Bool)
    (onOk : GroupId → Role → List Byte → State → State) (onError : GroupId → Role → State → State) :
    Host.Outcome State Fault Refusal :=
  s.takeAnswer place (fun t => t.ownGroup.isSome && role t.role) (fun t s =>
    match t.ownGroup, a with
    | none, _ => s
    | some g, .ok data => onOk g t.role (fitBytes t.size data) s
    | some g, .error => onError g t.role s)

end Sys2Proof.Machine
end

