-- ==== Sys2Proof/Machine/Recovery.lean ====
section
/-! DEFINITION. FORMAT and RECOVER: their beginnings and the answers to their transactions (05, R92 to R103). -/

namespace Sys2Proof.Machine

/-! ### FORMAT (R92 to R95) -/

/-- A FORMAT is accepted (R92): the group enters FORMATTING and hands on the clearing write of its last slot. -/
def State.beginFormat (s : State) (g : GroupId) : State :=
  (s.modGroup g (fun x => { x with state := .formatting, journalLength := 0 })).handClearing g
    ((s.group g).config.slots - 1) (.formatClear ((s.group g).config.slots - 1))

/-- The format hands on the write of a header copy naming epoch 0 (R94). -/
def State.handFormatHeader (s : State) (g : GroupId) (c : Copy) : State :=
  s.handSlotWrite g .journal c.slot (headerSlot g c .formatted 0 (s.group g).config.slots) (.formatHeader c)

/-- A clearing write of the format is acknowledged (R93, R94). -/
def State.formatCleared (s : State) (g : GroupId) (role : Role) : State :=
  match role with
  | .formatClear slot =>
    if 2 < slot then s.handClearing g (slot - 1) (.formatClear (slot - 1)) else s.handFormatHeader g .a
  | _ => s

/-- The group at the end of a format (R94). -/
def Group.formatted (x : Group) : Group :=
  { x with
    closedEpoch := 0
    recoveryResult := { RecoveryResult.reset with outcome := .formatted }
    state := .closed }

/-- A header write of the format is acknowledged (R94). -/
def State.formatHeaderDone (s : State) (g : GroupId) (role : Role) : State :=
  match role with
  | .formatHeader .a => s.handFormatHeader g .b
  | .formatHeader .b => (s.modGroup g Group.formatted).latch (.recoveryDone g)
  | _ => s

/-- The slot that a write of the format goes to (R95). -/
def Role.formatSlot (r : Role) : Option Nat :=
  match r with
  | .formatClear slot => some slot
  | .formatHeader c => some c.slot
  | _ => none

/-- A write of the format failed (R95). -/
def State.formatFailed (s : State) (g : GroupId) (role : Role) : State :=
  (s.modGroup g (fun x => { x with recoveryResult := { RecoveryResult.reset with outcome := .faulted } })).enterFaulted g
    { kind := .recoveryWrite, epoch := 0, slot := role.formatSlot, block := none }

/-- A clearing write of FORMAT. -/
def Role.isFormatClear (r : Role) : Bool :=
  match r with
  | .formatClear _ => true
  | _ => false

/-- A header write of FORMAT. -/
def Role.isFormatHeader (r : Role) : Bool :=
  match r with
  | .formatHeader _ => true
  | _ => false

/-- FORMAT_CLEARING_WRITE (R93, R95). -/
def execFormatClearingWrite (place : PlaceId) (a : MemAnswer) (s : State) : Host.Outcome State Fault Refusal :=
  s.takeOwn place a Role.isFormatClear (fun g role _ s => s.formatCleared g role) (fun g role s => s.formatFailed g role)

/-- FORMAT_HEADER_WRITE (R94, R95). -/
def execFormatHeaderWrite (place : PlaceId) (a : MemAnswer) (s : State) : Host.Outcome State Fault Refusal :=
  s.takeOwn place a Role.isFormatHeader (fun g role _ s => s.formatHeaderDone g role)
    (fun g role s => s.formatFailed g role)

/-! ### RECOVER (R96 to R102) -/

/-- What a recovery has found at its beginning: nothing. -/
def RecoveryContext.start : RecoveryContext :=
  { judgedA := .malformed, chosen := none, named := 0, found := none }

/-- A RECOVER is accepted (R96): the group enters RECOVERING and hands on the read of slot 0. -/
def State.beginRecover (s : State) (g : GroupId) : State :=
  (s.modGroup g (fun x =>
    { x with state := .recovering, journalLength := 0, recovery := some RecoveryContext.start })).handSlotRead g 0
      (.headerRead .a)

/-- What the recovery has found, as its context holds it. -/
def Group.recoveryContext (x : Group) : RecoveryContext := x.recovery.getD RecoveryContext.start

/-- The recovery result of the recovery so far, with an outcome (R101, R102): the records found are the count so far while the scan runs. -/
def Group.recoveryReport (x : Group) (o : RecoveryOutcome) : RecoveryResult :=
  { copy := x.recoveryContext.chosen
    closedFound := x.recoveryContext.named
    found := x.recoveryContext.found.getD x.journalLength
    replayed := x.recoveryContext.found.getD x.journalLength - x.journalLength
    outcome := o }

/-- The recovery ends in a state with a result, and RECOVERY_DONE(g) latches (R98, R101). -/
def State.endRecovery (s : State) (g : GroupId) (st : GroupState) (r : RecoveryResult) : State :=
  (s.modGroup g (fun x => { x with state := st, recovery := none, recoveryResult := r })).latch (.recoveryDone g)

/-- The next slot of the scan is read: slot 2 + the records counted (R99). -/
def State.scanNext (s : State) (g : GroupId) : State := s.handSlotRead g (2 + (s.group g).journalLength) .scanRead

/-- The newest record not yet restored is read (R100). -/
def State.replayNext (s : State) (g : GroupId) : State := s.handSlotRead g (1 + (s.group g).journalLength) .replayRead

/-- A copy is chosen (R98): c becomes the epoch it names, and the scan begins. -/
def State.chooseCopy (s : State) (g : GroupId) (c : Copy) (e : Epoch) : State :=
  (s.modGroup g (fun x =>
    { x with
      closedEpoch := e
      recovery := some { x.recoveryContext with chosen := some c, named := e } })).scanNext g

/-- The choice of a header after slot 1 has been read (R98). -/
def State.choose (s : State) (g : GroupId) (jb : CopyJudgement) : State :=
  match chooseHeader (s.group g).recoveryContext.judgedA jb with
  | .chosen c e => s.chooseCopy g c e
  | .areaMismatch => s.endRecovery g .unverified { RecoveryResult.reset with outcome := .areaMismatch }
  | .noJournal => s.endRecovery g .unverified { RecoveryResult.reset with outcome := .noJournal }

/-- A header slot has been read (R97). -/
def State.headerWasRead (s : State) (g : GroupId) (role : Role) (slot : List Byte) : State :=
  match role with
  | .headerRead .a =>
    (s.modGroup g (fun x =>
      { x with recovery := some { x.recoveryContext with judgedA := judgeHeader g .a x.config.slots slot } })).handSlotRead
        g 1 (.headerRead .b)
  | .headerRead .b => s.choose g (judgeHeader g .b (s.group g).config.slots slot)
  | _ => s

/-- The scan ends (R99): CLEAN when no record was found (R101), otherwise the replay begins (R100). -/
def State.endScan (s : State) (g : GroupId) : State :=
  if (s.group g).journalLength = 0 then s.endRecovery g .closed ((s.group g).recoveryReport .clean)
  else
    (s.modGroup g (fun x =>
      { x with recovery := some { x.recoveryContext with found := some x.journalLength } })).replayNext g

/-- A scanned record is counted, and the scan goes on or has reached the end of the area (R99). -/
def State.countRecord (s : State) (g : GroupId) : State :=
  if (s.group g).journalLength + 1 < (s.group g).capacity then
    (s.modGroup g (fun x => { x with journalLength := x.journalLength + 1 })).scanNext g
  else (s.modGroup g (fun x => { x with journalLength := x.journalLength + 1 })).endScan g

/-- A slot of the scan has been read (R99). -/
def State.slotScanned (s : State) (g : GroupId) (slot : List Byte) : State :=
  if matchesRecord g (s.group g).currentEpoch ((s.group g).journalLength + 1) slot then s.countRecord g else s.endScan g

/-- A recovery fails (R102): its result tells how far it came. -/
def State.recoveryFailed (s : State) (g : GroupId) (f : FaultRecord) : State :=
  (s.modGroup g (fun x => { x with recoveryResult := x.recoveryReport .faulted })).enterFaulted g f

/-- A failed read of the replay, or a slot that no longer matches (R100, R102). -/
def State.replayFailed (s : State) (g : GroupId) : State :=
  s.recoveryFailed g
    { kind := .recoveryRead, epoch := (s.group g).currentEpoch, slot := some (1 + (s.group g).journalLength), block := none }

/-- A slot of the replay has been read (R100). -/
def State.slotReplayed (s : State) (g : GroupId) (slot : List Byte) : State :=
  if matchesRecord g (s.group g).currentEpoch (s.group g).journalLength slot then
    s.handRestore g (recordBlock slot) (recordContents slot) (.recoveryRestore (recordBlock slot))
  else s.replayFailed g

/-- The recovery's closing header is handed on when the last record is restored (R100, R101); else the next record is read. -/
def State.afterRestore (s : State) (g : GroupId) : State :=
  if (s.group g).journalLength = 0 then s.handHeader g .rolledBack .recoveryHeader else s.replayNext g

/-- A restore write of the replay is acknowledged (R100). -/
def State.recordRestored (s : State) (g : GroupId) : State :=
  (s.modGroup g (fun x => { x with journalLength := x.journalLength - 1 })).afterRestore g

/-- The recovery's closing header is acknowledged: outcome REPLAYED (R101). -/
def State.recoveryClosed (s : State) (g : GroupId) : State :=
  (s.modGroup g (fun x => { x with closedEpoch := x.currentEpoch, lastClose := .recovery })).endRecovery g .closed
    ((s.group g).recoveryReport .replayed)

/-- The copy whose read or write a role is. -/
def Role.headerCopy (r : Role) : Option Copy :=
  match r with
  | .headerRead c => some c
  | _ => none

/-- A header read of RECOVER. -/
def Role.isHeaderRead (r : Role) : Bool := r.headerCopy.isSome

/-- A scan read of RECOVER. -/
def Role.isScanRead (r : Role) : Bool := r == .scanRead

/-- A replay read of RECOVER. -/
def Role.isReplayRead (r : Role) : Bool := r == .replayRead

/-- A restore write of RECOVER. -/
def Role.isRecoveryRestore (r : Role) : Bool :=
  match r with
  | .recoveryRestore _ => true
  | _ => false

/-- The closing header write of RECOVER. -/
def Role.isRecoveryHeader (r : Role) : Bool := r == .recoveryHeader

/-- The block of a restore write of RECOVER. -/
def Role.restoredBlock (r : Role) : Option Block :=
  match r with
  | .recoveryRestore b => some b
  | _ => none

/-- HEADER_READ (R97, R98, R102). -/
def execHeaderRead (place : PlaceId) (a : MemAnswer) (s : State) : Host.Outcome State Fault Refusal :=
  s.takeOwn place a Role.isHeaderRead (fun g role data s => s.headerWasRead g role data) (fun g role s =>
    s.recoveryFailed g { kind := .recoveryRead, epoch := 0, slot := role.headerCopy.map Copy.slot, block := none })

/-- SCAN_READ (R99, R102). -/
def execScanRead (place : PlaceId) (a : MemAnswer) (s : State) : Host.Outcome State Fault Refusal :=
  s.takeOwn place a Role.isScanRead (fun g _ data s => s.slotScanned g data) (fun g _ s =>
    s.recoveryFailed g
      { kind := .recoveryRead, epoch := (s.group g).currentEpoch, slot := some (2 + (s.group g).journalLength), block := none })

/-- REPLAY_READ (R100, R102). -/
def execReplayRead (place : PlaceId) (a : MemAnswer) (s : State) : Host.Outcome State Fault Refusal :=
  s.takeOwn place a Role.isReplayRead (fun g _ data s => s.slotReplayed g data) (fun g _ s => s.replayFailed g)

/-- RECOVERY_RESTORE_WRITE (R100, R102). -/
def execRecoveryRestoreWrite (place : PlaceId) (a : MemAnswer) (s : State) : Host.Outcome State Fault Refusal :=
  s.takeOwn place a Role.isRecoveryRestore (fun g _ _ s => s.recordRestored g) (fun g role s =>
    s.recoveryFailed g
      { kind := .recoveryWrite, epoch := (s.group g).currentEpoch, slot := some (1 + (s.group g).journalLength),
        block := role.restoredBlock })

/-- RECOVERY_HEADER_WRITE (R101, R102). -/
def execRecoveryHeaderWrite (place : PlaceId) (a : MemAnswer) (s : State) : Host.Outcome State Fault Refusal :=
  s.takeOwn place a Role.isRecoveryHeader (fun g _ _ s => s.recoveryClosed g) (fun g _ s =>
    s.recoveryFailed g
      { kind := .recoveryWrite, epoch := (s.group g).currentEpoch,
        slot := some (copyFor (s.group g).currentEpoch).slot, block := none })

end Sys2Proof.Machine
end

