-- ==== Sys2Proof/Machine/Trigger.lean ====
section
/-! DEFINITION. The trigger inputs: events, snapshots and rollbacks (10, R161 to R166); the meanings of TRIGGER_EVENT and TRIGGER_INPUT_LOW. -/

namespace Sys2Proof.Machine

/-- Trigger input `n`. -/
def State.trigger (s : State) (n : TrigId) : Trigger := s.triggers.get n

/-- The state with trigger input `n` changed by `f`. -/
def State.modTrigger (s : State) (n : TrigId) (f : Trigger → Trigger) : State :=
  { s with triggers := s.triggers.set n (f (s.trigger n)) }

/-- The outcome of a trigger rollback for a group in a state (R165). -/
def GroupState.triggerOutcome (st : GroupState) : TriggerOutcome :=
  match st with
  | .opened => .rollbackStarted
  | .voting => .rollbackStarted
  | .unwinding => .rollbackStarted
  | .rollingBack => .joined
  | .committing => .tooLate
  | .closed => .nothingOpen
  | .disabled => .nothingOpen
  | .unverified => .nothingOpen
  | .formatting => .nothingOpen
  | .recovering => .nothingOpen
  | .faulted => .faulted

/-- The trigger acts on a group: its action is ROLLBACK and its mask names the group (R163, R165). -/
def Trigger.acts (t : Trigger) (g : GroupId) : Bool := t.action == .rollback && t.mask.get g

/-- A group as the snapshot of an event on input `n` holds it (R164, R165). -/
def State.groupShot (s : State) (n : TrigId) (g : GroupId) : GroupShot :=
  { state := (s.group g).state, closedEpoch := (s.group g).closedEpoch, journalLength := (s.group g).journalLength,
    level := (s.group g).level,
    outcome := if (s.trigger n).acts g then (s.group g).state.triggerOutcome else .notActed }

/-- The snapshot of an acting event on input `n` (R164), taken before the event has any effect on a group. -/
def State.snapshotOf (s : State) (n : TrigId) : Snapshot :=
  { action := (s.trigger n).action
    number := countUp countLimit (s.trigger n).count
    groups := { at0 := s.groupShot n 0, at1 := s.groupShot n 1, at2 := s.groupShot n 2, at3 := s.groupShot n 3 }
    lastWrites := { at0 := (s.port 0).lastWrite, at1 := (s.port 1).lastWrite, at2 := (s.port 2).lastWrite,
                    at3 := (s.port 3).lastWrite } }

/-- The trigger input as its event leaves it (R162, R163). -/
def Trigger.risen (t : Trigger) (shot : Snapshot) : Trigger :=
  { t with
    level := true
    count := countUp countLimit t.count
    snapshot := match t.action with
      | .noAction => t.snapshot
      | .note => some shot
      | .rollback => some shot }

/-- Each group that the trigger acts on takes the cause TRIGGER(n) (R165). -/
def State.triggerGroups (s : State) (n : TrigId) (gs : List GroupId) : State :=
  gs.foldl (fun s g => s.abortCause g (.trigger n)) s

/-- The groups a trigger acts on (R165). -/
def Trigger.targets (t : Trigger) : List GroupId := fourIds.filter t.acts

/-- A trigger event on input `n` (R163 to R165). -/
def State.triggerEvent (s : State) (n : TrigId) : State :=
  ((s.modTrigger n (fun t => t.risen (s.snapshotOf n))).latch (.trigger n)).triggerGroups n (s.trigger n).targets

/-- TRIGGER_EVENT (R162, R163): TRIGn is seen high; it is an event when the reference level is low and RESET_N is not asserted. -/
def execTriggerEvent (n : TrigId) (s : State) : Host.Outcome State Fault Refusal :=
  if s.resetPin = false ∧ (s.trigger n).level = false then .next (s.tick.triggerEvent n) else .next s

/-- TRIGGER_INPUT_LOW (R162): the reference level becomes low, without an event. -/
def execTriggerInputLow (n : TrigId) (s : State) : Host.Outcome State Fault Refusal :=
  .next (s.modTrigger n (fun t => { t with level := false }))

end Sys2Proof.Machine
end

