-- ==== Sys2Proof/Machine/Resets.lean ====
section
/-! DEFINITION. The resets: power-on and RESET_N (R22, R106, R135, R160, R162, R167, R169, R180), the port reset (R14, R47, R133, R147, R158) and what a SOFT_RESET does at its decision (R23, R48, R106, R135, R148, R159, R167, R170, R179). -/

namespace Sys2Proof.Machine

/-! ### Power-on and RESET_N -/

/-- A port of the reset device: its PRSTn is an input and stays as it is (R135). -/
def Port.atReset (x : Port) : Port := { Port.reset with resetPin := x.resetPin }

/-- The device at power-on or at the assertion of RESET_N. The input pins, what has been given out, the numbering of events and the waiting commands are not the device's (DESIGN CHOICE, notes/assumptions/1). -/
def State.deviceReset (s : State) : State :=
  { s with
    groups := Four.const Group.reset
    table := []
    ports := s.ports.map Port.atReset
    map := DomainMap.reset
    mem := MemPort.reset
    triggers := Four.const Trigger.reset
    alerts := Alerts.reset
    mgmt := Mgmt.reset }

/-- POWER_ON (R22). -/
def execPowerOn (s : State) : Host.Outcome State Fault Refusal := .next s.deviceReset

/-- RESET_N_ASSERT (R22). -/
def execResetNAssert (s : State) : Host.Outcome State Fault Refusal := .next { s.deviceReset with resetPin := true }

/-- A trigger input with its reference level set (R162). -/
def Trigger.atLevel (t : Trigger) (l : Bool) : Trigger := { t with level := l }

/-- The reference levels set to the levels of the inputs (R162). -/
def setLevels (ts : Four Trigger) (levels : Four Bool) : Four Trigger :=
  { at0 := ts.at0.atLevel levels.at0, at1 := ts.at1.atLevel levels.at1, at2 := ts.at2.atLevel levels.at2,
    at3 := ts.at3.atLevel levels.at3 }

/-- RESET_N_DEASSERT (R162): taken while RESET_N is asserted. -/
def execResetNDeassert (levels : Four Bool) (s : State) : Host.Outcome State Fault Refusal :=
  if s.resetPin then .next { s with resetPin := false, triggers := setLevels s.triggers levels } else .next s

/-! ### Port reset -/

/-- The port as its reset leaves it (R133, R147). -/
def Port.flushed (x : Port) : Port :=
  { x with
    queue := []
    headDomain := none
    headGroup := none
    refusal := none
    refusalCount := 0
    channel := none
    resetPin := true }

/-- A port reset orphans the live transactions of the port (R157, R158). -/
def Txn.orphanedByPort (p : PortId) (t : Txn) : Txn :=
  if t.source = .port p ∧ t.orphan = .live then { t with orphan := .byPortReset } else t

/-- The step's write is gone with its port: the step runs on without an owner (R47). -/
def JournalStep.disowned (st : JournalStep) (p : PortId) : JournalStep :=
  { st with owner := st.owner.filter (fun q => q != p) }

/-- The group's head is held, and it is of port `p`. -/
def Group.heldHeadOf (x : Group) (p : PortId) : Bool := x.hold.isSome && x.queue.head? == some p

/-- The group once port `p`'s writes have left it (R14, R47). -/
def Group.leftBy (x : Group) (p : PortId) : Group :=
  { x with
    queue := x.queue.filter (fun q => q != p)
    putBack := x.putBack.filter (fun q => q != p)
    hold := if x.heldHeadOf p then none else x.hold
    step := x.step.map (fun st => st.disowned p) }

/-- The port's requests leave the port, the tracking table, the groups and the memory port's owners (R133, R47, R158). -/
def State.flushPort (s : State) (p : PortId) : State :=
  ({ ((s.modPort p Port.flushed).setTable (leaveWaiters p s.table)) with
      groups := s.groups.map (fun (x : Group) => x.leftBy p) }).mapTxns (Txn.orphanedByPort p)

/-- The head of the group's queue is of port `p`, and its step has not begun: with its removal the next head starts (R47). -/
def Group.losesHead (x : Group) (p : PortId) : Bool := x.step.isNone && x.queue.head? == some p

/-- The groups whose queue loses its head with port `p`'s writes. -/
def State.headless (s : State) (p : PortId) : List GroupId := fourIds.filter (fun g => (s.group g).losesHead p)

/-- The next heads of these groups start their steps (R47, R133). -/
def State.startEach (s : State) (gs : List GroupId) : State := gs.foldl (fun s g => s.startHeads g) s

/-- Every group whose drain has ended goes on (R54, R70, R77). -/
def State.drainAll (s : State) : State := fourIds.foldl (fun s g => s.drainCheck g) s

/-- The abort cause PORT_RESET(p) reaches the group of port `p`, if it has one (R14). -/
def State.portAbort (s : State) (p : PortId) : State :=
  match s.groupOf p with
  | none => s
  | some g => s.abortCause g (.portReset p)

/-- A port reset (R133): the port's requests leave, the next head of a queue that lost its head starts its step (R47), and then the abort cause reaches the group of the port (R14); the order of the two is read from R47 (DEDUCED, notes/assumptions/6). -/
def State.portReset (s : State) (p : PortId) : State :=
  (((s.flushPort p).startEach (s.headless p)).portAbort p).drainAll

/-- PORT_RESET (R133): the assertion of PRSTp; there is no event while it is asserted already. -/
def execPortReset (p : PortId) (s : State) : Host.Outcome State Fault Refusal :=
  if (s.port p).resetPin then .next s else .next (s.tick.portReset p)

/-! ### SOFT_RESET -/

/-- The group as a SOFT_RESET leaves it (R23). -/
def Group.softReset (x : Group) : Group :=
  { Group.reset with config := x.config, state := if x.config.slots = 0 then .disabled else .unverified }

/-- The port as a SOFT_RESET leaves it (R135, R148). -/
def Port.softReset (x : Port) : Port := { Port.reset with resetPin := x.resetPin, nextTag := x.nextTag }

/-- The trigger input as a SOFT_RESET leaves it (R167). -/
def Trigger.softReset (t : Trigger) : Trigger := { t with count := 0, snapshot := none }

/-- Every transaction is orphaned by a SOFT_RESET (R159), one orphaned before too (DEDUCED, notes/assumptions/27). -/
def Txn.softReset (t : Txn) : Txn := { t with orphan := .bySoftReset }

/-- What a SOFT_RESET does at its decision event (R179). -/
def State.softReset (s : State) : State :=
  { s.mapTxns Txn.softReset with
    groups := s.groups.map Group.softReset
    table := []
    ports := s.ports.map Port.softReset
    map := { s.map with pending := false }
    triggers := s.triggers.map Trigger.softReset
    alerts := { s.alerts with latched := 0 }
    mgmt := { s.mgmt with resetting := true } }

end Sys2Proof.Machine
end

