-- ==== Sys2Proof/Machine/Activation.lean ====
section
/-! DEFINITION. Validation of the shadow map, activation, its completion and its withdrawal (06, R109 to R114); the meaning of MAP_ACTIVATION_COMPLETE. -/

namespace Sys2Proof.Machine

/-- The other party to a fault of validation (R110, R176). -/
inductive Party where
  | nobody
  | group (g : GroupId)
  | entry (j : EntryId)
deriving DecidableEq, Repr

/-- What validation finds wrong with a shadow entry (R110). -/
inductive MapFault where
  | invalidEntry (i : EntryId) (other : Party)
  | overlap (i : EntryId) (other : Party)
deriving DecidableEq, Repr

/-- The entry's blocks meet those of an enabled journal area: A/64 to A/64 + 2S - 1 (R110). -/
def DomainEntry.meetsArea (d : DomainEntry) (c : GroupConfig) : Bool :=
  decide (c.slots ≠ 0) && decide (d.base.toNat ≤ c.base.toNat / 64 + 2 * c.slots - 1)
    && decide (c.base.toNat / 64 ≤ d.limit.toNat)

/-- Two entries have a block in common (R110). -/
def DomainEntry.meets (d e : DomainEntry) : Bool :=
  decide (d.base.toNat ≤ e.limit.toNat) && decide (e.base.toNat ≤ d.limit.toNat)

/-- The group whose slot count is 0 that a JOURNALED entry names (R110, check 3). -/
def State.namesDisabled (s : State) (d : DomainEntry) : Option GroupId :=
  d.journalGroup.filter (fun g => (s.group g).config.slots == 0)

/-- The lowest-numbered group whose area the entry overlaps (R110, check 4). -/
def State.areaMet (s : State) (d : DomainEntry) : Option GroupId :=
  fourIds.find? (fun g => d.meetsArea (s.group g).config)

/-- The lowest-numbered valid entry below `i` that the entry overlaps (R110, check 5). -/
def DomainMap.entryMet (m : DomainMap) (i : EntryId) : Option EntryId :=
  entryIds.find? (fun j => decide (j < i) && m.shadow[j].valid && m.shadow[i].meets m.shadow[j])

/-- The first check that valid shadow entry `i` fails (R110). -/
def State.entryFault (s : State) (i : EntryId) : Option MapFault :=
  if s.map.shadow[i].limit.toNat < s.map.shadow[i].base.toNat then some (.invalidEntry i .nobody)
  else if s.map.shadow[i].kind = .journaled ∧ s.map.shadow[i].group = none then some (.invalidEntry i .nobody)
  else
    match s.namesDisabled s.map.shadow[i] with
    | some g => some (.invalidEntry i (.group g))
    | none =>
      match s.areaMet s.map.shadow[i] with
      | some g => some (.overlap i (.group g))
      | none => (s.map.entryMet i).map (fun j => .overlap i (.entry j))

/-- Validation of the shadow copy (R110): the fault of the lowest-numbered entry that fails a check, if any does. -/
def State.validation (s : State) : Option MapFault :=
  entryIds.findSome? (fun i => if s.map.shadow[i].valid then s.entryFault i else none)

/-- The shadow copy is copied into the active copy, and the pending flag is clear (R112). -/
def DomainMap.activated (m : DomainMap) : DomainMap := { m with active := m.shadow, pending := false }

/-- The byte that reports the other party (R176). -/
def Party.byte (x : Party) : Byte :=
  match x with
  | .nobody => 0xFF#8
  | .group g => BitVec.ofNat 8 (0x20 + g.val)
  | .entry j => BitVec.ofNat 8 j.val

/-- The response to a failed validation (R109, R176). -/
def MapFault.response (f : MapFault) : Response :=
  match f with
  | .invalidEntry i o => { status := .invalidEntry, data := [BitVec.ofNat 8 i.val, o.byte] }
  | .overlap i o => { status := .overlap, data := [BitVec.ofNat 8 i.val, o.byte] }

/-- A response without data. -/
def Response.plain (st : Status) : Response := { status := st, data := [] }

/-- ACTIVATE_MAP by the pending flag, validation and the groups (R109). An activation at once latches no alert (DEDUCED, notes/assumptions/10). One that comes while a pending activation could complete is answered MAP_PENDING (DESIGN CHOICE, notes/assumptions/29). -/
def State.activate (s : State) : State × Response :=
  if s.map.pending then (s, Response.plain .mapPending)
  else
    match s.validation with
    | some f => (s, f.response)
    | none =>
      if s.allQuiet then ({ s with map := s.map.activated }, Response.plain .ok)
      else ({ s with map := { s.map with pending := true } }, Response.plain .accepted)

/-- CANCEL_MAP (R113). -/
def State.cancel (s : State) : State × Response :=
  if s.map.pending then ({ s with map := { s.map with pending := false } }, Response.plain .ok)
  else (s, Response.plain .state)

/-- MAP_ACTIVATION_COMPLETE (R112): taken while an activation is pending and every group is quiet. R112 makes it the next event of the domain map once they are; here it is taken where it stands in the queue, and CANCEL_MAP (R113), ACTIVATE_MAP and a shadow write, the last two answered MAP_PENDING, may be taken before it (DESIGN CHOICE, notes/assumptions/29). -/
def execMapActivationComplete (s : State) : Host.Outcome State Fault Refusal :=
  if s.map.pending ∧ s.allQuiet then .next ({ s with map := s.map.activated }.latch .mapActivated) else .next s

end Sys2Proof.Machine
end

