-- ==== Sys2Proof/Machine/Frames.lean ====
section
/-! DEFINITION. The frames of the management port: the objects of the catalogue, the command bytes, checks 1 to 6 of R172, and the bytes of responses (11, R171 to R175). -/

namespace Sys2Proof.Machine

/-! ### Objects (R175) -/

/-- An object of the catalogue (R175). -/
inductive Object where
  | domainShadow (i : EntryId)
  | domainActive (i : EntryId)
  | mapState
  | groupConfig (g : GroupId)
  | groupStatus (g : GroupId)
  | groupStats (g : GroupId)
  | portStatus (p : PortId)
  | refusal (p : PortId)
  | triggerConfig (n : TrigId)
  | snapshot (n : TrigId)
  | alert
  | trackUsage
  | ident
deriving DecidableEq, Repr

/-- The low four bits of an object byte. -/
def lowNibble (b : Byte) : Fin 16 := Fin.ofNat 16 b.toNat

/-- The low two bits of an object or argument byte. -/
def lowPair (b : Byte) : Fin 4 := Fin.ofNat 4 b.toNat

/-- The object of a byte (R175), none where the catalogue has no such object. -/
def Object.ofByte (b : Byte) : Option Object :=
  if b.toNat / 16 = 1 then some (.domainShadow (lowNibble b))
  else if b.toNat / 16 = 2 then some (.domainActive (lowNibble b))
  else if b.toNat = 0x30 then some .mapState
  else if b.toNat / 4 = 0x10 then some (.groupConfig (lowPair b))
  else if b.toNat / 4 = 0x11 then some (.groupStatus (lowPair b))
  else if b.toNat / 4 = 0x12 then some (.groupStats (lowPair b))
  else if b.toNat / 4 = 0x14 then some (.portStatus (lowPair b))
  else if b.toNat / 4 = 0x15 then some (.refusal (lowPair b))
  else if b.toNat / 4 = 0x18 then some (.triggerConfig (lowPair b))
  else if b.toNat / 4 = 0x19 then some (.snapshot (lowPair b))
  else if b.toNat = 0x70 then some .alert
  else if b.toNat = 0x71 then some .trackUsage
  else if b.toNat = 0x7F then some .ident
  else none

/-- The size of an object (R175). -/
def Object.size (o : Object) : Nat :=
  match o with
  | .domainShadow _ => 16
  | .domainActive _ => 16
  | .mapState => 1
  | .groupConfig _ => 24
  | .groupStatus _ => 64
  | .groupStats _ => 24
  | .portStatus _ => 24
  | .refusal _ => 24
  | .triggerConfig _ => 2
  | .snapshot _ => 88
  | .alert => 8
  | .trackUsage => 10
  | .ident => 8

/-- An object that offers write access (R175). -/
inductive Writable where
  | domainShadow (i : EntryId)
  | groupConfig (g : GroupId)
  | triggerConfig (n : TrigId)
  | alert
deriving DecidableEq, Repr

/-- The write access of an object, if it offers any (R175). -/
def Object.writable (o : Object) : Option Writable :=
  match o with
  | .domainShadow i => some (.domainShadow i)
  | .groupConfig g => some (.groupConfig g)
  | .triggerConfig n => some (.triggerConfig n)
  | .alert => some .alert
  | .domainActive _ => none
  | .mapState => none
  | .groupStatus _ => none
  | .groupStats _ => none
  | .portStatus _ => none
  | .refusal _ => none
  | .snapshot _ => none
  | .trackUsage => none
  | .ident => none

/-- What a field of a layout takes (R175). -/
inductive Access where
  | plain
  | readOnly
  | zero
deriving DecidableEq, Repr

/-- A field of a layout: its offset, its size and its access (R175). -/
structure Field where
  off : Nat
  size : Nat
  access : Access
deriving DecidableEq, Repr

/-- A field. -/
def field (off size : Nat) (a : Access) : Field := { off := off, size := size, access := a }

/-- The fields of a writable object's layout (R175); bytes 22 and 23 of GROUP_CONFIG are one zero field (DEDUCED, notes/assumptions/20). -/
def Writable.fields (w : Writable) : List Field :=
  match w with
  | .domainShadow _ =>
    [field 0 1 .plain, field 1 1 .plain, field 2 1 .plain, field 3 1 .plain, field 4 1 .plain, field 5 1 .plain,
      field 6 1 .plain, field 7 1 .zero, field 8 4 .plain, field 12 4 .plain]
  | .groupConfig _ =>
    [field 0 8 .plain, field 8 4 .plain, field 12 1 .plain, field 13 1 .plain, field 14 1 .plain, field 15 1 .zero,
      field 16 2 .plain, field 18 2 .plain, field 20 2 .plain, field 22 2 .zero]
  | .triggerConfig _ => [field 0 1 .plain, field 1 1 .plain]
  | .alert => [field 0 3 .readOnly, field 3 1 .zero, field 4 3 .plain, field 7 1 .readOnly]

/-- The size of a writable object (R175). -/
def Writable.size (w : Writable) : Nat :=
  match w with
  | .domainShadow _ => 16
  | .groupConfig _ => 24
  | .triggerConfig _ => 2
  | .alert => 8

/-- The bytes of a WRITE and where they go. -/
structure Span where
  off : Nat
  data : List Byte
deriving DecidableEq, Repr

/-- The offset past the last byte written. -/
def Span.stop (w : Span) : Nat := w.off + w.data.length

/-- The write includes the field. -/
def Span.covers (w : Span) (off size : Nat) : Bool := decide (w.off ≤ off) && decide (off + size ≤ w.stop)

/-- The value written to the field, if the write includes it. -/
def Span.value (w : Span) (off size : Nat) : Option Nat :=
  if w.covers off size then some (fieldAt w.data (off - w.off) size) else none

/-- The bytes written begin and end on field boundaries (R175). -/
def Span.aligned (w : Span) (fs : List Field) : Bool :=
  fs.any (fun f => f.off == w.off) && fs.any (fun f => f.off + f.size == w.stop)

/-- The bytes written leave the field alone, or may be written to it: a zero field takes zero, a read-only field nothing (R175). -/
def Span.fits (w : Span) (f : Field) : Bool :=
  match f.access, w.value f.off f.size with
  | .plain, _ => true
  | .readOnly, v => v.isNone
  | .zero, some v => v == 0
  | .zero, none => true

/-- The write's range check for the object (R175): check 6 of R172. A write of no byte has no field boundaries to meet (DEDUCED, notes/assumptions/20). -/
def Writable.takes (o : Writable) (w : Span) : Bool :=
  decide (w.stop ≤ o.size) && (w.data.isEmpty || (w.aligned o.fields && o.fields.all w.fits))

/-! ### Commands (R171, R174) -/

/-- The command bytes of a request frame (R171). -/
inductive Command where
  | read
  | write
  | activateMap
  | cancelMap
  | format
  | recover
  | forceAbort
  | clearFault
  | clearRefusal
  | clearAlerts
  | clearStats
  | softReset
deriving DecidableEq, Repr

/-- The command of a byte (R171). -/
def Command.ofByte (b : Byte) : Option Command :=
  if b = 0x01#8 then some .read
  else if b = 0x02#8 then some .write
  else if b = 0x10#8 then some .activateMap
  else if b = 0x11#8 then some .cancelMap
  else if b = 0x20#8 then some .format
  else if b = 0x21#8 then some .recover
  else if b = 0x22#8 then some .forceAbort
  else if b = 0x23#8 then some .clearFault
  else if b = 0x30#8 then some .clearRefusal
  else if b = 0x31#8 then some .clearAlerts
  else if b = 0x32#8 then some .clearStats
  else if b = 0x3F#8 then some .softReset
  else none

/-- The commands other than READ that need the CFG_EN sample high (R174); every WRITE counts as one, one to ALERT without a mask byte too (DESIGN CHOICE, notes/assumptions/28). -/
def Command.needsCfg (c : Command) : Bool :=
  match c with
  | .write => true
  | .activateMap => true
  | .format => true
  | .softReset => true
  | .read => false
  | .cancelMap => false
  | .recover => false
  | .forceAbort => false
  | .clearFault => false
  | .clearRefusal => false
  | .clearAlerts => false
  | .clearStats => false

/-- The length of a command other than READ and WRITE (R171). -/
def Command.dataLength (c : Command) : Nat :=
  match c with
  | .clearAlerts => 3
  | _ => 0

/-! ### Judging a held request (R172) -/

/-- What a held request comes to after checks 1 to 6 of R172: a refusal, a WRITE of length 0, or the operation its owner takes. -/
inductive Decision where
  | refuse (st : Status)
  | zeroWrite
  | read (o : Object) (off len : Nat)
  | write (o : Writable) (w : Span)
  | activateMap
  | cancelMap
  | format (g : GroupId)
  | recover (g : GroupId)
  | forceAbort (g : GroupId)
  | clearFault (g : GroupId)
  | clearRefusal (p : PortId)
  | clearAlerts (set : BitVec 21)
  | clearStats (g : GroupId)
  | softReset
deriving DecidableEq, Repr

/-- The length byte of a frame (R171). -/
def frameLength (bytes : List Byte) : Nat := (byteAt bytes 4).toNat

/-- The offset field of a frame (R171). -/
def frameOffset (bytes : List Byte) : Nat := fieldAt bytes 2 2

/-- The data bytes of a frame (R171). -/
def frameData (bytes : List Byte) : List Byte := (bytes.drop 5).take (frameLength bytes)

/-- Check 1 of R172: at least 6 bytes, a length byte of at most 64, and the length the command byte calls for. -/
def frameShape (bytes : List Byte) : Bool :=
  decide (6 ≤ bytes.length) && decide (frameLength bytes ≤ 64)
    && decide (bytes.length = if byteAt bytes 0 = 0x01#8 then 6 else 6 + frameLength bytes)

/-- Check 2 of R172: the last byte is the checksum of those before it. -/
def frameSummed (bytes : List Byte) : Bool := bytes.getLast? == some (frameChecksum bytes.dropLast)

/-- A READ after check 2 (R172, R175). -/
def decideRead (bytes : List Byte) : Decision :=
  match Object.ofByte (byteAt bytes 1) with
  | none => .refuse .unknown
  | some o =>
    if frameOffset bytes + frameLength bytes ≤ o.size then .read o (frameOffset bytes) (frameLength bytes)
    else .refuse .range

/-- A WRITE after check 4 (R172, R174, R175). With the CFG_EN sample low every WRITE to an object with write access is answered LOCKED; for a WRITE to ALERT that includes no mask byte the spec leaves this open, since R174 names the mask alone (DESIGN CHOICE, notes/assumptions/28). -/
def decideWrite (bytes : List Byte) (cfgEn : Bool) : Decision :=
  match (Object.ofByte (byteAt bytes 1)).bind Object.writable with
  | none => .refuse .unknown
  | some o =>
    if cfgEn = false then .refuse .locked
    else if o.takes { off := frameOffset bytes, data := frameData bytes } then
      if frameLength bytes = 0 then .zeroWrite else .write o { off := frameOffset bytes, data := frameData bytes }
    else .refuse .range

/-- A group or port argument (R171): 0 to 3, otherwise RANGE. -/
def withIndex (b : Byte) (d : Fin 4 → Decision) : Decision :=
  if b.toNat < 4 then d (lowPair b) else .refuse .range

/-- An argument that must be 0 (R171). -/
def withZero (b : Byte) (d : Decision) : Decision := if b = 0#8 then d else .refuse .range

/-- The set of causes of CLEAR_ALERTS (R171, R175): bits 21 to 23 must be 0. -/
def withCauses (data : List Byte) (d : BitVec 21 → Decision) : Decision :=
  if leNat data < 2 ^ 21 then d (BitVec.ofNat 21 (leNat data)) else .refuse .range

/-- The operation of a command other than READ and WRITE, after its range checks (R171, R172). -/
def Command.operation (c : Command) (arg : Byte) (data : List Byte) : Decision :=
  match c with
  | .activateMap => withZero arg .activateMap
  | .cancelMap => withZero arg .cancelMap
  | .format => withIndex arg .format
  | .recover => withIndex arg .recover
  | .forceAbort => withIndex arg .forceAbort
  | .clearFault => withIndex arg .clearFault
  | .clearRefusal => withIndex arg .clearRefusal
  | .clearAlerts => withZero arg (withCauses data .clearAlerts)
  | .clearStats => withIndex arg .clearStats
  | .softReset => withZero arg .softReset
  | .read => .refuse .unknown
  | .write => .refuse .unknown

/-- A command other than READ and WRITE after check 3 (R172, checks 4 to 6). -/
def decideOther (c : Command) (bytes : List Byte) (cfgEn : Bool) : Decision :=
  if frameOffset bytes ≠ 0 ∨ frameLength bytes ≠ c.dataLength then .refuse .badFrame
  else if c.needsCfg ∧ cfgEn = false then .refuse .locked
  else c.operation (byteAt bytes 1) (frameData bytes)

/-- The command of a request frame, after checks 1 and 2 (R172). -/
def decideCommand (bytes : List Byte) (cfgEn : Bool) : Decision :=
  match Command.ofByte (byteAt bytes 0) with
  | none => .refuse .unknown
  | some .read => decideRead bytes
  | some .write => decideWrite bytes cfgEn
  | some c => decideOther c bytes cfgEn

/-- What a held request comes to by checks 1 to 6 of R172, in their order. -/
def decideFrame (bytes : List Byte) (cfgEn : Bool) : Decision :=
  if frameShape bytes = false then .refuse .badFrame
  else if frameSummed bytes = false then .refuse .badChecksum
  else decideCommand bytes cfgEn

/-! ### Responses on the wire (R171) -/

/-- The code of a status (R171). -/
def Status.code (st : Status) : Byte :=
  match st with
  | .ok => 0x00#8
  | .accepted => 0x01#8
  | .pending => 0x02#8
  | .badChecksum => 0x10#8
  | .badFrame => 0x11#8
  | .unknown => 0x12#8
  | .range => 0x13#8
  | .locked => 0x14#8
  | .state => 0x15#8
  | .conflict => 0x16#8
  | .overlap => 0x17#8
  | .invalidEntry => 0x18#8
  | .mapPending => 0x19#8

/-- Status, length and data of a response (R171). -/
def Response.body (r : Response) : List Byte := r.status.code :: BitVec.ofNat 8 r.data.length :: r.data

/-- A response as it is clocked out: its body and checksum (R171). -/
def Response.wire (r : Response) : List Byte := r.body ++ [frameChecksum r.body]

/-- `n` bytes of 0xFF. -/
def idleBytes (n : Nat) : List Byte := List.replicate n 0xFF#8

/-- The bytes on MSO of a FETCH frame of `n` bytes: 0xFF, then the response, then 0xFF (R171). -/
def fetchBytes (n : Nat) (r : Response) : List Byte := (0xFF#8 :: (r.wire ++ idleBytes n)).take n

end Sys2Proof.Machine
end

