-- ==== Sys2Proof/Machine/Objects.lean ====
section
/-! DEFINITION. The bytes of every object of the catalogue, as a READ finds them (11, Object layouts). -/

namespace Sys2Proof.Machine

/-! ### Single fields -/

/-- One byte of a number. -/
def byteOf (n : Nat) : Byte := BitVec.ofNat 8 n

/-- 0 no, 1 yes. -/
def flagByte (b : Bool) : Byte := if b then 1#8 else 0#8

/-- A one-byte value, 0xFF when absent (R175). -/
def optionByte (o : Option Nat) : Byte :=
  match o with
  | none => 0xFF#8
  | some n => byteOf n

/-- An optional index of four or sixteen, 0xFF when absent (R175). -/
def indexByte {n : Nat} (o : Option (Fin n)) : Byte := optionByte (o.map Fin.val)

/-- A port or group set: bit k stands for RPk or Gk (R175). -/
def setByte (v : FourSet) : Byte :=
  flagByte v.at0 ||| (flagByte v.at1 <<< 1) ||| (flagByte v.at2 <<< 2) ||| (flagByte v.at3 <<< 3)

/-- A 36-bit address in 8 bytes, all 0xFF when absent (R175). -/
def addrBytes (o : Option Addr) : List Byte :=
  match o with
  | none => idleBytes 8
  | some a => leBytes 8 a.toNat

/-- A four-byte value that may be absent; where it is, its bytes are open (DESIGN CHOICE, notes/assumptions/4), the `draw`th free value. -/
def wordBytes (draw : Nat) (o : Option Nat) : List Byte :=
  match o with
  | none => leBytes 4 (Config.absentWord draw).toNat
  | some v => leBytes 4 v

/-! ### Codes (R175) -/

/-- The code of a group state. -/
def GroupState.code (st : GroupState) : Byte :=
  match st with
  | .disabled => 0#8
  | .unverified => 1#8
  | .formatting => 2#8
  | .recovering => 3#8
  | .closed => 4#8
  | .opened => 5#8
  | .voting => 6#8
  | .unwinding => 7#8
  | .committing => 8#8
  | .rollingBack => 9#8
  | .faulted => 10#8

/-- The code of a close cause. -/
def CloseCause.code (c : CloseCause) : Byte :=
  match c with
  | .noClose => 0#8
  | .commit => 1#8
  | .voteAbort _ => 2#8
  | .voteTimeout => 3#8
  | .portReset _ => 4#8
  | .trigger _ => 5#8
  | .management => 6#8
  | .overflow => 7#8
  | .recovery => 8#8

/-- The port or input of a close cause, 0 where it has none (GROUP_STATUS, byte 28). -/
def CloseCause.source (c : CloseCause) : Byte :=
  match c with
  | .voteAbort p => byteOf p.val
  | .portReset p => byteOf p.val
  | .trigger n => byteOf n.val
  | .noClose => 0#8
  | .commit => 0#8
  | .voteTimeout => 0#8
  | .management => 0#8
  | .overflow => 0#8
  | .recovery => 0#8

/-- The code of a fault kind. -/
def FaultKind.code (k : FaultKind) : Byte :=
  match k with
  | .noFault => 0#8
  | .recordCorrupt => 1#8
  | .restoreWrite => 2#8
  | .headerWrite => 3#8
  | .recoveryRead => 4#8
  | .recoveryWrite => 5#8

/-- The code of a recovery outcome. -/
def RecoveryOutcome.code (o : RecoveryOutcome) : Byte :=
  match o with
  | .noOutcome => 0#8
  | .formatted => 1#8
  | .clean => 2#8
  | .replayed => 3#8
  | .noJournal => 4#8
  | .areaMismatch => 5#8
  | .faulted => 6#8

/-- The code of a trigger outcome. -/
def TriggerOutcome.code (o : TriggerOutcome) : Byte :=
  match o with
  | .notActed => 0#8
  | .rollbackStarted => 1#8
  | .joined => 2#8
  | .tooLate => 3#8
  | .nothingOpen => 4#8
  | .faulted => 5#8

/-- The code of a trigger action (TRIGGER_CONFIG). -/
def TriggerAction.code (a : TriggerAction) : Byte :=
  match a with
  | .noAction => 0#8
  | .note => 1#8
  | .rollback => 2#8

/-- The code of a domain kind. -/
def DomainKind.code (k : DomainKind) : Byte :=
  match k with
  | .passing => 0#8
  | .guarded => 1#8
  | .journaled => 2#8

/-- The code of a grant. -/
def Grant.code (x : Grant) : Byte :=
  match x with
  | .noAccess => 0#8
  | .read => 1#8
  | .readWrite => 2#8

/-- The code of an overflow policy (GROUP_CONFIG). -/
def Policy.code (x : Policy) : Byte :=
  match x with
  | .refuse => 0#8
  | .hold => 1#8
  | .abort => 2#8

/-- The code of a refusal reason: 1 to 14 in the order of R129. -/
def RefusalReason.code (r : RefusalReason) : Byte :=
  match r with
  | .malformed => 1#8
  | .journalArea => 2#8
  | .noGrant => 3#8
  | .readOnly => 4#8
  | .notParticipant => 5#8
  | .groupUnverified => 6#8
  | .groupFaulted => 7#8
  | .noEpoch => 8#8
  | .voted => 9#8
  | .mapPending => 10#8
  | .epochLimit => 11#8
  | .journalFull => 12#8
  | .trackFull => 13#8
  | .memoryError => 14#8

/-- The code of a hold reason (PORT_STATUS, byte 4). -/
def HoldReason.code (h : HoldReason) : Byte :=
  match h with
  | .unwinding => 1#8
  | .committing => 2#8
  | .rollingBack => 3#8
  | .overflow .journalFull => 4#8
  | .overflow .trackFull => 5#8

/-- The code of an access kind (REFUSAL, byte 1). -/
def accessCode (k : AccessKind) : Byte :=
  match k with
  | .read => 0#8
  | .write => 1#8

/-- The code of an outstanding kind (PORT_STATUS, byte 9). -/
def WaitingKind.code (k : WaitingKind) : Byte :=
  match k with
  | .undo => 1#8
  | .voteCommit => 2#8
  | .voteAbort => 3#8

/-- The code of a header copy (GROUP_STATUS, byte 44). -/
def copyByte (c : Option Copy) : Byte := optionByte (c.map Copy.slot)

/-! ### Objects -/

/-- The layout of a domain entry. -/
def DomainEntry.bytes (d : DomainEntry) : List Byte :=
  [flagByte d.valid, d.kind.code, indexByte d.group, d.grants.at0.code, d.grants.at1.code, d.grants.at2.code,
    d.grants.at3.code, 0#8] ++ leBytes 4 d.base.toNat ++ leBytes 4 d.limit.toNat

/-- The layout of GROUP_CONFIG. -/
def GroupConfig.bytes (c : GroupConfig) : List Byte :=
  leBytes 8 c.base.toNat ++ leBytes 4 c.slots
    ++ [setByte c.participants, c.policy.code, flagByte c.autoOpen, 0#8]
    ++ leBytes 2 c.holdLimit ++ leBytes 2 c.voteWindow ++ leBytes 2 c.quota ++ zeroBytes 2

/-- The setting port of mark `k + 1`, 0xFF above the level (GROUP_STATUS, bytes 20 to 26). -/
def Group.markByte (x : Group) (k : Nat) : Byte := indexByte x.marks[k]?

/-- The presence byte of a fault record (GROUP_STATUS, byte 30). -/
def FaultRecord.presence (f : FaultRecord) : Byte := flagByte f.slot.isSome ||| (flagByte f.block.isSome <<< 1)

/-- The layout of GROUP_STATUS (R21). -/
def State.groupStatusBytes (s : State) (g : GroupId) : List Byte :=
  let x := s.group g
  [x.state.code, byteOf x.level, setByte x.voteSet, flagByte x.recordInFlight]
    ++ leBytes 4 x.closedEpoch.toNat ++ leBytes 4 x.currentEpoch.toNat
    ++ leBytes 2 x.journalLength ++ leBytes 2 (s.entriesOf g) ++ leBytes 2 x.effectiveQuota
    ++ [byteOf x.queue.length, byteOf x.putBack.length]
    ++ [x.markByte 0, x.markByte 1, x.markByte 2, x.markByte 3, x.markByte 4, x.markByte 5, x.markByte 6]
    ++ [x.lastClose.code, x.lastClose.source, x.fault.kind.code, x.fault.presence, 0#8]
    ++ leBytes 4 x.fault.epoch.toNat
    ++ wordBytes s.draws x.fault.slot
    ++ wordBytes (s.draws + 1) (x.fault.block.map BitVec.toNat)
    ++ [copyByte x.recoveryResult.copy, x.recoveryResult.outcome.code] ++ zeroBytes 2
    ++ leBytes 4 x.recoveryResult.closedFound.toNat
    ++ leBytes 2 x.recoveryResult.found ++ leBytes 2 x.recoveryResult.replayed ++ zeroBytes 8

/-- The layout of GROUP_STATS (R20). -/
def Stats.bytes (t : Stats) : List Byte :=
  leBytes 4 t.commits ++ leBytes 4 t.rollbacks ++ leBytes 4 t.undos ++ leBytes 4 t.recordsAppended
    ++ leBytes 4 t.overflowRefusals ++ leBytes 4 t.holdExpiries

/-- The code of a head stage (PORT_STATUS, byte 3). -/
def headStageCode (st : Option Stage) : Byte :=
  match st with
  | some .classifying => 1#8
  | some (.held _) => 2#8
  | some .waitingOnEntry => 3#8
  | some .inQueue => 4#8
  | _ => 0#8

/-- The hold reason byte (PORT_STATUS, byte 4). -/
def holdByte (st : Option Stage) : Byte :=
  match st with
  | some (.held why) => why.code
  | _ => 0xFF#8

/-- The head group that PORT_STATUS shows: absent for no head and for a head in classifying (R132; DEDUCED, notes/assumptions/17). -/
def State.shownHeadGroup (s : State) (p : PortId) : Option GroupId :=
  match s.headStage p with
  | none => none
  | some .classifying => none
  | some _ => (s.port p).headGroup

/-- The channel bytes (PORT_STATUS, bytes 8 to 11); 0xFF for what an IDLE channel has not (DEDUCED, notes/assumptions/18). -/
def channelBytes (c : Option Outstanding) : List Byte :=
  match c with
  | none => [0#8, 0#8, 0xFF#8, 0xFF#8]
  | some o => [1#8, o.kind.code, byteOf o.arg.val, byteOf o.group.val]

/-- The request is in the issued stage. -/
def Request.isIssued (r : Request) : Bool :=
  match r.stage with
  | .issued _ => true
  | _ => false

/-- The layout of PORT_STATUS (R132). -/
def State.portStatusBytes (s : State) (p : PortId) : List Byte :=
  let x := s.port p
  [byteOf x.queue.length, byteOf (x.queue.countP Request.isIssued), byteOf (x.queue.countP (fun r => r.stage == .answered)),
    headStageCode (s.headStage p), holdByte (s.headStage p), indexByte (s.shownHeadGroup p), indexByte (s.groupOf p),
    flagByte x.resetPin] ++ channelBytes x.channel ++ zeroBytes 4 ++ addrBytes x.lastWrite

/-- The layout of a refusal record and its count (R129, R130); `draw` numbers the free value of an absent epoch. With no record its fields are 0 or absent (DEDUCED, notes/assumptions/19). -/
def refusalBytes (draw : Nat) (r : Option RefusalRecord) (count : Nat) : List Byte :=
  match r with
  | none =>
    [0#8, 0#8, 0#8, 0#8, 0xFF#8, 0xFF#8, 0#8, 0#8] ++ leBytes 8 0 ++ wordBytes draw none ++ leBytes 2 count ++ zeroBytes 2
  | some r =>
    [1#8, accessCode r.kind, byteOf r.size, r.reason.code, indexByte r.domain, indexByte r.group, flagByte r.epoch.isSome,
      0#8] ++ leBytes 8 r.addr.toNat ++ wordBytes draw (r.epoch.map BitVec.toNat) ++ leBytes 2 count ++ zeroBytes 2

/-- The layout of TRIGGER_CONFIG. -/
def Trigger.configBytes (t : Trigger) : List Byte := [t.action.code, setByte t.mask]

/-- A group in the layout of SNAPSHOT. -/
def GroupShot.bytes (x : GroupShot) : List Byte :=
  [x.state.code, byteOf x.level, x.outcome.code, 0#8] ++ leBytes 4 x.closedEpoch.toNat ++ leBytes 2 x.journalLength
    ++ zeroBytes 2

/-- The items of a snapshot slot that is not valid: 0, NONE or absent (R164; DEDUCED, notes/assumptions/19). -/
def Snapshot.blank : Snapshot :=
  { action := .noAction, number := 0
    groups := Four.const { state := .disabled, closedEpoch := 0, journalLength := 0, level := 0, outcome := .notActed }
    lastWrites := Four.const none }

/-- The items of a snapshot slot. -/
def Trigger.shot (t : Trigger) : Snapshot := t.snapshot.getD Snapshot.blank

/-- The layout of SNAPSHOT (R164). -/
def Trigger.snapshotBytes (t : Trigger) : List Byte :=
  [flagByte t.snapshot.isSome, t.shot.action.code] ++ leBytes 2 t.shot.number ++ leBytes 2 t.count ++ zeroBytes 2
    ++ t.shot.groups.at0.bytes ++ t.shot.groups.at1.bytes ++ t.shot.groups.at2.bytes ++ t.shot.groups.at3.bytes
    ++ addrBytes t.shot.lastWrites.at0 ++ addrBytes t.shot.lastWrites.at1 ++ addrBytes t.shot.lastWrites.at2
    ++ addrBytes t.shot.lastWrites.at3

/-- The layout of ALERT (R168, R169). -/
def State.alertBytes (s : State) : List Byte :=
  leBytes 3 s.alerts.latched.toNat ++ [0#8] ++ leBytes 3 s.alerts.mask.toNat ++ [flagByte s.alertLine]

/-- The layout of TRACK_USAGE (R24). -/
def State.trackUsageBytes (s : State) : List Byte :=
  leBytes 2 s.table.length ++ leBytes 2 (s.entriesOf 0) ++ leBytes 2 (s.entriesOf 1) ++ leBytes 2 (s.entriesOf 2)
    ++ leBytes 2 (s.entriesOf 3)

/-- IDENT: vendor 0x0E5C, part 0x113A, revision 1. -/
def identBytes : List Byte := leBytes 2 0x0E5C ++ leBytes 2 0x113A ++ [1#8] ++ zeroBytes 3

/-- All bytes of an object, from one moment (R175). -/
def State.objectBytes (s : State) (o : Object) : List Byte :=
  match o with
  | .domainShadow i => s.map.shadow[i].bytes
  | .domainActive i => s.map.active[i].bytes
  | .mapState => [flagByte s.map.pending]
  | .groupConfig g => (s.group g).config.bytes
  | .groupStatus g => s.groupStatusBytes g
  | .groupStats g => (s.group g).stats.bytes
  | .portStatus p => s.portStatusBytes p
  | .refusal p => refusalBytes s.draws (s.port p).refusal (s.port p).refusalCount
  | .triggerConfig n => (s.trigger n).configBytes
  | .snapshot n => (s.trigger n).snapshotBytes
  | .alert => s.alertBytes
  | .trackUsage => s.trackUsageBytes
  | .ident => identBytes

end Sys2Proof.Machine
end

