-- ==== Sys2Proof/Machine/Writes.lean ====
section
/-! DEFINITION. The owners' checks and effects of configuration writes: shadow entries (R107), group configurations (R2 to R5), trigger configurations (R161) and the alert mask (R169). -/

namespace Sys2Proof.Machine

/-! ### Written fields -/

/-- The field is not written, or the value written to it is in range. -/
def Span.valid (w : Span) (off size : Nat) (range : Nat → Bool) : Bool :=
  match w.value off size with
  | none => true
  | some v => range v

/-- The new value of a field: the old one where the field is not written. -/
def Span.pick {α : Type} (w : Span) (off size : Nat) (old : α) (read : Nat → α) : α :=
  match w.value off size with
  | none => old
  | some v => read v

/-- The set whose byte has bit k for member k (R175). -/
def setOfByte (v : Nat) : FourSet :=
  { at0 := v.testBit 0, at1 := v.testBit 1, at2 := v.testBit 2, at3 := v.testBit 3 }

/-! ### DOMAIN_SHADOW (R107) -/

/-- The kind of a code (R175). -/
def DomainKind.ofCode (v : Nat) : DomainKind :=
  match v with
  | 0 => .passing
  | 1 => .guarded
  | _ => .journaled

/-- The grant of a code (R175). -/
def Grant.ofCode (v : Nat) : Grant :=
  match v with
  | 0 => .noAccess
  | 1 => .read
  | _ => .readWrite

/-- The group of a byte: absent for 0xFF (R175). -/
def groupOfByte (v : Nat) : Option GroupId := if v < 4 then some (Fin.ofNat 4 v) else none

/-- Check 1 of R107: each written value lies in the range of R106. -/
def shadowInRange (w : Span) : Bool :=
  w.valid 0 1 (fun v => decide (v ≤ 1)) && w.valid 1 1 (fun v => decide (v ≤ 2))
    && w.valid 2 1 (fun v => decide (v < 4) || v == 0xFF) && w.valid 3 1 (fun v => decide (v ≤ 2))
    && w.valid 4 1 (fun v => decide (v ≤ 2)) && w.valid 5 1 (fun v => decide (v ≤ 2))
    && w.valid 6 1 (fun v => decide (v ≤ 2)) && w.valid 8 4 (fun v => decide (v < 2 ^ 30))
    && w.valid 12 4 (fun v => decide (v < 2 ^ 30))

/-- The entry with its touched fields changed together (R107). -/
def DomainEntry.written (d : DomainEntry) (w : Span) : DomainEntry :=
  { valid := w.pick 0 1 d.valid (fun v => v == 1)
    kind := w.pick 1 1 d.kind DomainKind.ofCode
    group := w.pick 2 1 d.group groupOfByte
    grants := { at0 := w.pick 3 1 d.grants.at0 Grant.ofCode, at1 := w.pick 4 1 d.grants.at1 Grant.ofCode,
                at2 := w.pick 5 1 d.grants.at2 Grant.ofCode, at3 := w.pick 6 1 d.grants.at3 Grant.ofCode }
    base := w.pick 8 4 d.base (BitVec.ofNat 30)
    limit := w.pick 12 4 d.limit (BitVec.ofNat 30) }

/-- The map with a shadow entry written (R107). -/
def DomainMap.shadowWritten (m : DomainMap) (i : EntryId) (w : Span) : DomainMap :=
  { m with shadow := m.shadow.set i (m.shadow[i].written w) }

/-- A write to DOMAIN_SHADOW[i] (R107). -/
def State.writeShadow (s : State) (i : EntryId) (w : Span) : State × Response :=
  if shadowInRange w = false then (s, Response.plain .range)
  else if s.map.pending then (s, Response.plain .mapPending)
  else ({ s with map := s.map.shadowWritten i w }, Response.plain .ok)

/-! ### GROUP_CONFIG (R2 to R5) -/

/-- The policy of a code (R175). -/
def Policy.ofCode (v : Nat) : Policy :=
  match v with
  | 0 => .refuse
  | 1 => .hold
  | _ => .abort

/-- The write includes a byte of the journal area fields (R175). -/
def Span.touchesArea (w : Span) : Bool := w.covers 0 8 || w.covers 8 4

/-- The write includes the participant set (R175). -/
def Span.touchesSet (w : Span) : Bool := w.covers 12 1

/-- The write includes a policy field (R5). -/
def Span.touchesPolicy (w : Span) : Bool :=
  w.covers 13 1 || w.covers 14 1 || w.covers 16 2 || w.covers 18 2 || w.covers 20 2

/-- The configuration with its touched fields changed together (R2). -/
def GroupConfig.written (c : GroupConfig) (w : Span) : GroupConfig :=
  { base := w.pick 0 8 c.base (BitVec.ofNat 36)
    slots := w.pick 8 4 c.slots id
    participants := w.pick 12 1 c.participants setOfByte
    policy := w.pick 13 1 c.policy Policy.ofCode
    autoOpen := w.pick 14 1 c.autoOpen (fun v => v == 1)
    holdLimit := w.pick 16 2 c.holdLimit id
    voteWindow := w.pick 18 2 c.voteWindow id
    quota := w.pick 20 2 c.quota id }

/-- Each written value of a group configuration lies in the range of R1. -/
def configInRange (w : Span) : Bool :=
  w.valid 0 8 (fun v => decide (v < 2 ^ 36) && decide (v % 128 = 0))
    && w.valid 8 4 (fun v => v == 0 || (decide (3 ≤ v) && decide (v ≤ 65536)))
    && w.valid 12 1 (fun v => decide (v < 16)) && w.valid 13 1 (fun v => decide (v ≤ 2))
    && w.valid 14 1 (fun v => decide (v ≤ 1)) && w.valid 16 2 (fun v => decide (1 ≤ v))
    && w.valid 20 2 (fun v => decide (1 ≤ v) && decide (v ≤ 1024))

/-- The area fits the address space (R2, check 1). -/
def GroupConfig.areaFits (c : GroupConfig) : Bool :=
  decide (c.slots = 0) || decide (c.base.toNat + 128 * c.slots ≤ 2 ^ 36)

/-- Two configurations' enabled areas have a byte in common (R2, check 5). -/
def GroupConfig.areasMeet (c d : GroupConfig) : Bool :=
  decide (c.slots ≠ 0) && decide (d.slots ≠ 0) && decide (c.base.toNat < d.base.toNat + 128 * d.slots)
    && decide (d.base.toNat < c.base.toNat + 128 * c.slots)

/-- The groups other than `g`. -/
def othersOf (g : GroupId) : List GroupId := fourIds.filter (fun k => k != g)

/-- Port `p` belongs to the participant set of a group other than `g` (R4). -/
def State.takenElsewhere (s : State) (g : GroupId) (p : PortId) : Bool :=
  (othersOf g).any (fun k => (s.group k).config.participants.get p)

/-- The new set takes a port that another group's set holds (R2, check 4). -/
def State.setConflict (s : State) (g : GroupId) (new : FourSet) : Bool :=
  fourIds.any (fun p => new.get p && !(s.group g).config.participants.get p && s.takenElsewhere g p)

/-- A valid entry of the active map names the group as JOURNALED (R2, check 4). -/
def State.namedByMap (s : State) (g : GroupId) : Bool :=
  entryIds.any (fun i => s.map.active[i].valid && s.map.active[i].journalGroup == some g)

/-- The slot count is written 0 while the active map names the group (R2, check 4). -/
def State.areaConflict (s : State) (g : GroupId) (w : Span) : Bool := w.value 8 4 == some 0 && s.namedByMap g

/-- The new area overlaps a valid active entry or another group's enabled area (R2, check 5; R3). -/
def State.areaOverlaps (s : State) (g : GroupId) (c : GroupConfig) : Bool :=
  entryIds.any (fun i => s.map.active[i].valid && s.map.active[i].meetsArea c)
    || (othersOf g).any (fun k => c.areasMeet (s.group k).config)

/-- The states in which the area and the participant set may be written (R3, R4). -/
def GroupState.configurable (st : GroupState) : Bool :=
  match st with
  | .disabled => true
  | .unverified => true
  | .closed => true
  | .formatting => false
  | .recovering => false
  | .opened => false
  | .voting => false
  | .unwinding => false
  | .committing => false
  | .rollingBack => false
  | .faulted => false

/-- The first check of R2 that a write to GROUP_CONFIG[g] fails, by its status. -/
def State.configFault (s : State) (g : GroupId) (w : Span) : Option Status :=
  if configInRange w = false ∨ (w.touchesArea = true ∧ ((s.group g).config.written w).areaFits = false) then some .range
  else if (w.touchesArea || w.touchesSet) = true ∧ (s.group g).state.configurable = false then some .state
  else if w.touchesArea = true ∧ s.map.pending = true then some .mapPending
  else if (w.touchesSet && s.setConflict g ((s.group g).config.written w).participants) || s.areaConflict g w then
    some .conflict
  else if w.touchesArea = true ∧ s.areaOverlaps g ((s.group g).config.written w) = true then some .overlap
  else none

/-- The group once its area has been written (R3). -/
def Group.areaWritten (x : Group) : Group :=
  { x with
    state := if x.config.slots = 0 then .disabled else .unverified
    closedEpoch := 0
    journalLength := 0
    recoveryResult := RecoveryResult.reset }

/-- The group once a write to its configuration is accepted (R2 to R5). -/
def Group.configured (x : Group) (w : Span) : Group :=
  if w.touchesArea then { x with config := x.config.written w }.areaWritten else { x with config := x.config.written w }

/-- A write to GROUP_CONFIG[g] (R2). -/
def State.writeConfig (s : State) (g : GroupId) (w : Span) : State × Response :=
  match s.configFault g w with
  | some st => (s, Response.plain st)
  | none => (s.modGroup g (fun x => x.configured w), Response.plain .ok)

/-! ### TRIGGER_CONFIG (R161) and the ALERT mask (R169) -/

/-- The action of a code (R175). -/
def TriggerAction.ofCode (v : Nat) : TriggerAction :=
  match v with
  | 0 => .noAction
  | 1 => .note
  | _ => .rollback

/-- Each written value of a trigger configuration lies in the table of R161. -/
def triggerInRange (w : Span) : Bool :=
  w.valid 0 1 (fun v => decide (v ≤ 2)) && w.valid 1 1 (fun v => decide (v < 16))

/-- The trigger input with its touched fields changed (R161). -/
def Trigger.written (t : Trigger) (w : Span) : Trigger :=
  { t with action := w.pick 0 1 t.action TriggerAction.ofCode, mask := w.pick 1 1 t.mask setOfByte }

/-- A write to TRIGGER_CONFIG[n] (R161). -/
def State.writeTrigger (s : State) (n : TrigId) (w : Span) : State × Response :=
  if triggerInRange w then (s.modTrigger n (fun t => t.written w), Response.plain .ok) else (s, Response.plain .range)

/-- No bit of 21 to 23 is set in the mask written (R175, ALERT). -/
def maskInRange (w : Span) : Bool := w.valid 4 3 (fun v => decide (v < 2 ^ 21))

/-- A write of the ALERT mask (R169). -/
def State.writeMask (s : State) (w : Span) : State × Response :=
  if maskInRange w then
    ({ s with alerts := { s.alerts with mask := w.pick 4 3 s.alerts.mask (BitVec.ofNat 21) } }, Response.plain .ok)
  else (s, Response.plain .range)

/-- A WRITE of whole fields, taken by its owner (R175). -/
def State.writeObject (s : State) (o : Writable) (w : Span) : State × Response :=
  match o with
  | .domainShadow i => s.writeShadow i w
  | .groupConfig g => s.writeConfig g w
  | .triggerConfig n => s.writeTrigger n w
  | .alert => s.writeMask w

end Sys2Proof.Machine
end

