-- ==== Sys2Proof/Machine/Mgmt.lean ====
section
/-! DEFINITION. The management port: taking frames, deciding the held request, and its response (11, R171 to R180), with the meaning of every row that decides a request. -/

namespace Sys2Proof.Machine

/-! ### Carrying a request out (R175 to R178) -/

/-- A READ: the bytes of the object from one moment (R175). The free values of its absent fields are used up. -/
def State.readObject (s : State) (o : Object) (off len : Nat) : State × Response :=
  (s.drawn.drawn, { status := .ok, data := ((s.objectBytes o).drop off).take len })

/-- FORMAT g (R92, R177). -/
def State.format (s : State) (g : GroupId) : State × Response :=
  if (s.group g).state = .unverified then (s.beginFormat g, Response.plain .accepted) else (s, Response.plain .state)

/-- RECOVER g (R96, R177). -/
def State.recover (s : State) (g : GroupId) : State × Response :=
  if (s.group g).state = .unverified then (s.beginRecover g, Response.plain .accepted) else (s, Response.plain .state)

/-- FORCE_ABORT g (R13, R177). -/
def State.forceAbort (s : State) (g : GroupId) : State × Response :=
  if (s.group g).state.abortable then (s.enterRollingBack g .management, Response.plain .accepted)
  else if (s.group g).state = .rollingBack then (s, Response.plain .ok)
  else (s, Response.plain .state)

/-- CLEAR_FAULT g (R17). -/
def State.clearFault (s : State) (g : GroupId) : State × Response :=
  if (s.group g).state = .faulted then
    (s.modGroup g (fun x => { x with state := .unverified }), Response.plain .ok)
  else (s, Response.plain .state)

/-- CLEAR_REFUSAL p (R130). -/
def State.clearRefusal (s : State) (p : PortId) : State × Response :=
  (s.modPort p (fun x => { x with refusal := none, refusalCount := 0 }), Response.plain .ok)

/-- CLEAR_STATS g (R20). -/
def State.clearStats (s : State) (g : GroupId) : State × Response :=
  (s.modGroup g (fun x => { x with stats := Stats.reset }), Response.plain .ok)

/-- What the decision of a request comes to, with its response; none for a SOFT_RESET, whose response is ready later (R172, R179). -/
def State.carryOut (s : State) (d : Decision) : State × Option Response :=
  match d with
  | .refuse st => (s, some (Response.plain st))
  | .zeroWrite => (s, some (Response.plain .ok))
  | .read o off len => ((s.readObject o off len).1, some (s.readObject o off len).2)
  | .write o w => ((s.writeObject o w).1, some (s.writeObject o w).2)
  | .activateMap => (s.activate.1, some s.activate.2)
  | .cancelMap => (s.cancel.1, some s.cancel.2)
  | .format g => ((s.format g).1, some (s.format g).2)
  | .recover g => ((s.recover g).1, some (s.recover g).2)
  | .forceAbort g => ((s.forceAbort g).1, some (s.forceAbort g).2)
  | .clearFault g => ((s.clearFault g).1, some (s.clearFault g).2)
  | .clearRefusal p => ((s.clearRefusal p).1, some (s.clearRefusal p).2)
  | .clearAlerts set => (s.clearCauses set, some (Response.plain .ok))
  | .clearStats g => ((s.clearStats g).1, some (s.clearStats g).2)
  | .softReset => (s.softReset, none)

/-! ### The held request -/

/-- The held request while it waits for its decision (R172). -/
def Mgmt.undecided (m : Mgmt) : Option HeldRequest :=
  if m.resetting then none else m.held.filter (fun h => h.response.isNone)

/-- The held request has this response (R172). -/
def Mgmt.responded (m : Mgmt) (r : Option Response) : Mgmt :=
  { m with held := m.held.map (fun h => { h with response := r }) }

/-- The management port changed by `f`. -/
def State.modMgmt (s : State) (f : Mgmt → Mgmt) : State := { s with mgmt := f s.mgmt }

/-- What the held request comes to by checks 1 to 6 (R172). -/
def HeldRequest.decision (h : HeldRequest) : Decision := decideFrame h.bytes h.cfgEn

/-- A held request is decided as `d`: it is carried out, and its response is ready at this event (R172). -/
def State.decideAs (s : State) (d : Decision) : State :=
  (s.carryOut d).1.modMgmt (fun m => m.responded (s.carryOut d).2)

/-- The held request is decided, if it waits for its decision (R172). -/
def State.decideHeld (s : State) : State :=
  match s.mgmt.undecided with
  | none => s
  | some h => s.decideAs h.decision

/-- A row of the table that decides requests: taken when the held request waits for its decision and the decision is one of the row's; else the event is not there (DESIGN CHOICE, notes/assumptions/9). -/
def State.decideRow (s : State) (row : Decision → Bool) : Host.Outcome State Fault Refusal :=
  match s.mgmt.undecided with
  | none => .next s
  | some h => if row h.decision then .next (s.tick.decideAs h.decision) else .next s

/-! ### Frames (R171 to R173, R179, R180) -/

/-- The bytes on MSO of a request frame, or of a frame while RESET_N is asserted, of `n` bytes: 0xFF throughout (R171). -/
def State.idleOut (s : State) (n : Nat) : State := s.emit (.mso (idleBytes n))

/-- The request held (R172). -/
def HeldRequest.fresh (bytes : List Byte) (cfgEn : Bool) : HeldRequest :=
  { bytes := bytes, cfgEn := cfgEn, response := none }

/-- A request frame is taken (R172): ignored while a SOFT_RESET waits for its response (R179), else it becomes the held request. -/
def State.holdRequest (s : State) (bytes : List Byte) (cfgEn : Bool) : State :=
  if s.mgmt.resetting then s else s.modMgmt (fun m => { m with held := some (HeldRequest.fresh bytes cfgEn) })

/-- The response to the held request as a FETCH frame finds it (R173). -/
def Mgmt.fetched (m : Mgmt) : Response :=
  match m.held with
  | none => Response.plain .unknown
  | some h => if m.resetting then Response.plain .pending else h.response.getD (Response.plain .pending)

/-- A FETCH frame of `n` bytes is taken (R173). -/
def State.fetchFrame (s : State) (n : Nat) : State := s.emit (.mso (fetchBytes n s.mgmt.fetched))

/-- A request frame is taken at the rising edge of MCS_N: a request still waiting for its decision is decided first (R172). -/
def State.requestFrame (s : State) (bytes : List Byte) (cfgEn : Bool) : State :=
  ((s.tick.decideHeld).holdRequest bytes cfgEn).idleOut bytes.length

/-- A frame with bytes on MSI, judged by its first byte (R171). -/
def State.frame (s : State) (bytes : List Byte) (cfgEn : Bool) : State :=
  match bytes with
  | [] => s
  | b :: _ => if b = 0x00#8 then s.fetchFrame bytes.length else s.requestFrame bytes cfgEn

/-- The bytes on MSO of a stale FETCH frame with `n` bytes after its first: 0xFF during the first byte (R171); after it every bit clocked while RESET_N is asserted is 1, since MSO is 0xFF then (R171), and the others are free, since a frame that is not taken has no response (DESIGN CHOICE, notes/assumptions/23). -/
def staleBytes (n draws : Nat) (inReset : List Byte) : List Byte :=
  0xFF#8 :: (List.range n).map (fun i => inReset.getD i 0x00#8 ||| Config.staleByte draws i)

/-- A stale FETCH frame with `n` bytes after its first: not taken (R180), and MSO is driven. -/
def State.staleFetch (s : State) (n : Nat) (inReset : List Byte) : State :=
  s.drawn.emit (.mso (staleBytes n s.draws inReset))

/-- A stale frame (R180): not taken; MSO is 0xFF throughout a request frame (R171). -/
def State.staleFrame (s : State) (bytes inReset : List Byte) : State :=
  match bytes with
  | [] => s
  | b :: more => if b = 0x00#8 then s.staleFetch more.length inReset else s.idleOut bytes.length

/-- REQUEST_FRAME (R172). A stale frame, which straddles an edge of RESET_N, is not taken (R180); while RESET_N is asserted no frame is taken and MSO is 0xFF (R171). -/
def execRequestFrame (bytes : List Byte) (cfgEn : Bool) (span : FrameSpan) (s : State) :
    Host.Outcome State Fault Refusal :=
  match span with
  | .stale inReset => .next (s.staleFrame bytes inReset)
  | .whole => if s.resetPin then .next (s.idleOut bytes.length) else .next (s.frame bytes cfgEn)

/-- FETCH (R173). MSO is 0xFF while RESET_N is asserted: throughout a frame wholly within the assertion, and in a frame that straddles an edge of RESET_N during every bit clocked in reset (R171). Such a frame is never taken (R180), so the spec gives no response for its bits clocked out of reset: those after the first byte are free (DESIGN CHOICE, notes/assumptions/23). -/
def execFetch (more : List Byte) (span : FrameSpan) (s : State) : Host.Outcome State Fault Refusal :=
  match span with
  | .stale inReset => .next (s.staleFetch more.length inReset)
  | .whole =>
    if s.resetPin then .next (s.idleOut (1 + more.length)) else .next (s.fetchFrame (1 + more.length))

/-! ### The rows that decide a request -/

/-- READ (R175). -/
def execRead (s : State) : Host.Outcome State Fault Refusal :=
  s.decideRow (fun d =>
    match d with
    | .read _ _ _ => true
    | _ => false)

/-- DOMAIN_SHADOW_WRITE (R107). -/
def execDomainShadowWrite (s : State) : Host.Outcome State Fault Refusal :=
  s.decideRow (fun d =>
    match d with
    | .write (.domainShadow _) _ => true
    | _ => false)

/-- JOURNAL_AREA_WRITE (R3): a GROUP_CONFIG write that includes an area field, with whatever other fields it writes (R2; DESIGN CHOICE, notes/assumptions/21). -/
def execJournalAreaWrite (s : State) : Host.Outcome State Fault Refusal :=
  s.decideRow (fun d =>
    match d with
    | .write (.groupConfig _) w => w.touchesArea
    | _ => false)

/-- PARTICIPANT_SET_WRITE (R4): a GROUP_CONFIG write that includes the participant set (DESIGN CHOICE, notes/assumptions/21). -/
def execParticipantSetWrite (s : State) : Host.Outcome State Fault Refusal :=
  s.decideRow (fun d =>
    match d with
    | .write (.groupConfig _) w => w.touchesSet
    | _ => false)

/-- POLICY_WRITE (R5): a GROUP_CONFIG write that includes a policy field, or no field but a zero one (DESIGN CHOICE, notes/assumptions/21). -/
def execPolicyWrite (s : State) : Host.Outcome State Fault Refusal :=
  s.decideRow (fun d =>
    match d with
    | .write (.groupConfig _) w => w.touchesPolicy || !(w.touchesArea || w.touchesSet)
    | _ => false)

/-- TRIGGER_CONFIG_WRITE (R161). -/
def execTriggerConfigWrite (s : State) : Host.Outcome State Fault Refusal :=
  s.decideRow (fun d =>
    match d with
    | .write (.triggerConfig _) _ => true
    | _ => false)

/-- ALERT_MASK_WRITE (R169). -/
def execAlertMaskWrite (s : State) : Host.Outcome State Fault Refusal :=
  s.decideRow (fun d =>
    match d with
    | .write .alert _ => true
    | _ => false)

/-- ACTIVATE_MAP (R109). -/
def execActivateMap (s : State) : Host.Outcome State Fault Refusal :=
  s.decideRow (fun d =>
    match d with
    | .activateMap => true
    | _ => false)

/-- CANCEL_MAP (R113). -/
def execCancelMap (s : State) : Host.Outcome State Fault Refusal :=
  s.decideRow (fun d =>
    match d with
    | .cancelMap => true
    | _ => false)

/-- FORMAT (R92). -/
def execFormat (s : State) : Host.Outcome State Fault Refusal :=
  s.decideRow (fun d =>
    match d with
    | .format _ => true
    | _ => false)

/-- RECOVER (R96). -/
def execRecover (s : State) : Host.Outcome State Fault Refusal :=
  s.decideRow (fun d =>
    match d with
    | .recover _ => true
    | _ => false)

/-- FORCE_ABORT (R177). -/
def execForceAbort (s : State) : Host.Outcome State Fault Refusal :=
  s.decideRow (fun d =>
    match d with
    | .forceAbort _ => true
    | _ => false)

/-- CLEAR_FAULT (R17). -/
def execClearFault (s : State) : Host.Outcome State Fault Refusal :=
  s.decideRow (fun d =>
    match d with
    | .clearFault _ => true
    | _ => false)

/-- CLEAR_REFUSAL (R130). -/
def execClearRefusal (s : State) : Host.Outcome State Fault Refusal :=
  s.decideRow (fun d =>
    match d with
    | .clearRefusal _ => true
    | _ => false)

/-- CLEAR_ALERTS (R170). -/
def execClearAlerts (s : State) : Host.Outcome State Fault Refusal :=
  s.decideRow (fun d =>
    match d with
    | .clearAlerts _ => true
    | _ => false)

/-- CLEAR_STATS (R20). -/
def execClearStats (s : State) : Host.Outcome State Fault Refusal :=
  s.decideRow (fun d =>
    match d with
    | .clearStats _ => true
    | _ => false)

/-- SOFT_RESET (R179). -/
def execSoftReset (s : State) : Host.Outcome State Fault Refusal :=
  s.decideRow (fun d =>
    match d with
    | .softReset => true
    | _ => false)

/-- REFUSED_REQUEST (R172): a request refused by checks 1 to 6, or a WRITE of length 0. -/
def execRefusedRequest (s : State) : Host.Outcome State Fault Refusal :=
  s.decideRow (fun d =>
    match d with
    | .refuse _ => true
    | .zeroWrite => true
    | _ => false)

/-! ### SOFT_RESET_RESPONSE (R179) -/

/-- The management port once the SOFT_RESET's OK is ready (R179). -/
def Mgmt.softResetDone (m : Mgmt) : Mgmt := { m.responded (some (Response.plain .ok)) with resetting := false }

/-- SOFT_RESET_RESPONSE (R179): taken while a SOFT_RESET waits for its response. -/
def execSoftResetResponse (s : State) : Host.Outcome State Fault Refusal :=
  if s.mgmt.resetting then .next (s.modMgmt Mgmt.softResetDone) else .next s

end Sys2Proof.Machine
end

