-- ==== Sys2Proof/Machine/Steps.lean ====
section
/-! DEFINITION. The answers to the journal engine's transactions: OLD_BLOCK_READ and RECORD_WRITE (02, R35 to R39). -/

namespace Sys2Proof.Machine

/-- An old-block read. -/
def Role.isOldBlockRead (r : Role) : Bool := r == .oldBlockRead

/-- A record write. -/
def Role.isRecordWrite (r : Role) : Bool := r == .recordWrite

/-- The record is composed and its write handed on (R35). -/
def State.writeRecord (s : State) (g : GroupId) (contents : List Byte) : State :=
  match (s.group g).step with
  | none => s
  | some st => s.handSlotWrite g .journal st.slot (recordSlot g st contents) .recordWrite

/-- The step in progress of the group ends without a record (R37, R39). -/
def State.failStep (s : State) (g : GroupId) : State :=
  match (s.group g).step with
  | none => s
  | some st => s.stepFailed g st

/-- The record of the step in progress is durable (R36, R38). -/
def State.finishRecord (s : State) (g : GroupId) : State :=
  match (s.group g).step with
  | none => s
  | some st => s.recordAcknowledged g st

/-- OLD_BLOCK_READ (R35, R39). -/
def execOldBlockRead (place : PlaceId) (a : MemAnswer) (s : State) : Host.Outcome State Fault Refusal :=
  s.takeOwn place a Role.isOldBlockRead (fun g _ data s => s.writeRecord g data) (fun g _ s => s.failStep g)

/-- RECORD_WRITE (R36, R37, R38). -/
def execRecordWrite (place : PlaceId) (a : MemAnswer) (s : State) : Host.Outcome State Fault Refusal :=
  s.takeOwn place a Role.isRecordWrite (fun g _ _ s => s.finishRecord g) (fun g _ s => s.failStep g)

end Sys2Proof.Machine
end

