-- ==== Sys2Proof/Machine/Unwind.lean ====
section
/-! DEFINITION. The answers to the transactions of undo, rollback and commit: CLEAR_PHASE_WRITE, RECORD_READ, RESTORE_WRITE, POP_COMPLETE, COMMIT_HEADER_WRITE and ROLLBACK_HEADER_WRITE (03, 04). -/

namespace Sys2Proof.Machine

/-- The clearing write of phase CLEAR. -/
def Role.isClearPhase (r : Role) : Bool := r == .clearPhase

/-- The record read of a pop. -/
def Role.isPopRead (r : Role) : Bool := r == .popRead

/-- The restore write of a pop. -/
def Role.isPopRestore (r : Role) : Bool :=
  match r with
  | .popRestore _ _ => true
  | _ => false

/-- The clearing write of a pop. -/
def Role.isPopClear (r : Role) : Bool :=
  match r with
  | .popClear _ _ => true
  | _ => false

/-- The commit header write. -/
def Role.isCommitHeader (r : Role) : Bool := r == .commitHeader

/-- The closing header write of a rollback. -/
def Role.isRollbackHeader (r : Role) : Bool := r == .rollbackHeader

/-- CLEAR_PHASE_WRITE (R55, R60, R78): popping begins, or the group faults RESTORE_WRITE at slot 2 + journal length. -/
def execClearPhaseWrite (place : PlaceId) (a : MemAnswer) (s : State) : Host.Outcome State Fault Refusal :=
  s.takeOwn place a Role.isClearPhase (fun g _ _ s => s.nextPop g)
    (fun g _ s => s.faultNow g .restoreWrite (some (2 + (s.group g).journalLength)) none)

/-- The undo running in the group keeps a record of this level: it is below the target mark, and no rollback has overtaken the undo (R56, R61). -/
def Group.keepsRecord (x : Group) (level : Nat) : Bool :=
  match x.state, x.unwind with
  | .unwinding, some u => decide (level < u.target)
  | _, _ => false

/-- The slot read in a pop has been verified or not, and is popped, kept, or faults the group (R56, R59). -/
def State.slotRead (s : State) (g : GroupId) (slot : List Byte) : State :=
  if matchesRecord g (s.group g).currentEpoch (s.group g).journalLength slot then
    if (s.group g).keepsRecord (recordLevel slot) then s.finishUndo g
    else s.handRestore g (recordBlock slot) (recordContents slot) (.popRestore (recordBlock slot) (recordPrior slot))
  else s.faultNow g .recordCorrupt (s.group g).popSlot none

/-- RECORD_READ (R56, R59, R83). -/
def execRecordRead (place : PlaceId) (a : MemAnswer) (s : State) : Host.Outcome State Fault Refusal :=
  s.takeOwn place a Role.isPopRead (fun g _ data s => s.slotRead g data)
    (fun g _ s => s.faultNow g .recordCorrupt (s.group g).popSlot none)

/-- The slot in progress as a slot number. -/
def Group.popSlotNumber (x : Group) : Nat := x.popSlot.getD (1 + x.journalLength)

/-- The block's restore is acknowledged and the record's slot is cleared next (R57). -/
def State.clearPopped (s : State) (g : GroupId) (role : Role) : State :=
  match role with
  | .popRestore b prior => s.handClearing g (s.group g).popSlotNumber (.popClear b prior)
  | _ => s

/-- The block that a restore or clearing write of a pop is about (R60). -/
def Role.poppedBlock (r : Role) : Option Block :=
  match r with
  | .popRestore b _ => some b
  | .popClear b _ => some b
  | _ => none

/-- RESTORE_WRITE (R57, R60, R83). -/
def execRestoreWrite (place : PlaceId) (a : MemAnswer) (s : State) : Host.Outcome State Fault Refusal :=
  s.takeOwn place a Role.isPopRestore (fun g role _ s => s.clearPopped g role)
    (fun g role s => s.faultNow g .restoreWrite (some (s.group g).popSlotNumber) role.poppedBlock)

/-- The table once a record of a block with a prior level is popped (R57). -/
def popEntry (b : Block) (prior : Option Nat) (table : List TrackEntry) : List TrackEntry :=
  match prior, findEntry table b with
  | none, _ => dropEntry b table
  | some _, none => table
  | some l, some e => putEntry { e with durable := some l } table

/-- The group as the completion of a pop leaves it (R57, R61). -/
def Group.popped (x : Group) : Group :=
  { x.atPhase .pop none with
    journalLength := x.journalLength - 1
    unwind := match x.state with
      | .rollingBack => none
      | _ => (x.atPhase .pop none).unwind }

/-- The pop completes (R57): the length falls, the entry is adjusted, the next pop begins, and held heads retake their checks (R41). -/
def State.popDone (s : State) (g : GroupId) (role : Role) : State :=
  match role with
  | .popClear b prior => ((((s.setTable (popEntry b prior s.table)).modGroup g Group.popped).nextPop g)).retakeAll
  | _ => s

/-- POP_COMPLETE (R57, R60, R83). -/
def execPopComplete (place : PlaceId) (a : MemAnswer) (s : State) : Host.Outcome State Fault Refusal :=
  s.takeOwn place a Role.isPopClear (fun g role _ s => s.popDone g role)
    (fun g role s => s.faultNow g .restoreWrite (some (s.group g).popSlotNumber) role.poppedBlock)

/-- The slot of the header that the group writes at its close (R72). -/
def Group.headerSlotNumber (x : Group) : Nat := (copyFor x.currentEpoch).slot

/-- COMMIT_HEADER_WRITE (R73, R74): the commit point, after which held heads of other groups retake their checks. -/
def execCommitHeaderWrite (place : PlaceId) (a : MemAnswer) (s : State) : Host.Outcome State Fault Refusal :=
  s.takeOwn place a Role.isCommitHeader (fun g _ _ s => (s.commitPoint g).retakeAll)
    (fun g _ s => s.faultNow g .headerWrite (some (s.group g).headerSlotNumber) none)

/-- ROLLBACK_HEADER_WRITE (R80, R83): the close of a rollback. -/
def execRollbackHeaderWrite (place : PlaceId) (a : MemAnswer) (s : State) : Host.Outcome State Fault Refusal :=
  s.takeOwn place a Role.isRollbackHeader (fun g _ _ s => (s.rollbackClose g).retakeAll)
    (fun g _ s => s.faultNow g .headerWrite (some (s.group g).headerSlotNumber) none)

end Sys2Proof.Machine
end

