-- ==== Sys2Proof/Machine/Dispatch.lean ====
section
/-! DEFINITION. The dispatch: one arm for each command. -/

namespace Sys2Proof.Machine

/-- The effect of a command on everything but the queue of waiting commands. -/
def exec (i : Instr) (s : State) : Host.Outcome State Fault Refusal :=
  match i with
  | .powerOn => Sys2Proof.Machine.execPowerOn s
  | .resetNAssert => Sys2Proof.Machine.execResetNAssert s
  | .resetNDeassert levels => Sys2Proof.Machine.execResetNDeassert levels s
  | .portReset p => Sys2Proof.Machine.execPortReset p s
  | .prstDeassert p => Sys2Proof.Machine.execPrstDeassert p s
  | .triggerEvent n => Sys2Proof.Machine.execTriggerEvent n s
  | .triggerInputLow n => Sys2Proof.Machine.execTriggerInputLow n s
  | .requestAccept p r => Sys2Proof.Machine.execRequestAccept p r s
  | .classification p => Sys2Proof.Machine.execClassification p s
  | .beginEpoch p arg => Sys2Proof.Machine.execBegin p arg s
  | .mark p arg => Sys2Proof.Machine.execMark p arg s
  | .undo p m => Sys2Proof.Machine.execUndo p m s
  | .voteCommit p arg => Sys2Proof.Machine.execVoteCommit p arg s
  | .voteAbort p arg => Sys2Proof.Machine.execVoteAbort p arg s
  | .query p arg => Sys2Proof.Machine.execQuery p arg s
  | .unknownCommand p code arg => Sys2Proof.Machine.execUnknownCommand p code arg s
  | .grant place => Sys2Proof.Machine.execGrant place s
  | .requesterAnswer place a => Sys2Proof.Machine.execRequesterAnswer place a s
  | .oldBlockRead place a => Sys2Proof.Machine.execOldBlockRead place a s
  | .recordWrite place a => Sys2Proof.Machine.execRecordWrite place a s
  | .clearPhaseWrite place a => Sys2Proof.Machine.execClearPhaseWrite place a s
  | .recordRead place a => Sys2Proof.Machine.execRecordRead place a s
  | .restoreWrite place a => Sys2Proof.Machine.execRestoreWrite place a s
  | .popComplete place a => Sys2Proof.Machine.execPopComplete place a s
  | .commitHeaderWrite place a => Sys2Proof.Machine.execCommitHeaderWrite place a s
  | .rollbackHeaderWrite place a => Sys2Proof.Machine.execRollbackHeaderWrite place a s
  | .formatClearingWrite place a => Sys2Proof.Machine.execFormatClearingWrite place a s
  | .formatHeaderWrite place a => Sys2Proof.Machine.execFormatHeaderWrite place a s
  | .headerRead place a => Sys2Proof.Machine.execHeaderRead place a s
  | .scanRead place a => Sys2Proof.Machine.execScanRead place a s
  | .replayRead place a => Sys2Proof.Machine.execReplayRead place a s
  | .recoveryRestoreWrite place a => Sys2Proof.Machine.execRecoveryRestoreWrite place a s
  | .recoveryHeaderWrite place a => Sys2Proof.Machine.execRecoveryHeaderWrite place a s
  | .orphanedAnswer place a => Sys2Proof.Machine.execOrphanedAnswer place a s
  | .holdExpiry g => Sys2Proof.Machine.execHoldExpiry g s
  | .voteTimeout g => Sys2Proof.Machine.execVoteTimeout g s
  | .mapActivationComplete => Sys2Proof.Machine.execMapActivationComplete s
  | .requestFrame bytes cfgEn span => Sys2Proof.Machine.execRequestFrame bytes cfgEn span s
  | .fetch more span => Sys2Proof.Machine.execFetch more span s
  | .read => Sys2Proof.Machine.execRead s
  | .domainShadowWrite => Sys2Proof.Machine.execDomainShadowWrite s
  | .journalAreaWrite => Sys2Proof.Machine.execJournalAreaWrite s
  | .participantSetWrite => Sys2Proof.Machine.execParticipantSetWrite s
  | .policyWrite => Sys2Proof.Machine.execPolicyWrite s
  | .triggerConfigWrite => Sys2Proof.Machine.execTriggerConfigWrite s
  | .alertMaskWrite => Sys2Proof.Machine.execAlertMaskWrite s
  | .activateMap => Sys2Proof.Machine.execActivateMap s
  | .cancelMap => Sys2Proof.Machine.execCancelMap s
  | .format => Sys2Proof.Machine.execFormat s
  | .recover => Sys2Proof.Machine.execRecover s
  | .forceAbort => Sys2Proof.Machine.execForceAbort s
  | .clearFault => Sys2Proof.Machine.execClearFault s
  | .clearRefusal => Sys2Proof.Machine.execClearRefusal s
  | .clearAlerts => Sys2Proof.Machine.execClearAlerts s
  | .clearStats => Sys2Proof.Machine.execClearStats s
  | .softReset => Sys2Proof.Machine.execSoftReset s
  | .softResetResponse => Sys2Proof.Machine.execSoftResetResponse s
  | .refusedRequest => Sys2Proof.Machine.execRefusedRequest s

end Sys2Proof.Machine
end

