-- ==== Sys2Proof/Machine/Step.lean ====
section
/-! DEFINITION. One step of the block: the command at the front of the queue takes its effect on everything but the queue. -/

namespace Sys2Proof.Machine

/-- The step: the command at the front of the queue runs with the queue's rest; on an empty queue the block idles (DESIGN CHOICE, notes/assumptions/11). -/
def step (s : State) : Host.Outcome State Fault Refusal :=
  match s.pending with
  | [] => .next s
  | c :: rest => exec c { s with pending := rest }

/-- The state with the command that a word spells, if it spells one, at the front of the queue (DESIGN CHOICE, notes/assumptions/12). -/
def State.withFetchWord (s : State) (nbits w : Nat) : State :=
  match decodeTableWord nbits w with
  | none => s
  | some c => { s with pending := c :: s.pending }

end Sys2Proof.Machine
end

