-- ==== Sys2Proof/WellFormed.lean ====
section
/-! DEFINITION. Which commands the interfaces of the block can carry at all (R121, R155, R171): the checks that the operand types do not already make. -/

namespace Sys2Proof

/-- A requester's bus carries a size of 1 to 128, and for a write one data byte for each byte of the size (R121). Whether the shape is well-formed in the sense of R122 is the port's own check, made at classification. -/
def BusRequest.wf (r : BusRequest) : Bool :=
  decide (1 ≤ r.size) && decide (r.size ≤ 128) &&
    (match r.kind with
     | .read => decide (r.data = [])
     | .write => decide (r.data.length = r.size))

/-- A memory answer carries at most the 128 bytes of the largest transaction (R150). -/
def MemAnswer.wf (a : MemAnswer) : Bool :=
  match a with
  | .ok data => decide (data.length ≤ 128)
  | .error => true

/-- A request frame has a first byte, and it is not 0x00, which begins a FETCH frame (R171). -/
def requestBytesWf (bytes : List Byte) : Bool :=
  match bytes with
  | [] => false
  | b :: _ => decide (b ≠ 0x00#8)

/-- A stale frame has one mask for each byte after its first (notes/assumptions/26). -/
def FrameSpan.wf (span : FrameSpan) (later : Nat) : Bool :=
  match span with
  | .whole => true
  | .stale inReset => decide (inReset.length = later)

/-- The command is one that the block's interfaces can carry. -/
def Instr.wf (i : Instr) : Bool :=
  match i with
  | .powerOn => true
  | .resetNAssert => true
  | .resetNDeassert _ => true
  | .portReset _ => true
  | .prstDeassert _ => true
  | .triggerEvent _ => true
  | .triggerInputLow _ => true
  | .requestAccept _ r => r.wf
  | .classification _ => true
  | .beginEpoch _ _ => true
  | .mark _ _ => true
  | .undo _ _ => true
  | .voteCommit _ _ => true
  | .voteAbort _ _ => true
  | .query _ _ => true
  | .unknownCommand _ _ _ => true
  | .grant _ => true
  | .requesterAnswer _ a => a.wf
  | .oldBlockRead _ a => a.wf
  | .recordWrite _ a => a.wf
  | .clearPhaseWrite _ a => a.wf
  | .recordRead _ a => a.wf
  | .restoreWrite _ a => a.wf
  | .popComplete _ a => a.wf
  | .commitHeaderWrite _ a => a.wf
  | .rollbackHeaderWrite _ a => a.wf
  | .formatClearingWrite _ a => a.wf
  | .formatHeaderWrite _ a => a.wf
  | .headerRead _ a => a.wf
  | .scanRead _ a => a.wf
  | .replayRead _ a => a.wf
  | .recoveryRestoreWrite _ a => a.wf
  | .recoveryHeaderWrite _ a => a.wf
  | .orphanedAnswer _ a => a.wf
  | .holdExpiry _ => true
  | .voteTimeout _ => true
  | .mapActivationComplete => true
  | .requestFrame bytes _ span => requestBytesWf bytes && span.wf (bytes.length - 1)
  | .fetch more span => span.wf more.length
  | .read => true
  | .domainShadowWrite => true
  | .journalAreaWrite => true
  | .participantSetWrite => true
  | .policyWrite => true
  | .triggerConfigWrite => true
  | .alertMaskWrite => true
  | .activateMap => true
  | .cancelMap => true
  | .format => true
  | .recover => true
  | .forceAbort => true
  | .clearFault => true
  | .clearRefusal => true
  | .clearAlerts => true
  | .clearStats => true
  | .softReset => true
  | .softResetResponse => true
  | .refusedRequest => true

end Sys2Proof
end

