-- ==== Sys2Proof/Safety.lean ====
section
/-! DEFINITION. What counts as a sound state of the 4410, in the terms the statements use: one tracking entry for each block and at most 1024 of them (R24), at most eight requests at a port (R121), a port in at most one participant set (R4), at most seven marks in a group (R49), and the law of the active map (R114); and the situations and effects that the statements speak of. -/

namespace Sys2Proof.Machine

/-- The tracking entries stand in rising order of block address, so no block has two (R24). -/
def State.tableSorted (s : State) : Prop := s.table.Pairwise (fun x y => x.block < y.block)

/-- The tracking table holds at most its 1024 entries (R24). -/
def State.tableFits (s : State) : Prop := s.table.length ≤ tableCapacity

/-- No port holds more requests than its queue has places (R121). -/
def State.queuesFit (s : State) : Prop := ∀ p : PortId, (s.port p).queue.length ≤ queuePlaces

/-- Each port belongs to the participant set of at most one group (R4). -/
def State.setsDisjoint (s : State) : Prop :=
  ∀ (p : PortId) (g k : GroupId), (s.group g).config.participants.get p = true →
    (s.group k).config.participants.get p = true → g = k

/-- No group's level exceeds seven (R49). -/
def State.levelsFit (s : State) : Prop := ∀ g : GroupId, (s.group g).level ≤ levelLimit

/-- Every counter of the machine stays at or below the value at which it stops counting (R20, R129, R163). -/
def Stats.bounded (t : Stats) : Prop :=
  t.commits ≤ statLimit ∧ t.rollbacks ≤ statLimit ∧ t.undos ≤ statLimit ∧ t.recordsAppended ≤ statLimit
    ∧ t.overflowRefusals ≤ statLimit ∧ t.holdExpiries ≤ statLimit

/-- The statistic counters of every group fit 32 bits, and the refusal and event counts 16 bits (R20, R129, R163). -/
def State.countersFit (s : State) : Prop :=
  (∀ g : GroupId, (s.group g).stats.bounded) ∧ (∀ p : PortId, (s.port p).refusalCount ≤ countLimit)
    ∧ (∀ n : TrigId, (s.trigger n).count ≤ countLimit)

/-! ### Situations and effects that the statements speak of -/

/-- The channel of port `p` hears commands (R139): none of the tests 1 and 3 decides one. -/
def State.hears (s : State) (p : PortId) : Prop :=
  (s.port p).resetPin = false ∧ s.resetPin = false ∧ s.mgmt.resetting = false ∧ (s.port p).channel = none

/-- The head of port `p` is the request `r`, and it is being classified (R125). -/
def State.classifying (s : State) (p : PortId) (r : Request) : Prop :=
  s.head p = some r ∧ r.stage = .classifying

/-- A live transaction of group `g`'s own, in the role `r` and of `n` bytes, stands in the place, and RESET_N is not asserted (R151, R155). -/
def State.ownAt (s : State) (i : PlaceId) (g : GroupId) (r : Role) (n : Nat) : Prop :=
  s.resetPin = false ∧ ∃ x, s.mem.places[i] = some x ∧ x.source = .group g ∧ x.orphan = .live ∧ x.role = r ∧ x.size = n

/-- The held request waits for its decision, and by checks 1 to 6 it comes to `d` (R172). -/
def State.awaits (s : State) (d : Decision) : Prop :=
  s.mgmt.resetting = false ∧ ∃ h, s.mgmt.held = some h ∧ h.response = none ∧ decideFrame h.bytes h.cfgEn = d

/-- `s` at a later event, with the held request answered by `r` (R172). -/
def State.answeredBy (s : State) (r : Response) : State :=
  { s with clock := s.clock + 1, mgmt := { s.mgmt with held := s.mgmt.held.map (fun h => { h with response := some r }) } }

/-- `s` at a later event, with the place freed by its answer (R155). -/
def State.placeFreed (s : State) (i : PlaceId) : State :=
  { s with clock := s.clock + 1, mem := { s.mem with places := s.mem.places.set i none } }

/-- The response that a request of port `p` gets by the memory's answer `a` (R123, R126, R127). -/
def Request.responseBy (r : Request) (p : PortId) (a : MemAnswer) : Emission :=
  match a, r.kind with
  | .ok data, .read => .response p .ok (fitBytes r.size data)
  | .ok _, .write => .response p .ok []
  | .error, .read => .response p .error (zeroBytes r.size)
  | .error, .write => .response p .error []

/-- The response that a request of port `p` waits to be given, if it is ready (R126): by the answer kept with it, or as a refused one. -/
def Request.readyFor (r : Request) (p : PortId) : Option Emission :=
  match r.stage with
  | .issued (some a) => some (r.responseBy p a)
  | .answered => some (r.responseBy p .error)
  | _ => none

/-- The requests behind a head that is decided: the oldest becomes the head and enters classifying (R125). -/
def nextPresented (rest : List Request) : List Request :=
  match rest with
  | [] => []
  | x :: more => { x with stage := .classifying } :: more

/-- The queue of port `p` around its head `r` (R124, R126): the older requests are issued or answered, and the oldest of them, if there is one, still waits for the memory; the younger ones are waiting. -/
def State.queueAround (s : State) (p : PortId) (older : List Request) (r : Request) (rest : List Request) : Prop :=
  (s.port p).queue = older ++ r :: rest ∧ (∀ x ∈ older, x.stage = .answered ∨ ∃ a, x.stage = .issued a)
    ∧ (∀ x, older.head? = some x → x.stage = .issued none) ∧ ∀ x ∈ rest, x.stage = .waiting

/-- From `s` to `t` the head `r` of port `p` takes the stage issued and the next request becomes the head, in classifying and without an outcome yet (R125); nothing else of the port changes. -/
def State.headIssued (s t : State) (p : PortId) (r : Request) : Prop :=
  ∀ older rest, s.queueAround p older r rest → t.port p = { s.port p with
    queue := older ++ { r with stage := .issued none } :: nextPresented rest, headDomain := none, headGroup := none }

/-- From `s` to `t` the head `r` of port `p` is answered: its ERROR response is given at once where it is the oldest, and otherwise it keeps its place until its turn; the next request becomes the head, in classifying (R123, R125, R126). -/
def State.headAnswered (s t : State) (p : PortId) (r : Request) : Prop :=
  ∀ older rest, s.queueAround p older r rest →
    (t.port p).queue = (if older = [] then nextPresented rest
      else older ++ { r with stage := .answered } :: nextPresented rest)
    ∧ t.emitted = s.emitted ++ (if older = [] then [r.responseBy p .error] else [])

/-- From `s` to `t` the head `r` of port `p` is refused (R129) and answered (R126), and nothing of the groups, the table, the memory port or the map changes. -/
def State.refusedIn (s t : State) (p : PortId) (r : Request) (why : RefusalReason) (d : Option EntryId)
    (g : Option GroupId) : Prop :=
  (t.port p).refusal = some { kind := r.kind, addr := r.addr, size := r.size, reason := why, domain := d, group := g,
                              epoch := g.map (fun k => (s.group k).closedEpoch + 1) }
    ∧ (t.port p).refusalCount = min 65535 ((s.port p).refusalCount + 1)
    ∧ t.isLatched (.refusal p) = true
    ∧ (∀ q, q ≠ p → t.port q = s.port q)
    ∧ t.groups = s.groups ∧ t.table = s.table ∧ t.mem = s.mem ∧ t.map = s.map ∧ t.triggers = s.triggers
    ∧ t.mgmt = s.mgmt ∧ t.alerts.mask = s.alerts.mask ∧ s.headAnswered t p r

/-- From `s` to `t` the head `r` of port `p` is issued to memory unchanged, as a requester transaction with the data group `g` (R117, R29, R150); the next request becomes the head (R125), and no response is given. -/
def State.issuedIn (s t : State) (p : PortId) (r : Request) (g : Option GroupId) : Prop :=
  t.mem = { s.mem with waiting := s.mem.waiting ++
      [{ source := .port p, cls := .requester, kind := r.kind, addr := r.addr, size := r.size, data := r.data,
         dataGroup := g, orphan := .live, role := .request r.tag, stamp := s.clock + 1 }] }
    ∧ s.headIssued t p r ∧ (∀ older rest, s.queueAround p older r rest → t.emitted = s.emitted)
    ∧ (t.port p).refusal = (s.port p).refusal ∧ (t.port p).refusalCount = (s.port p).refusalCount
    ∧ (∀ q, q ≠ p → t.port q = s.port q)
    ∧ t.groups = s.groups ∧ t.table = s.table ∧ t.map = s.map ∧ t.triggers = s.triggers ∧ t.alerts = s.alerts
    ∧ t.mgmt = s.mgmt

/-- From `s` to `t` the head of port `p` is held for `why` and nothing else moves but the port's own classification outcome (R128). -/
def State.heldIn (s t : State) (p : PortId) (why : HoldReason) : Prop :=
  t.headStage p = some (.held why) ∧ (∀ q, q ≠ p → t.port q = s.port q) ∧ t.groups = s.groups ∧ t.table = s.table
    ∧ t.mem = s.mem ∧ t.map = s.map ∧ t.emitted = s.emitted ∧ t.alerts = s.alerts

/-- The request reaches the admission of group `g` by domain `i` (R116 to R119). -/
def State.reaches (s : State) (p : PortId) (r : Request) (i : EntryId) (g : GroupId) : Prop :=
  r.wellFormed = true ∧ s.inJournalArea (blockOf r.addr) = false ∧ s.domainOf (blockOf r.addr) = some i
    ∧ (s.map.active[i].grants.get p).permits r.kind = true ∧ s.map.active[i].kind = .journaled
    ∧ s.map.active[i].group = some g ∧ (r.kind = .write → (s.group g).config.participants.get p = true)

/-- The group's epoch number may move at this command (R7): it is a reset, the end of a FORMAT, the choice of a header, or the decision of a request that may be a configuration write or a SOFT_RESET. -/
def setsEpoch (c : Instr) : Bool :=
  match c with
  | .powerOn => true
  | .resetNAssert => true
  | .formatHeaderWrite _ _ => true
  | .headerRead _ _ => true
  | .requestFrame _ _ _ => true
  | .journalAreaWrite => true
  | .participantSetWrite => true
  | .policyWrite => true
  | .softReset => true
  | _ => false

/-- The command may close an epoch (R7): the answer to a header that closes one. -/
def closesEpoch (c : Instr) : Bool :=
  match c with
  | .commitHeaderWrite _ _ => true
  | .rollbackHeaderWrite _ _ => true
  | .recoveryHeaderWrite _ _ => true
  | _ => false

/-- The command may change a group's configuration (R1): a device reset, or the decision of a request that may be a configuration write. -/
def setsConfig (c : Instr) : Bool :=
  match c with
  | .powerOn => true
  | .resetNAssert => true
  | .requestFrame _ _ _ => true
  | .journalAreaWrite => true
  | .participantSetWrite => true
  | .policyWrite => true
  | _ => false

/-- The command may change the active map (R106, R109, R112). -/
def setsActiveMap (c : Instr) : Bool :=
  match c with
  | .powerOn => true
  | .resetNAssert => true
  | .requestFrame _ _ _ => true
  | .activateMap => true
  | .mapActivationComplete => true
  | _ => false

/-- The command may clear an alert cause (R170). -/
def clearsCauses (c : Instr) : Bool :=
  match c with
  | .powerOn => true
  | .resetNAssert => true
  | .requestFrame _ _ _ => true
  | .clearAlerts => true
  | .softReset => true
  | _ => false

/-! ### More situations and effects that the statements speak of -/

/-- The valid entries of the active map have no block in common, meet no enabled journal area, and name an enabled group where they are JOURNALED (R114); and a shadow copy that waits for activation has passed validation (R109). -/
def State.mapLawful (s : State) : Prop :=
  (∀ i j : EntryId, i ≠ j → s.map.active[i].valid = true → s.map.active[j].valid = true →
      s.map.active[i].meets s.map.active[j] = false)
    ∧ (∀ (i : EntryId) (g : GroupId), s.map.active[i].valid = true → s.map.active[i].meetsArea (s.group g).config = false)
    ∧ (∀ i : EntryId, s.map.active[i].valid = true → s.map.active[i].kind = .journaled →
        ∃ g, s.map.active[i].group = some g ∧ (s.group g).config.slots ≠ 0)
    ∧ (s.map.pending = true → s.validation = none)

/-- The commands by which the memory answers the transaction in a place. -/
def answersOf (i : PlaceId) (a : MemAnswer) : List Instr :=
  [.requesterAnswer i a, .oldBlockRead i a, .recordWrite i a, .clearPhaseWrite i a, .recordRead i a, .restoreWrite i a,
    .popComplete i a, .commitHeaderWrite i a, .rollbackHeaderWrite i a, .formatClearingWrite i a, .formatHeaderWrite i a,
    .headerRead i a, .scanRead i a, .replayRead i a, .recoveryRestoreWrite i a, .recoveryHeaderWrite i a,
    .orphanedAnswer i a]

/-- The command moves the reference level of trigger input `n` (R162). -/
def setsLevel (n : TrigId) (c : Instr) : Bool :=
  match c with
  | .powerOn => true
  | .resetNAssert => true
  | .resetNDeassert _ => true
  | .triggerEvent k => k == n
  | .triggerInputLow k => k == n
  | _ => false

/-- The command moves the rotation pointer, or may (R154). -/
def setsPointer (c : Instr) : Bool :=
  match c with
  | .powerOn => true
  | .resetNAssert => true
  | .grant _ => true
  | _ => false

/-- From `s` to `t` group `g` has entered ROLLING_BACK with a cause (R76): the cause is its last close cause, its vote window has stopped, its configuration, epoch, votes, marks and journal length are kept, and no write whose step has not begun is in its queue: each is on the put-back list, behind those already there, and held by ROLLING_BACK (R77), as are the heads that UNWINDING held (R61). -/
def State.rolledInto (s t : State) (g : GroupId) (c : CloseCause) : Prop :=
  (t.group g).state = .rollingBack ∧ (t.group g).lastClose = c
    ∧ (t.group g).rollback.map (fun x => x.cause) = some c ∧ (t.group g).voteTimer = none ∧ (t.group g).hold = none
    ∧ (t.group g).config = (s.group g).config ∧ (t.group g).closedEpoch = (s.group g).closedEpoch
    ∧ (t.group g).voteSet = (s.group g).voteSet ∧ (t.group g).marks = (s.group g).marks
    ∧ (t.group g).journalLength = (s.group g).journalLength ∧ (t.group g).step = (s.group g).step
    ∧ (t.group g).queue = (s.group g).queue.filter
        (fun p => (s.group g).step.any (fun x => x.owner == some p))
    ∧ (t.group g).putBack = (s.group g).putBack ++ (s.group g).queue.filter
        (fun p => !(s.group g).step.any (fun x => x.owner == some p))
    ∧ (∀ p r, s.head p = some r → p ∈ (s.group g).queue → (∀ x, (s.group g).step = some x → x.owner ≠ some p) →
        t.headStage p = some (.held .rollingBack))
    ∧ ∀ p, s.headStage p = some (.held .unwinding) → (s.port p).headGroup = some g →
        t.headStage p = some (.held .rollingBack)

/-! ### The epoch channels and the memory port, as the statements speak of them -/

/-- The commands whose kinds name a command, as port `p` sends them with an argument (R136). -/
def channelCommands (p : PortId) (arg : Fin 8) : List Instr :=
  [.beginEpoch p arg, .mark p arg, .undo p arg, .voteCommit p arg, .voteAbort p arg, .query p arg]

/-- The state with one answer given out on ECp, at the event `n`, and nothing else done (R137). -/
def State.onlyAnswers (s : State) (n : Nat) (p : PortId) (a : Answer) : State :=
  { s with clock := n, emitted := s.emitted ++ [.answer p a] }

/-- The channel of port `p` hears commands, and the port's group is `g` (R139, test 5). -/
def State.commands (s : State) (p : PortId) (g : GroupId) : Prop := s.hears p ∧ s.groupOf p = some g

/-- The port is the only one that the class REQUESTER is for, and the groups alone use the other two classes (R150). -/
def State.classesSound (s : State) : Prop :=
  ∀ x ∈ s.mem.held, x.cls = .requester ↔ ∃ p, x.source = .port p

/-- The transaction is the oldest WAITING one of its source, and no OUTSTANDING one and no WAITING one of an earlier event touches a block it touches where one of the two is a write (R152, R153). -/
def MemPort.presents (m : MemPort) (x : Txn) : Prop :=
  (∃ older younger, m.waiting = older ++ x :: younger ∧ ∀ y ∈ older, y.source ≠ x.source)
    ∧ (∀ (j : PlaceId) (y : Txn), m.places[j] = some y → x.clashes y = false)
    ∧ (∀ y ∈ m.waiting, y.stamp < x.stamp → x.clashes y = false)

/-- RESTORE comes before JOURNAL and JOURNAL before REQUESTER (R153). -/
def TxnClass.rank (c : TxnClass) : Nat :=
  match c with
  | .restore => 0
  | .journal => 1
  | .requester => 2

/-- No head of any group's journal queue is held (R41). -/
def State.noneHeld (s : State) : Prop := ∀ g : GroupId, (s.group g).hold = none

/-- From `s` to `t` every group but `g` stays as it is. -/
def State.othersKept (s t : State) (g : GroupId) : Prop := ∀ k : GroupId, k ≠ g → t.group k = s.group k

/-- The clearing write of a slot of group `g`: 128 zero bytes (R88). -/
def Group.clearing (x : Group) (g : GroupId) (slot : Nat) (r : Role) : Txn :=
  ownOf g .restore .write (x.config.base + BitVec.ofNat 36 (128 * slot)) 128 (List.replicate 128 0#8) r

/-- The read of a slot of group `g` (R87). -/
def Group.slotRead (x : Group) (g : GroupId) (slot : Nat) (r : Role) : Txn :=
  ownOf g .restore .read (x.config.base + BitVec.ofNat 36 (128 * slot)) 128 [] r

/-- The header write by which group `g` closes its current epoch (R72, R79, R91): copy A for an even number, copy B for an odd one. -/
def Group.closingHeader (x : Group) (g : GroupId) (h : HeaderState) (r : Role) : Txn :=
  if (x.closedEpoch + 1).toNat % 2 = 0 then
    ownOf g .journal .write x.config.base 128 (headerSlot g .a h (x.closedEpoch + 1) x.config.slots) r
  else
    ownOf g .journal .write (x.config.base + 128#36) 128 (headerSlot g .b h (x.closedEpoch + 1) x.config.slots) r

/-- The head of port `p` stands inside group `g`: held (R11, R41), on the waiting list of one of its entries (R27), or in its queue (R30). -/
def Request.standsInside (r : Request) : Prop := (∃ why, r.stage = .held why) ∨ r.stage = .waitingOnEntry ∨ r.stage = .inQueue

/-- From `s` to `t` every head that stood inside group `g` has been classified again and refused GROUP_FAULTED, where its block is still of a domain of the group (R15, items 3 and 5; R27, R59); a head is of one group, so that it stands in no other group's queue (R30). -/
def State.insideRefused (s t : State) (g : GroupId) : Prop :=
  ∀ (p : PortId) (r : Request) (i : EntryId), s.head p = some r → r.standsInside → (s.port p).headGroup = some g →
    s.reaches p r i g → (∀ k, k ≠ g → p ∉ (s.group k).queue) →
    (t.port p).refusal = some { kind := r.kind, addr := r.addr, size := r.size, reason := .groupFaulted,
                                domain := some i, group := some g, epoch := some ((s.group g).closedEpoch + 1) }
      ∧ (t.port p).refusalCount = min 65535 ((s.port p).refusalCount + 1) ∧ t.isLatched (.refusal p) = true

/-- The recovery result that a failure reported by the command `c` leaves (R19): none, 0, 0, 0 and FAULTED for a FORMAT (R95); how far it came and FAULTED for a RECOVER (R102); elsewhere as it was. -/
def Group.resultAfter (x y : Group) (c : Instr) : Prop :=
  match c with
  | .formatClearingWrite _ _ | .formatHeaderWrite _ _ =>
    y.recoveryResult = { copy := none, closedFound := 0, found := 0, replayed := 0, outcome := .faulted }
  | .headerRead _ _ | .scanRead _ _ | .replayRead _ _ | .recoveryRestoreWrite _ _ | .recoveryHeaderWrite _ _ =>
    ∀ k, x.recovery = some k → y.recoveryResult =
      { copy := k.chosen, closedFound := k.named, found := k.found.getD x.journalLength,
        replayed := k.found.getD x.journalLength - x.journalLength, outcome := .faulted }
  | _ => y.recoveryResult = x.recoveryResult

/-- From `s` to `t` group `g` has entered FAULTED with a fault record: the six items of R15 (the fault record; FAULT(g) latched; its entries released and the writes on their waiting lists refused; its marks, votes and vote timer empty; its put-back list and queue empty and the requests held by its state refused; its waiting commands answered), its journal length, epoch, effective quota and statistics kept. -/
def State.faultedIn (s t : State) (g : GroupId) (k : FaultKind) (e : Epoch) (slot : Option Nat) (b : Option Block) :
    Prop :=
  (t.group g).state = .faulted ∧ (t.group g).fault = { kind := k, epoch := e, slot := slot, block := b }
    ∧ (t.group g).marks = [] ∧ (t.group g).voteSet = Four.const false ∧ (t.group g).voteTimer = none
    ∧ (t.group g).queue = [] ∧ (t.group g).putBack = [] ∧ (t.group g).step = none ∧ (t.group g).hold = none
    ∧ (t.group g).config = (s.group g).config ∧ (t.group g).closedEpoch = (s.group g).closedEpoch
    ∧ (t.group g).journalLength = (s.group g).journalLength ∧ (t.group g).effectiveQuota = (s.group g).effectiveQuota
    ∧ (t.group g).stats = (s.group g).stats ∧ (t.group g).lastClose = (s.group g).lastClose
    ∧ t.entriesOf g = 0 ∧ t.isLatched (.fault g) = true
    ∧ (∀ (p : PortId) (o : Outstanding), (s.port p).channel = some o → o.group = g →
        (t.port p).channel = none ∧ .answer p (.faulted k e) ∈ t.emitted) ∧ s.insideRefused t g

/-- A failure that the memory reports to group `g` through the place, or a slot whose checks fail, and the fault it makes: its kind, epoch, slot and block (R16, R59, R60, R74, R83, R95, R102). -/
def State.failsAt (s : State) (i : PlaceId) (g : GroupId) (c : Instr) (k : FaultKind) (e : Epoch) (slot : Option Nat)
    (b : Option Block) : Prop :=
  (s.ownAt i g .clearPhase 128 ∧ c = .clearPhaseWrite i .error ∧ k = .restoreWrite ∧ e = (s.group g).closedEpoch + 1
      ∧ slot = some (2 + (s.group g).journalLength) ∧ b = none)
    ∨ (s.ownAt i g .popRead 128
      ∧ (c = .recordRead i .error ∨ ∃ data, c = .recordRead i (.ok data) ∧ matchesRecord g ((s.group g).closedEpoch + 1)
          (s.group g).journalLength (fitBytes 128 data) = false)
      ∧ k = .recordCorrupt ∧ e = (s.group g).closedEpoch + 1 ∧ slot = (s.group g).popSlot ∧ b = none)
    ∨ (∃ bl prior n, ((s.ownAt i g (.popRestore bl prior) 64 ∧ c = .restoreWrite i .error)
          ∨ (s.ownAt i g (.popClear bl prior) 128 ∧ c = .popComplete i .error))
      ∧ k = .restoreWrite ∧ e = (s.group g).closedEpoch + 1 ∧ (s.group g).popSlot = some n ∧ slot = some n ∧ b = some bl)
    ∨ (((s.ownAt i g .commitHeader 128 ∧ c = .commitHeaderWrite i .error)
          ∨ (s.ownAt i g .rollbackHeader 128 ∧ c = .rollbackHeaderWrite i .error))
      ∧ k = .headerWrite ∧ e = (s.group g).closedEpoch + 1
      ∧ slot = some (((s.group g).closedEpoch + 1).toNat % 2) ∧ b = none)
    ∨ (∃ n, s.ownAt i g (.formatClear n) 128 ∧ c = .formatClearingWrite i .error ∧ k = .recoveryWrite ∧ e = 0
      ∧ slot = some n ∧ b = none)
    ∨ (∃ y : Copy, s.ownAt i g (.formatHeader y) 128 ∧ c = .formatHeaderWrite i .error ∧ k = .recoveryWrite ∧ e = 0
      ∧ slot = some (if y = .a then 0 else 1) ∧ b = none)
    ∨ (∃ y : Copy, s.ownAt i g (.headerRead y) 128 ∧ c = .headerRead i .error ∧ k = .recoveryRead ∧ e = 0
      ∧ slot = some (if y = .a then 0 else 1) ∧ b = none)
    ∨ (s.ownAt i g .scanRead 128 ∧ c = .scanRead i .error ∧ k = .recoveryRead ∧ e = (s.group g).closedEpoch + 1
      ∧ slot = some (2 + (s.group g).journalLength) ∧ b = none)
    ∨ (s.ownAt i g .replayRead 128
      ∧ (c = .replayRead i .error ∨ ∃ data, c = .replayRead i (.ok data) ∧ matchesRecord g ((s.group g).closedEpoch + 1)
          (s.group g).journalLength (fitBytes 128 data) = false)
      ∧ k = .recoveryRead ∧ e = (s.group g).closedEpoch + 1 ∧ slot = some (1 + (s.group g).journalLength) ∧ b = none)
    ∨ (∃ bl, s.ownAt i g (.recoveryRestore bl) 64 ∧ c = .recoveryRestoreWrite i .error ∧ k = .recoveryWrite
      ∧ e = (s.group g).closedEpoch + 1 ∧ slot = some (1 + (s.group g).journalLength) ∧ b = some bl)
    ∨ (s.ownAt i g .recoveryHeader 128 ∧ c = .recoveryHeaderWrite i .error ∧ k = .recoveryWrite
      ∧ e = (s.group g).closedEpoch + 1 ∧ slot = some (((s.group g).closedEpoch + 1).toNat % 2) ∧ b = none)

/-- The pop of a record of block `b` leaves the table without the block's entry where the record names no prior level, and with the entry DURABLE at the prior level otherwise; other blocks keep their entries (R57). -/
def State.poppedIn (s t : State) (b : Block) (prior : Option Nat) : Prop :=
  (prior = none → findEntry t.table b = none)
    ∧ (∀ l e, prior = some l → findEntry s.table b = some e → findEntry t.table b = some { e with durable := some l })
    ∧ ∀ x, x ≠ b → findEntry t.table x = findEntry s.table x

/-- From `s` to `t` every head that the state of group `g` held returns to classifying, and no other head changes its stage (R11, R12). -/
def State.headsReleased (s t : State) (g : GroupId) : Prop :=
  ∀ p : PortId, t.headStage p = if s.heldByState g p = true then some .classifying else s.headStage p

/-- From `s` to `t` each command of group `g` of a kind in `ks` that waited is answered `a` on its own channel, which is IDLE again, and no other channel changes (R145). -/
def State.answeredIn (s t : State) (g : GroupId) (ks : List WaitingKind) (a : Answer) : Prop :=
  ∀ p : PortId, match (s.port p).channel with
    | none => (t.port p).channel = none
    | some o => if o.group = g ∧ o.kind ∈ ks then (t.port p).channel = none ∧ .answer p a ∈ t.emitted
        else (t.port p).channel = some o

/-- Shadow entry `i` passes the five checks of R110: base not above limit, a group where the kind is JOURNALED, that group enabled, no block of an enabled journal area, no block of a valid entry before it. -/
def State.entrySound (s : State) (i : EntryId) : Prop :=
  s.map.shadow[i].base.toNat ≤ s.map.shadow[i].limit.toNat
    ∧ (s.map.shadow[i].kind = .journaled → ∃ g, s.map.shadow[i].group = some g ∧ (s.group g).config.slots ≠ 0)
    ∧ (∀ g : GroupId, s.map.shadow[i].meetsArea (s.group g).config = false)
    ∧ ∀ j : EntryId, j < i → s.map.shadow[j].valid = true → s.map.shadow[i].meets s.map.shadow[j] = false

/-- The valid entries of the shadow copy pass the five checks of R110. -/
def State.shadowSound (s : State) : Prop := ∀ i : EntryId, s.map.shadow[i].valid = true → s.entrySound i

/-- Validation ends at shadow entry `i` (R110): it is the lowest-numbered valid entry that fails a check, and by its first failing check the status is `st` and the other party `y`: none by 0xFF, group g by 0x20 + g, entry j by j (R176), the lowest-numbered party where several are met. -/
def State.failsValidation (s : State) (i : EntryId) (st : Status) (y : Byte) : Prop :=
  s.map.shadow[i].valid = true ∧ (∀ j : EntryId, j < i → s.map.shadow[j].valid = true → s.entrySound j)
    ∧ ((st = .invalidEntry ∧ y = 0xFF#8 ∧ (s.map.shadow[i].limit.toNat < s.map.shadow[i].base.toNat
          ∨ (s.map.shadow[i].kind = .journaled ∧ s.map.shadow[i].group = none)))
      ∨ (s.map.shadow[i].base.toNat ≤ s.map.shadow[i].limit.toNat ∧ st = .invalidEntry
        ∧ ∃ g : GroupId, y = BitVec.ofNat 8 (0x20 + g.val) ∧ s.map.shadow[i].kind = .journaled
          ∧ s.map.shadow[i].group = some g ∧ (s.group g).config.slots = 0)
      ∨ (s.map.shadow[i].base.toNat ≤ s.map.shadow[i].limit.toNat
        ∧ (s.map.shadow[i].kind = .journaled → ∃ g, s.map.shadow[i].group = some g ∧ (s.group g).config.slots ≠ 0)
        ∧ st = .overlap
        ∧ ((∃ g : GroupId, y = BitVec.ofNat 8 (0x20 + g.val) ∧ s.map.shadow[i].meetsArea (s.group g).config = true
            ∧ ∀ k, k < g → s.map.shadow[i].meetsArea (s.group k).config = false)
          ∨ ((∀ g : GroupId, s.map.shadow[i].meetsArea (s.group g).config = false)
            ∧ ∃ j : EntryId, y = BitVec.ofNat 8 j.val ∧ j < i ∧ s.map.shadow[j].valid = true
              ∧ s.map.shadow[i].meets s.map.shadow[j] = true
              ∧ ∀ k : EntryId, k < j → s.map.shadow[k].valid = true →
                  s.map.shadow[i].meets s.map.shadow[k] = false))))

/-- The answer to a request: a status without data. -/
def State.answeredWith (s : State) (st : Status) : State := s.answeredBy { status := st, data := [] }

/-! ### Overflow, reservation and decision rows, as the statements speak of them -/

/-- A write of block `b` that starts its step in group `g` has room (R33): the block has no entry, the journal a slot, the table and the group's quota a place. -/
def State.hasRoom (s : State) (g : GroupId) (b : Block) : Prop :=
  (s.group g).journalLength < (s.group g).config.slots - 2 ∧ (∀ e ∈ s.table, e.block ≠ b) ∧ s.table.length < 1024
    ∧ s.entriesOf g < (s.group g).effectiveQuota

/-- A write of block `b` that starts its step in group `g` meets the overflow (R33): JOURNAL_FULL first, for a new block and a re-journal alike, then TRACK_FULL, for a new block alone. -/
def State.meetsOverflow (s : State) (g : GroupId) (b : Block) (o : Overflow) : Prop :=
  (o = .journalFull ∧ (s.group g).config.slots - 2 ≤ (s.group g).journalLength
      ∧ ((∀ e ∈ s.table, e.block ≠ b)
        ∨ ∃ e, findEntry s.table b = some e ∧ e.staged = none ∧ e.durable ≠ some (s.group g).marks.length))
    ∨ (o = .trackFull ∧ (s.group g).journalLength < (s.group g).config.slots - 2 ∧ (∀ e ∈ s.table, e.block ≠ b)
      ∧ (1024 ≤ s.table.length ∨ (s.group g).effectiveQuota ≤ s.entriesOf g))

/-- The journaling step that the reservation for port `q`'s write of block `b` fixes in group `g` (R34), with the block's prior level. -/
def Group.stepOf (x : Group) (q : Option PortId) (b : Block) (prior : Option Nat) : JournalStep :=
  { owner := q, block := b, level := x.marks.length, prior := prior, slot := 2 + x.journalLength,
    sequence := x.journalLength + 1, epoch := x.closedEpoch + 1 }

/-- The old-block read that a reservation hands on (R34). -/
def oldRead (g : GroupId) (b : Block) : Txn := ownOf g .journal .read (BitVec.ofNat 36 (64 * b.toNat)) 64 [] .oldBlockRead

/-- The data write of the head of port `q` as it is handed on at the event after `s` (R29, R38), unchanged and with the data group `g` (R150). -/
def State.dataWrites (s : State) (g : GroupId) (q : PortId) : List Txn :=
  (s.head q).toList.map (fun r =>
    { source := .port q, cls := .requester, kind := r.kind, addr := r.addr, size := r.size, data := r.data,
      dataGroup := some g, orphan := .live, role := .request r.tag, stamp := s.clock + 1 })

/-- A write of block `b` that starts its step in group `g` with `n` records in the journal takes it up (R32, R33): there is room, for a block without an entry in the table and the quota too, and `prior` is the block's level, below the group's where it has one. -/
def State.takesStep (s : State) (g : GroupId) (b : Block) (n : Nat) (prior : Option Nat) : Prop :=
  n < (s.group g).config.slots - 2
    ∧ ((findEntry s.table b = none ∧ prior = none ∧ s.table.length < 1024 ∧ s.entriesOf g < (s.group g).effectiveQuota)
      ∨ ∃ e, findEntry s.table b = some e ∧ e.staged = none ∧ e.durable = prior ∧ prior ≠ some (s.group g).marks.length)

/-- From `s` to `t` the head of port `q` has started its step in group `g` with a write of block `b` and `n` records in the journal (R34): the step, the block's entry, and the stage of the head. -/
def State.stepTaken (s t : State) (g : GroupId) (q : PortId) (b : Block) (n : Nat) (prior : Option Nat) : Prop :=
  (t.group g).step = some { (s.group g).stepOf (some q) b prior with slot := 2 + n, sequence := n + 1 }
    ∧ t.headStage q = some .inQueue
    ∧ findEntry t.table b = some (match findEntry s.table b with
        | none => { block := b, group := g, durable := none, staged := some (s.group g).marks.length, waiters := [] }
        | some e => { e with staged := some (s.group g).marks.length })

/-- The rows of the table that decide the held request (R172). -/
def decisionRows : List Instr :=
  [.read, .domainShadowWrite, .journalAreaWrite, .participantSetWrite, .policyWrite, .triggerConfigWrite, .alertMaskWrite,
    .activateMap, .cancelMap, .format, .recover, .forceAbort, .clearFault, .clearRefusal, .clearAlerts, .clearStats,
    .softReset, .refusedRequest]

/-! ### Drains and the commands that begin a rollback, as the statements speak of them -/

/-- Where the end of its drain leaves an undo or a rollback of group `g` in `t`, with `n` records in the journal, `u` being the state in which it hands on (R54, R55, R77, R78): in CLEAR with the clearing write of slot 2 + n, or in a full journal in POP with the read of its newest record. -/
def State.clearsFrom (u t : State) (g : GroupId) (n : Nat) : Prop :=
  if n < (u.group g).config.slots - 2 then
    (t.group g).phase = some .clear ∧ (t.group g).popSlot = none
      ∧ t.mem = (u.handOn ((u.group g).clearing g (2 + n) .clearPhase)).mem
  else
    (t.group g).phase = some .pop ∧ (t.group g).popSlot = some (1 + n)
      ∧ t.mem = (u.handOn ((u.group g).slotRead g (1 + n) .popRead)).mem

/-- An undo or a rollback of group `g` without a step in progress (R54, R77): its drain goes on while an issued write of the group is unanswered, and else ends with `n` records in the journal. -/
def State.drainsTo (u t : State) (g : GroupId) (n : Nat) : Prop :=
  if u.writesUnanswered g = true then (t.group g).phase = some .drain ∧ t.mem = u.mem else u.clearsFrom t g n

/-- A commit of group `g` without a step in progress and with an empty queue (R70): its drain goes on while an issued write of the group is unanswered, and else ends with the commit header handed on (R72). -/
def State.commitDrainsTo (u t : State) (g : GroupId) : Prop :=
  t.mem = (if u.writesUnanswered g = true ∨ u.ownTxn g = true then u.mem
    else (u.handOn ((u.group g).closingHeader g .committed .commitHeader)).mem)

/-- The memory reports a failure of the journaling step of group `g` (R37, R39). -/
def State.stepFails (s : State) (i : PlaceId) (g : GroupId) (c : Instr) : Prop :=
  (s.ownAt i g .oldBlockRead 64 ∧ c = .oldBlockRead i .error) ∨ (s.ownAt i g .recordWrite 128 ∧ c = .recordWrite i .error)

/-- The states that an abort cause sends into ROLLING_BACK (R13). -/
def abortedStates : List GroupState := [.opened, .voting, .unwinding]

/-- The port is in no queue whose next head would start with its removal (R47), and no group but `g` drains. -/
def State.resetsAlone (s : State) (p : PortId) (g : GroupId) : Prop :=
  (∀ k, (s.group k).queue.head? = some p → (s.group k).step ≠ none)
    ∧ ∀ k, k ≠ g → (s.group k).state ∉ [GroupState.unwinding, .rollingBack, .committing]

/-- The command brings the abort cause `k` to group `g` and to no other group that it would send into ROLLING_BACK (R13), and `u` is the state at the event with the memory port as the command itself leaves it: VOTE_ABORT (R144), the vote window (R67), FORCE_ABORT (R177), a trigger (R165), a write classified that meets an overflow under ABORT (R45), and a port reset, which orphans the port's transactions (R14, R158). -/
def State.abortsBy (s : State) (g : GroupId) (c : Instr) (k : CloseCause) (u : State) : Prop :=
  (u = s.tick ∧ ∃ p a, c = .voteAbort p a ∧ k = .voteAbort p ∧ s.commands p g)
    ∨ (u = s.tick ∧ c = .voteTimeout g ∧ k = .voteTimeout ∧ (s.group g).state = .voting ∧ (s.group g).voteTimer ≠ none)
    ∨ (u = s.tick ∧ c = .forceAbort ∧ k = .management ∧ s.awaits (.forceAbort g))
    ∨ (u = s.tick ∧ ∃ n, c = .triggerEvent n ∧ k = .trigger n ∧ s.resetPin = false ∧ (s.trigger n).level = false
        ∧ (s.trigger n).action = .rollback ∧ (s.trigger n).mask.get g = true
        ∧ ∀ j, j ≠ g → (s.trigger n).mask.get j = true → (s.group j).state ∉ abortedStates)
    ∨ (u = s.tick ∧ ∃ p r i o, c = .classification p ∧ k = .overflow ∧ s.classifying p r ∧ s.reaches p r i g ∧ r.kind = .write
        ∧ ((s.group g).state = .opened ∨ ((s.group g).state = .voting ∧ (s.group g).voteSet.get p = false))
        ∧ (s.group g).queue = [] ∧ (s.group g).step = none ∧ (s.group g).hold = none
        ∧ s.meetsOverflow g (blockOf r.addr) o ∧ (s.group g).config.policy = .abort)
    ∨ ∃ p, u = s.tick.mapTxns (Txn.orphanedByPort p) ∧ c = .portReset p ∧ k = .portReset p ∧ (s.port p).resetPin = false
        ∧ s.groupOf p = some g ∧ s.resetsAlone p g

/-- What the drain of group `g` hands on at once when a rollback begins it (R55, R77, R78): nothing while a step or an issued write is unfinished, else the first transaction of CLEAR, or of POP in a full journal. -/
def State.firstOfDrain (s : State) (g : GroupId) : List Txn :=
  if (s.group g).step ≠ none ∨ s.writesUnanswered g = true then []
  else if (s.group g).journalLength < (s.group g).config.slots - 2 then
    [(s.group g).clearing g (2 + (s.group g).journalLength) .clearPhase]
  else [(s.group g).slotRead g (1 + (s.group g).journalLength) .popRead]

/-! ### Configuration writes and object layouts, as the statements speak of them -/

/-- Each value that the write carries for a field of a domain entry is one of R106. -/
def shadowValues (w : Span) : Prop :=
  (∀ v, w.value 0 1 = some v → v ≤ 1) ∧ (∀ v, w.value 1 1 = some v → v ≤ 2)
    ∧ (∀ v, w.value 2 1 = some v → v ≤ 3 ∨ v = 255)
    ∧ (∀ k v, 3 ≤ k → k ≤ 6 → w.value k 1 = some v → v ≤ 2)
    ∧ (∀ v, w.value 8 4 = some v → v ≤ 2 ^ 30 - 1) ∧ ∀ v, w.value 12 4 = some v → v ≤ 2 ^ 30 - 1

/-- Each value that the write carries for a field of a trigger configuration is one of R161. -/
def triggerValues (w : Span) : Prop :=
  (∀ v, w.value 0 1 = some v → v ≤ 2) ∧ ∀ v, w.value 1 1 = some v → v ≤ 15

/-- Each value that the write carries for a field of a group configuration is one of R1. -/
def configValues (w : Span) : Prop :=
  (∀ v, w.value 0 8 = some v → v < 2 ^ 36 ∧ v % 128 = 0)
    ∧ (∀ v, w.value 8 4 = some v → v = 0 ∨ (3 ≤ v ∧ v ≤ 65536))
    ∧ (∀ v, w.value 12 1 = some v → v ≤ 15) ∧ (∀ v, w.value 13 1 = some v → v ≤ 2)
    ∧ (∀ v, w.value 14 1 = some v → v ≤ 1) ∧ (∀ v, w.value 16 2 = some v → 1 ≤ v)
    ∧ ∀ v, w.value 20 2 = some v → 1 ≤ v ∧ v ≤ 1024

/-- A write of the one byte `v` at the offset `off`. -/
def oneByte (off : Nat) (v : Byte) : Span := { off := off, data := [v] }

/-- A write of one field of a domain entry changes that field alone, and a field that a write does not carry stays (R107, R175). -/
def DomainEntry.writtenByField (d : DomainEntry) : Prop :=
  d.written (oneByte 0 0#8) = { d with valid := false } ∧ d.written (oneByte 0 1#8) = { d with valid := true }
    ∧ (∀ (k : DomainKind) (v : Byte), (k, v) ∈ [(DomainKind.passing, 0#8), (.guarded, 1#8), (.journaled, 2#8)] →
        d.written (oneByte 1 v) = { d with kind := k })
    ∧ (∀ g : GroupId, d.written (oneByte 2 (BitVec.ofNat 8 g.val)) = { d with group := some g })
    ∧ d.written (oneByte 2 0xFF#8) = { d with group := none }
    ∧ (∀ (p : PortId) (x : Grant) (v : Byte), (x, v) ∈ [(Grant.noAccess, 0#8), (.read, 1#8), (.readWrite, 2#8)] →
        d.written (oneByte (3 + p.val) v) = { d with grants := d.grants.set p x })
    ∧ (∀ w : Span, (w.value 0 1 = none → (d.written w).valid = d.valid) ∧ (w.value 1 1 = none → (d.written w).kind = d.kind)
      ∧ (w.value 2 1 = none → (d.written w).group = d.group) ∧ (w.value 8 4 = none → (d.written w).base = d.base)
      ∧ (w.value 12 4 = none → (d.written w).limit = d.limit)
      ∧ ∀ p : PortId, w.value (3 + p.val) 1 = none → (d.written w).grants.get p = d.grants.get p)
    ∧ ∀ b0 b1 b2 b3 : Byte,
      d.written { off := 8, data := [b0, b1, b2, b3] } = { d with
          base := BitVec.ofNat 30 (b0.toNat + 256 * b1.toNat + 65536 * b2.toNat + 16777216 * b3.toNat) }
      ∧ d.written { off := 12, data := [b0, b1, b2, b3] } = { d with
          limit := BitVec.ofNat 30 (b0.toNat + 256 * b1.toNat + 65536 * b2.toNat + 16777216 * b3.toNat) }

/-- A write of one field of a group configuration changes that field alone, and a field that a write does not carry stays (R2, R175). -/
def GroupConfig.writtenByField (c : GroupConfig) : Prop :=
  (∀ b0 b1 b2 b3 b4 b5 b6 b7 : Byte, c.written { off := 0, data := [b0, b1, b2, b3, b4, b5, b6, b7] } = { c with
      base := BitVec.ofNat 36 (b0.toNat + 256 * b1.toNat + 65536 * b2.toNat + 16777216 * b3.toNat
        + 4294967296 * b4.toNat) })
    ∧ (∀ b0 b1 b2 b3 : Byte, c.written { off := 8, data := [b0, b1, b2, b3] } = { c with
        slots := b0.toNat + 256 * b1.toNat + 65536 * b2.toNat + 16777216 * b3.toNat })
    ∧ (∀ v : Byte, ∃ x : FourSet, c.written (oneByte 12 v) = { c with participants := x }
        ∧ ∀ p : PortId, x.get p = v.getLsbD p.val)
    ∧ (∀ (x : Policy) (v : Byte), (x, v) ∈ [(Policy.refuse, 0#8), (.hold, 1#8), (.abort, 2#8)] →
        c.written (oneByte 13 v) = { c with policy := x })
    ∧ (∀ w : Span, (w.value 0 8 = none → (c.written w).base = c.base) ∧ (w.value 8 4 = none → (c.written w).slots = c.slots)
      ∧ (w.value 12 1 = none → (c.written w).participants = c.participants)
      ∧ (w.value 13 1 = none → (c.written w).policy = c.policy)
      ∧ (w.value 14 1 = none → (c.written w).autoOpen = c.autoOpen)
      ∧ (w.value 16 2 = none → (c.written w).holdLimit = c.holdLimit)
      ∧ (w.value 18 2 = none → (c.written w).voteWindow = c.voteWindow)
      ∧ (w.value 20 2 = none → (c.written w).quota = c.quota))
    ∧ c.written (oneByte 14 0#8) = { c with autoOpen := false } ∧ c.written (oneByte 14 1#8) = { c with autoOpen := true }
    ∧ ∀ b0 b1 : Byte,
      c.written { off := 16, data := [b0, b1] } = { c with holdLimit := b0.toNat + 256 * b1.toNat }
      ∧ c.written { off := 18, data := [b0, b1] } = { c with voteWindow := b0.toNat + 256 * b1.toNat }
      ∧ c.written { off := 20, data := [b0, b1] } = { c with quota := b0.toNat + 256 * b1.toNat }

/-- A write of one field of a trigger configuration changes that field alone, and a field that a write does not carry stays (R161, R175). -/
def Trigger.writtenByField (x : Trigger) : Prop :=
  (∀ (a : TriggerAction) (v : Byte), (a, v) ∈ [(TriggerAction.noAction, 0#8), (.note, 1#8), (.rollback, 2#8)] →
      x.written (oneByte 0 v) = { x with action := a })
    ∧ (∀ w : Span, (w.value 0 1 = none → (x.written w).action = x.action)
      ∧ (w.value 1 1 = none → (x.written w).mask = x.mask) ∧ (x.written w).count = x.count
      ∧ (x.written w).snapshot = x.snapshot ∧ (x.written w).level = x.level)
    ∧ ∀ v : Byte, ∃ m : FourSet, x.written (oneByte 1 v) = { x with mask := m } ∧ ∀ g : GroupId, m.get g = v.getLsbD g.val

/-- The byte `b` shows the port or group set `v`: bit k for member k (R175). -/
def showsSet (b : Byte) (v : FourSet) : Prop := ∀ n : Nat, b.getLsbD n = if h : n < 4 then v.get ⟨n, h⟩ else false

/-- The codes of the layouts (R175, the code table of the object layouts). -/
def codesAsGiven : Prop :=
  [GroupState.disabled, .unverified, .formatting, .recovering, .closed, .opened, .voting, .unwinding, .committing,
      .rollingBack, .faulted].map GroupState.code = [0#8, 1#8, 2#8, 3#8, 4#8, 5#8, 6#8, 7#8, 8#8, 9#8, 10#8]
    ∧ (∀ (p q : PortId) (n : TrigId), [CloseCause.noClose, .commit, .voteAbort p, .voteTimeout, .portReset q, .trigger n,
        .management, .overflow, .recovery].map (fun c => (c.code, c.source))
          = [(0#8, 0#8), (1#8, 0#8), (2#8, BitVec.ofNat 8 p.val), (3#8, 0#8), (4#8, BitVec.ofNat 8 q.val),
            (5#8, BitVec.ofNat 8 n.val), (6#8, 0#8), (7#8, 0#8), (8#8, 0#8)])
    ∧ [FaultKind.noFault, .recordCorrupt, .restoreWrite, .headerWrite, .recoveryRead, .recoveryWrite].map FaultKind.code
      = [0#8, 1#8, 2#8, 3#8, 4#8, 5#8]
    ∧ [RecoveryOutcome.noOutcome, .formatted, .clean, .replayed, .noJournal, .areaMismatch, .faulted].map
        RecoveryOutcome.code = [0#8, 1#8, 2#8, 3#8, 4#8, 5#8, 6#8]
    ∧ [TriggerOutcome.notActed, .rollbackStarted, .joined, .tooLate, .nothingOpen, .faulted].map TriggerOutcome.code
      = [0#8, 1#8, 2#8, 3#8, 4#8, 5#8]
    ∧ [RefusalReason.malformed, .journalArea, .noGrant, .readOnly, .notParticipant, .groupUnverified, .groupFaulted,
        .noEpoch, .voted, .mapPending, .epochLimit, .journalFull, .trackFull, .memoryError].map RefusalReason.code
      = [1#8, 2#8, 3#8, 4#8, 5#8, 6#8, 7#8, 8#8, 9#8, 10#8, 11#8, 12#8, 13#8, 14#8]
    ∧ [TriggerAction.noAction, .note, .rollback].map TriggerAction.code = [0#8, 1#8, 2#8]

/-- The bytes `x` show group `g` as GROUP_STATUS lays it out (R21, R175); of an absent slot index or block address of the fault record nothing is said (notes/assumptions/4). -/
def State.showsStatus (s : State) (g : GroupId) (x : List Byte) : Prop :=
  byteAt x 0 = (s.group g).state.code ∧ byteAt x 1 = BitVec.ofNat 8 (s.group g).marks.length
    ∧ showsSet (byteAt x 2) (s.group g).voteSet ∧ byteAt x 3 = (if (s.group g).step = none then 0#8 else 1#8)
    ∧ fieldAt x 4 4 = (s.group g).closedEpoch.toNat ∧ fieldAt x 8 4 = ((s.group g).closedEpoch + 1).toNat
    ∧ fieldAt x 12 2 = (s.group g).journalLength % 65536
    ∧ fieldAt x 14 2 = (s.table.countP (fun e => e.group == g)) % 65536
    ∧ fieldAt x 16 2 = (s.group g).effectiveQuota % 65536
    ∧ byteAt x 18 = BitVec.ofNat 8 (s.group g).queue.length ∧ byteAt x 19 = BitVec.ofNat 8 (s.group g).putBack.length
    ∧ (∀ k : Nat, k < 7 → byteAt x (20 + k) = match (s.group g).marks[k]? with
        | some p => BitVec.ofNat 8 p.val
        | none => 0xFF#8)
    ∧ byteAt x 27 = (s.group g).lastClose.code ∧ byteAt x 28 = (s.group g).lastClose.source
    ∧ byteAt x 29 = (s.group g).fault.kind.code
    ∧ (∀ n : Nat, (byteAt x 30).getLsbD n = (decide (n = 0) && (s.group g).fault.slot.isSome
        || decide (n = 1) && (s.group g).fault.block.isSome))
    ∧ byteAt x 31 = 0#8 ∧ fieldAt x 32 4 = (s.group g).fault.epoch.toNat
    ∧ (∀ n, (s.group g).fault.slot = some n → fieldAt x 36 4 = n % 4294967296)
    ∧ (∀ b, (s.group g).fault.block = some b → fieldAt x 40 4 = b.toNat)
    ∧ byteAt x 44 = (match (s.group g).recoveryResult.copy with
        | none => 0xFF#8
        | some .a => 0#8
        | some .b => 1#8)
    ∧ byteAt x 45 = (s.group g).recoveryResult.outcome.code ∧ fieldAt x 46 2 = 0
    ∧ fieldAt x 48 4 = (s.group g).recoveryResult.closedFound.toNat
    ∧ fieldAt x 52 2 = (s.group g).recoveryResult.found % 65536
    ∧ fieldAt x 54 2 = (s.group g).recoveryResult.replayed % 65536 ∧ fieldAt x 56 8 = 0

/-- The bytes `x` show the counters as GROUP_STATS lays them out (R20, R175). -/
def Stats.shownBy (c : Stats) (x : List Byte) : Prop :=
  fieldAt x 0 4 = c.commits % 4294967296 ∧ fieldAt x 4 4 = c.rollbacks % 4294967296
    ∧ fieldAt x 8 4 = c.undos % 4294967296 ∧ fieldAt x 12 4 = c.recordsAppended % 4294967296
    ∧ fieldAt x 16 4 = c.overflowRefusals % 4294967296 ∧ fieldAt x 20 4 = c.holdExpiries % 4294967296

/-- The byte `b` shows an optional index, 0xFF when it is absent (R175). -/
def showsIndex {n : Nat} (b : Byte) (o : Option (Fin n)) : Prop :=
  b = match o with
    | none => 0xFF#8
    | some i => BitVec.ofNat 8 i.val

/-- The field of 8 bytes at `off` shows an optional address, all 0xFF when it is absent (R175). -/
def showsAddr (x : List Byte) (off : Nat) (o : Option Addr) : Prop :=
  fieldAt x off 8 = match o with
    | none => 2 ^ 64 - 1
    | some a => a.toNat

/-- The bytes `x` show port `p` as PORT_STATUS lays it out (R132, R175). That no head group is shown for a head in classifying, and 0xFF for the argument and group of an IDLE channel, is the model's reading (notes/assumptions/17 and 18). -/
def State.showsPort (s : State) (p : PortId) (x : List Byte) : Prop :=
  byteAt x 0 = BitVec.ofNat 8 (s.port p).queue.length
    ∧ byteAt x 1 = BitVec.ofNat 8 ((s.port p).queue.filter (fun r => match r.stage with
        | .issued _ => true
        | _ => false)).length
    ∧ byteAt x 2 = BitVec.ofNat 8 ((s.port p).queue.filter (fun r => r.stage = .answered)).length
    ∧ byteAt x 3 = (match s.headStage p with
        | some .classifying => 1#8
        | some (.held _) => 2#8
        | some .waitingOnEntry => 3#8
        | some .inQueue => 4#8
        | _ => 0#8)
    ∧ byteAt x 4 = (match s.headStage p with
        | some (.held .unwinding) => 1#8
        | some (.held .committing) => 2#8
        | some (.held .rollingBack) => 3#8
        | some (.held (.overflow .journalFull)) => 4#8
        | some (.held (.overflow .trackFull)) => 5#8
        | _ => 0xFF#8)
    ∧ showsIndex (byteAt x 5) (if s.headStage p = none ∨ s.headStage p = some .classifying then none
        else (s.port p).headGroup)
    ∧ (∀ g : GroupId, (s.group g).config.participants.get p = true →
        (∀ k, k < g → (s.group k).config.participants.get p = false) → byteAt x 6 = BitVec.ofNat 8 g.val)
    ∧ ((∀ g : GroupId, (s.group g).config.participants.get p = false) → byteAt x 6 = 0xFF#8)
    ∧ byteAt x 7 = (if (s.port p).resetPin = true then 1#8 else 0#8)
    ∧ (match (s.port p).channel with
        | none => byteAt x 8 = 0#8 ∧ byteAt x 9 = 0#8 ∧ byteAt x 10 = 0xFF#8 ∧ byteAt x 11 = 0xFF#8
        | some o => byteAt x 8 = 1#8
          ∧ byteAt x 9 = (match o.kind with
            | .undo => 1#8
            | .voteCommit => 2#8
            | .voteAbort => 3#8)
          ∧ byteAt x 10 = BitVec.ofNat 8 o.arg.val ∧ byteAt x 11 = BitVec.ofNat 8 o.group.val)
    ∧ fieldAt x 12 4 = 0 ∧ showsAddr x 16 (s.port p).lastWrite

/-- The bytes `x` show a refusal record and its count as REFUSAL lays them out (R129, R130, R175); of an absent epoch nothing is said (notes/assumptions/4). That the fields of a record not valid are 0 or absent is the model's reading (notes/assumptions/19). -/
def Port.refusalShownBy (y : Port) (x : List Byte) : Prop :=
  fieldAt x 20 2 = y.refusalCount % 65536 ∧ fieldAt x 22 2 = 0 ∧ byteAt x 7 = 0#8
    ∧ match y.refusal with
      | none => x.take 16 = [0#8, 0#8, 0#8, 0#8, 0xFF#8, 0xFF#8, 0#8, 0#8, 0#8, 0#8, 0#8, 0#8, 0#8, 0#8, 0#8, 0#8]
      | some r => byteAt x 0 = 1#8 ∧ byteAt x 1 = (if r.kind = .read then 0#8 else 1#8)
        ∧ byteAt x 2 = BitVec.ofNat 8 r.size ∧ byteAt x 3 = r.reason.code
        ∧ showsIndex (byteAt x 4) r.domain ∧ showsIndex (byteAt x 5) r.group
        ∧ byteAt x 6 = (if r.epoch = none then 0#8 else 1#8) ∧ fieldAt x 8 8 = r.addr.toNat
        ∧ ∀ e, r.epoch = some e → fieldAt x 16 4 = e.toNat

/-- The bytes `x` show a domain entry as DOMAIN_SHADOW and DOMAIN_ACTIVE lay it out (R175). -/
def DomainEntry.shownBy (d : DomainEntry) (x : List Byte) : Prop :=
  byteAt x 0 = (if d.valid = true then 1#8 else 0#8)
    ∧ byteAt x 1 = (match d.kind with
      | .passing => 0#8
      | .guarded => 1#8
      | .journaled => 2#8)
    ∧ showsIndex (byteAt x 2) d.group
    ∧ (∀ p : PortId, byteAt x (3 + p.val) = match d.grants.get p with
      | .noAccess => 0#8
      | .read => 1#8
      | .readWrite => 2#8)
    ∧ byteAt x 7 = 0#8 ∧ fieldAt x 8 4 = d.base.toNat ∧ fieldAt x 12 4 = d.limit.toNat

/-- The bytes `x` show a configuration as GROUP_CONFIG lays it out (R1, R175). -/
def GroupConfig.shownBy (c : GroupConfig) (x : List Byte) : Prop :=
  fieldAt x 0 8 = c.base.toNat ∧ fieldAt x 8 4 = c.slots % 4294967296 ∧ showsSet (byteAt x 12) c.participants
    ∧ byteAt x 13 = (match c.policy with
      | .refuse => 0#8
      | .hold => 1#8
      | .abort => 2#8)
    ∧ byteAt x 14 = (if c.autoOpen = true then 1#8 else 0#8) ∧ byteAt x 15 = 0#8
    ∧ fieldAt x 16 2 = c.holdLimit % 65536 ∧ fieldAt x 18 2 = c.voteWindow % 65536 ∧ fieldAt x 20 2 = c.quota % 65536
    ∧ fieldAt x 22 2 = 0

/-- The bytes `x` show a trigger input as SNAPSHOT lays it out (R164, R175). That the items of a slot not valid are 0, NONE or absent is the model's reading (notes/assumptions/19). -/
def Trigger.snapshotShownBy (y : Trigger) (x : List Byte) : Prop :=
  fieldAt x 4 2 = y.count % 65536 ∧ fieldAt x 6 2 = 0
    ∧ match y.snapshot with
      | none => x.take 4 = [0#8, 0#8, 0#8, 0#8] ∧ (∀ g : GroupId, (x.drop (8 + 12 * g.val)).take 12 = List.replicate 12 0#8)
        ∧ ∀ p : PortId, showsAddr x (56 + 8 * p.val) none
      | some z => byteAt x 0 = 1#8 ∧ byteAt x 1 = z.action.code ∧ fieldAt x 2 2 = z.number % 65536
        ∧ (∀ g : GroupId, byteAt x (8 + 12 * g.val) = (z.groups.get g).state.code
          ∧ byteAt x (9 + 12 * g.val) = BitVec.ofNat 8 (z.groups.get g).level
          ∧ byteAt x (10 + 12 * g.val) = (z.groups.get g).outcome.code ∧ byteAt x (11 + 12 * g.val) = 0#8
          ∧ fieldAt x (12 + 12 * g.val) 4 = (z.groups.get g).closedEpoch.toNat
          ∧ fieldAt x (16 + 12 * g.val) 2 = (z.groups.get g).journalLength % 65536 ∧ fieldAt x (18 + 12 * g.val) 2 = 0)
        ∧ ∀ p : PortId, showsAddr x (56 + 8 * p.val) (z.lastWrites.get p)

/-- The states in which a group drains or may (R54, R70, R77). -/
def drainStates : List GroupState := [.unwinding, .rollingBack, .committing]

end Sys2Proof.Machine
end

