-- ==== Sys2Proof/Certificates/Slice0/Obligations.lean ====
section
/-! DEFINITION. The statements for the provers, one for each entry of OBLIGATIONS.json. -/

open Sys2Proof Sys2Proof.Machine

/-! ### The whole machine -/

/-- A step runs the command at the front of the queue with the queue's rest; with no command waiting the block idles, which is the model's choice (notes/assumptions/11). -/
def Obligations.StepRunsTheFrontCommand : Prop :=
  (∀ (c : Instr) (q : List Instr) (s : State),
      step { s with pending := c :: q } = exec c { s with pending := q })
    ∧ ∀ s : State, s.pending = [] → step s = .next s

/-- No command of the table stops the machine, and no command touches the queue of the commands behind it. -/
def Obligations.EveryCommandAnswersNext : Prop :=
  ∀ (c : Instr) (s : State), ∃ t, exec c s = .next t ∧ t.pending = s.pending

/-- The state after reset is sound: it meets every invariant stated here. That RESET_N and PRSTn are deasserted in it is the model's choice (notes/assumptions/1); nothing here rests on it. -/
def Obligations.ResetStateIsSound : Prop :=
  State.reset.tableSorted ∧ State.reset.tableFits ∧ State.reset.queuesFit ∧ State.reset.levelsFit
    ∧ State.reset.countersFit ∧ State.reset.setsDisjoint ∧ State.reset.mapLawful ∧ State.reset.classesSound

/-- The tracking table has one entry for each block, in rising order, and at most 1024 of them, and every step keeps it so (R24). -/
def Obligations.TrackingTableKeepsItsForm : Prop :=
  ∀ s t : State, s.tableSorted ∧ s.tableFits → step s = .next t → t.tableSorted ∧ t.tableFits

/-- The bounds of the machine hold through every step: eight requests at a port (R121), seven marks in a group (R49), 32-bit statistics (R20), 16-bit refusal and event counts (R129, R163). -/
def Obligations.BoundsHoldThroughEveryStep : Prop :=
  ∀ s t : State, step s = .next t →
    (s.queuesFit → t.queuesFit) ∧ (s.levelsFit → t.levelsFit) ∧ (s.countersFit → t.countersFit)

/-- A port belongs to the participant set of at most one group, through every step (R4). -/
def Obligations.ParticipantSetsStayDisjoint : Prop :=
  ∀ s t : State, s.setsDisjoint → step s = .next t → t.setsDisjoint

/-- The law of the active map (R114), through every step: its valid entries never overlap one another nor an enabled journal area, and a JOURNALED one names an enabled group. -/
def Obligations.ActiveMapLawHolds : Prop :=
  ∀ s t : State, s.mapLawful → step s = .next t → t.mapLawful

/-- The closed epoch number of a group moves only at the events of R7, and where a close moves it, it moves by one; the configuration moves only at a device reset or at the decision of a request (R1). -/
def Obligations.EpochAndConfigMoveOnlyAtTheirEvents : Prop :=
  ∀ (c : Instr) (s t : State) (g : GroupId), exec c s = .next t →
    (setsEpoch c = false → (t.group g).closedEpoch = (s.group g).closedEpoch
        ∨ (closesEpoch c = true ∧ (t.group g).closedEpoch = (s.group g).closedEpoch + 1))
      ∧ (setsConfig c = false → (t.group g).config = (s.group g).config)
      ∧ (setsActiveMap c = false → t.map.active = s.map.active)

/-! ### Power-on and resets -/

/-- Power-on and each assertion of RESET_N give every group its default configuration and an empty context (R22). -/
def Obligations.PowerOnGivesGroupDefaults : Prop :=
  ∀ (c : Instr) (s : State), c = .powerOn ∨ c = .resetNAssert → ∃ t, exec c s = .next t
    ∧ (∀ g : GroupId,
        (t.group g).config = { base := 0, slots := 0, participants := Four.const false, policy := .refuse,
                               holdLimit := 1000, voteWindow := 0, autoOpen := false, quota := 1024 }
          ∧ (t.group g).state = .disabled
          ∧ (t.group g).closedEpoch = 0 ∧ (t.group g).currentEpoch = 1
          ∧ (t.group g).level = 0 ∧ (t.group g).marks = []
          ∧ (t.group g).journalLength = 0 ∧ (t.group g).recordInFlight = false
          ∧ t.entriesOf g = 0 ∧ (t.group g).effectiveQuota = 1024
          ∧ (t.group g).voteSet = Four.const false ∧ (t.group g).voteTimer = none
          ∧ (t.group g).queue = [] ∧ (t.group g).putBack = [] ∧ (t.group g).hold = none
          ∧ (t.group g).fault.kind = .noFault ∧ (t.group g).lastClose = .noClose
          ∧ (t.group g).recoveryResult
              = { copy := none, closedFound := 0, found := 0, replayed := 0, outcome := .noOutcome }
          ∧ (t.group g).stats = { commits := 0, rollbacks := 0, undos := 0, recordsAppended := 0,
                                  overflowRefusals := 0, holdExpiries := 0 })
    ∧ ∀ i : EntryId, t.map.active[i].valid = false ∧ t.map.shadow[i].valid = false

/-- Power-on and each assertion of RESET_N empty the rest of the device: the tracking table, the ports and their channels (R135), the map (R106), the triggers (R167), the alerts (R169) and the management port (R180). That the input pins keep their levels is the model's choice (notes/assumptions/1). -/
def Obligations.PowerOnEmptiesTheDevice : Prop :=
  ∀ (c : Instr) (s : State), c = .powerOn ∨ c = .resetNAssert → ∃ t, exec c s = .next t
    ∧ t.table = []
    ∧ (∀ p : PortId, (t.port p).queue = [] ∧ (t.port p).refusal = none ∧ (t.port p).refusalCount = 0
        ∧ (t.port p).lastWrite = none ∧ (t.port p).channel = none ∧ (t.port p).resetPin = (s.port p).resetPin)
    ∧ t.map.pending = false
    ∧ (∀ i : EntryId, t.map.active[i] = { valid := false, base := 0, limit := 0, kind := .passing, group := none,
                                          grants := Four.const .noAccess } ∧ t.map.shadow[i] = t.map.active[i])
    ∧ (∀ n : TrigId, (t.trigger n).action = .noAction ∧ (t.trigger n).mask = Four.const false
        ∧ (t.trigger n).count = 0 ∧ (t.trigger n).snapshot = none)
    ∧ t.alerts.latched = 0 ∧ t.alerts.mask = 0 ∧ t.alertLine = false
    ∧ t.mgmt.held = none ∧ t.mgmt.resetting = false
    ∧ t.resetPin = (s.resetPin || decide (c = .resetNAssert)) ∧ t.emitted = s.emitted

/-- The memory port forgets every transaction at power-on and at each assertion of RESET_N, grants nothing and discards every answer while RESET_N stays asserted, and has every place free at the deassertion (R160). -/
def Obligations.MemoryPortForgetsAtReset : Prop :=
  (∀ (c : Instr) (s : State), c = .powerOn ∨ c = .resetNAssert → ∃ t, exec c s = .next t
      ∧ t.mem.waiting = [] ∧ (∀ i : PlaceId, t.mem.places[i] = none) ∧ t.mem.pointer = 3)
    ∧ (∀ (s : State) (i : PlaceId), s.resetPin = true → exec (.grant i) s = .next s)
    ∧ (∀ (s : State) (i : PlaceId) (a : MemAnswer) (c : Instr), s.resetPin = true → c ∈ answersOf i a → exec c s = .next s)
    ∧ (∀ (s : State) (l : Four Bool),
        ∃ t u, exec .resetNAssert s = .next t ∧ exec (.resetNDeassert l) t = .next u
          ∧ u.mem.waiting = [] ∧ ∀ i : PlaceId, u.mem.places[i] = none)

/-- A trigger event is a low level followed by a high input; the levels follow the inputs, are set at the deassertion of RESET_N, and no other command moves them (R162). -/
def Obligations.TriggerLevelsFollowTheInputs : Prop :=
  (∀ (s : State) (n : TrigId), exec (.triggerInputLow n) s
      = .next { s with triggers := s.triggers.set n { s.trigger n with level := false } })
    ∧ (∀ (s : State) (n : TrigId), s.resetPin = true ∨ (s.trigger n).level = true → exec (.triggerEvent n) s = .next s)
    ∧ (∀ (s : State) (n : TrigId), s.resetPin = false → (s.trigger n).level = false →
        ∃ t, exec (.triggerEvent n) s = .next t ∧ (t.trigger n).level = true
          ∧ (t.trigger n).count = min 65535 ((s.trigger n).count + 1) ∧ ∀ k, k ≠ n → t.trigger k = s.trigger k)
    ∧ (∀ (s : State) (l : Four Bool), s.resetPin = true → ∃ t, exec (.resetNDeassert l) s = .next t
        ∧ t = { s with resetPin := false, triggers := t.triggers }
        ∧ ∀ n, t.trigger n = { s.trigger n with level := l.get n })
    ∧ (∀ (c : Instr) (s t : State) (n : TrigId), exec c s = .next t → setsLevel n c = false →
        (t.trigger n).level = (s.trigger n).level)

/-- A port reset removes every request of its port and leaves nothing of it in any group, table or live transaction; the port's record, count and channel are cleared, its last passed write address, every configuration, the map and the alert causes stay (R133, R147, R158). -/
def Obligations.PortResetFlushesItsPort : Prop :=
  ∀ (s : State) (p : PortId), (s.port p).resetPin = false → ∃ t, exec (.portReset p) s = .next t
    ∧ t.port p = { s.port p with queue := [], headDomain := none, headGroup := none, refusal := none,
                                 refusalCount := 0, channel := none, resetPin := true }
    ∧ (∀ g : GroupId, p ∉ (t.group g).queue ∧ p ∉ (t.group g).putBack
        ∧ (∀ st, (t.group g).step = some st → st.owner ≠ some p)
        ∧ (t.group g).config = (s.group g).config ∧ (t.group g).voteSet = (s.group g).voteSet
        ∧ (t.group g).closedEpoch = (s.group g).closedEpoch)
    ∧ (∀ e ∈ t.table, p ∉ e.waiters)
    ∧ (∀ x ∈ t.mem.held, x.source = .port p → x.orphan ≠ .live)
    ∧ t.map = s.map ∧ t.triggers = s.triggers ∧ t.mgmt = s.mgmt
    ∧ (∀ c : Cause, s.isLatched c = true → t.isLatched c = true)

/-- What a port reset does to the group whose participant set holds the port (R14): in OPEN, VOTING and UNWINDING the group enters ROLLING_BACK with cause PORT_RESET, elsewhere its state and its last close cause stay. Where the reset takes the head of the group's queue before its step (a held head too), the next head starts its step first (R47, R133), so that the drain waits for that step; or, under the ABORT policy, the next head's overflow may be the cause that the reset then joins. That the start comes before the abort is the model's reading (notes/assumptions/6). -/
def Obligations.PortResetAbortsItsGroup : Prop :=
  (∀ (s : State) (p : PortId) (g : GroupId), (s.port p).resetPin = false → s.groupOf p = some g →
      ((s.group g).state = .opened ∨ (s.group g).state = .voting → (s.group g).queue.head? = some p →
        (s.group g).step ≠ none) →
      ∃ t, exec (.portReset p) s = .next t
        ∧ (t.group g).voteSet = (s.group g).voteSet ∧ (t.group g).marks = (s.group g).marks
        ∧ (t.group g).journalLength = (s.group g).journalLength
        ∧ if (s.group g).state = .opened ∨ (s.group g).state = .voting ∨ (s.group g).state = .unwinding then
            (t.group g).state = .rollingBack ∧ (t.group g).lastClose = .portReset p
              ∧ (t.group g).rollback.map (fun r => r.cause) = some (.portReset p) ∧ (t.group g).voteTimer = none
          else (t.group g).state = (s.group g).state ∧ (t.group g).lastClose = (s.group g).lastClose)
    ∧ (∀ (s : State) (p : PortId) (g : GroupId), (s.port p).resetPin = false → s.groupOf p = some g →
      (s.group g).state = .opened ∨ (s.group g).state = .voting → (s.group g).queue.head? = some p →
      (s.group g).step = none → ∃ t, exec (.portReset p) s = .next t
        ∧ (t.group g).voteSet = (s.group g).voteSet ∧ (t.group g).marks = (s.group g).marks
        ∧ (t.group g).journalLength = (s.group g).journalLength
        ∧ (t.group g).state = .rollingBack ∧ (t.group g).voteTimer = none ∧ (t.group g).hold = none
        ∧ (t.group g).rollback.map (fun r => r.cause) = some (t.group g).lastClose
        ∧ ((t.group g).lastClose = .portReset p
          ∨ ((t.group g).lastClose = .overflow ∧ (s.group g).config.policy = .abort)))
    ∧ ∀ (s : State) (p q : PortId) (g : GroupId) (r : Request), (s.port p).resetPin = false → s.groupOf p = some g →
      (s.group g).state = .opened ∨ (s.group g).state = .voting → (s.group g).queue = [p, q] → p ≠ q →
      (s.group g).step = none → (∀ k, k ≠ g → p ∉ (s.group k).queue) → s.head q = some r →
      s.hasRoom g (blockOf r.addr) → ∃ t, exec (.portReset p) s = .next t
        ∧ (t.group g).step = some ((s.group g).stepOf (some q) (blockOf r.addr) none) ∧ (t.group g).queue = [q]
        ∧ (t.group g).rollback = some { cause := .portReset p, phase := .drain, slot := none }
        ∧ t.headStage q = some .inQueue ∧ t.entriesOf g = s.entriesOf g + 1
        ∧ ∃ others, t.mem.waiting = s.mem.waiting.map (Txn.orphanedByPort p)
            ++ [{ oldRead g (blockOf r.addr) with stamp := s.clock + 1 }] ++ others

/-! ### Triggers -/

/-- A trigger event counts, latches, and does what the input's action says (R163): under NONE no more; under NOTE it takes a snapshot with every group NOT_ACTED; under ROLLBACK it takes a snapshot with the outcome of each group by its state (R164, R165), and each masked group in OPEN, VOTING or UNWINDING enters ROLLING_BACK with cause TRIGGER. -/
def Obligations.TriggerEventActsAsConfigured : Prop :=
  ∀ (s : State) (n : TrigId), s.resetPin = false → (s.trigger n).level = false →
    ∃ t, exec (.triggerEvent n) s = .next t
      ∧ (t.trigger n).count = min 65535 ((s.trigger n).count + 1) ∧ t.isLatched (.trigger n) = true
      ∧ (t.trigger n).action = (s.trigger n).action ∧ (t.trigger n).mask = (s.trigger n).mask
      ∧ t.map = s.map ∧ t.mgmt = s.mgmt ∧ t.table = s.table ∧ t.alerts.mask = s.alerts.mask
      ∧ (∀ i : Fin 21, i.val ≠ 16 + n.val → t.alerts.latched.getLsbD i.val = s.alerts.latched.getLsbD i.val)
      ∧ (match (s.trigger n).action with
          | .noAction => (t.trigger n).snapshot = (s.trigger n).snapshot ∧ t.groups = s.groups
          | .note => t.groups = s.groups ∧ ∃ shot, (t.trigger n).snapshot = some shot ∧ shot.action = .note
              ∧ shot.number = min 65535 ((s.trigger n).count + 1) ∧ (∀ p, shot.lastWrites.get p = (s.port p).lastWrite)
              ∧ ∀ g, shot.groups.get g
                  = { state := (s.group g).state, closedEpoch := (s.group g).closedEpoch,
                      journalLength := (s.group g).journalLength, level := (s.group g).level, outcome := .notActed }
          | .rollback => ∃ shot, (t.trigger n).snapshot = some shot ∧ shot.action = .rollback
              ∧ shot.number = min 65535 ((s.trigger n).count + 1) ∧ (∀ p, shot.lastWrites.get p = (s.port p).lastWrite)
              ∧ ∀ g,
                  (shot.groups.get g).state = (s.group g).state
                    ∧ (shot.groups.get g).closedEpoch = (s.group g).closedEpoch
                    ∧ (shot.groups.get g).journalLength = (s.group g).journalLength
                    ∧ (shot.groups.get g).level = (s.group g).level
                    ∧ (if (s.trigger n).mask.get g = false then
                        (shot.groups.get g).outcome = .notActed ∧ t.group g = s.group g
                      else
                        match (s.group g).state with
                        | .opened => (shot.groups.get g).outcome = .rollbackStarted ∧ s.rolledInto t g (.trigger n)
                        | .voting => (shot.groups.get g).outcome = .rollbackStarted ∧ s.rolledInto t g (.trigger n)
                        | .unwinding => (shot.groups.get g).outcome = .rollbackStarted ∧ s.rolledInto t g (.trigger n)
                        | .rollingBack => (shot.groups.get g).outcome = .joined ∧ t.group g = s.group g
                        | .committing => (shot.groups.get g).outcome = .tooLate ∧ t.group g = s.group g
                        | .faulted => (shot.groups.get g).outcome = .faulted ∧ t.group g = s.group g
                        | _ => (shot.groups.get g).outcome = .nothingOpen ∧ t.group g = s.group g))

/-! ### Requester ports -/

/-- An accepted request joins the tail of its port's queue, waiting behind a head or, where there is none, as the head in classifying (R121, R124, R125); where the port does not accept, the request stays on its bus and nothing changes. The deassertion of PRSTn clears the port's reset and nothing else, so that the port accepts again (R134). That a write brings exactly the bytes of its size (notes/assumptions/7), and that nothing is accepted in the window of a SOFT_RESET (notes/assumptions/15), is the model's reading. -/
def Obligations.AcceptedRequestJoinsItsQueue : Prop :=
  (∀ (s : State) (p : PortId) (r : BusRequest),
      s.resetPin = false → s.mgmt.resetting = false → (s.port p).resetPin = false → (s.port p).queue.length < 8 →
      (∀ x ∈ (s.port p).queue, x.stage ≠ .waiting ∨ (s.head p).any (fun h => h.stage != .waiting) = true) →
      (∀ x, (s.port p).queue.head? = some x → x.response = none) →
      ∃ t, exec (.requestAccept p r) s = .next t
        ∧ (t.port p).queue = (s.port p).queue ++
            [{ kind := r.kind, addr := r.addr, size := r.size,
               data := if r.kind = .write then fitBytes r.size r.data else [], tag := (s.port p).nextTag,
               stage := if s.head p = none then .classifying else .waiting }]
        ∧ t.port p = { s.port p with queue := (t.port p).queue, nextTag := (s.port p).nextTag + 1,
                                     headDomain := if s.head p = none then none else (s.port p).headDomain,
                                     headGroup := if s.head p = none then none else (s.port p).headGroup }
        ∧ t = { s with ports := t.ports } ∧ ∀ q, q ≠ p → t.port q = s.port q)
    ∧ (∀ (s : State) (p : PortId) (r : BusRequest),
        s.resetPin = true ∨ s.mgmt.resetting = true ∨ (s.port p).resetPin = true ∨ 8 ≤ (s.port p).queue.length →
        exec (.requestAccept p r) s = .next s)
    ∧ ∀ (s : State) (p : PortId),
        exec (.prstDeassert p) s = .next { s with ports := s.ports.set p { s.port p with resetPin := false } }

/-- Classification refuses by the first of its steps that fails (R122, R116, R118, R119), with the fields of R120 and R129, and without a memory access. -/
def Obligations.ClassificationRefusesInOrder : Prop :=
  ∀ (s : State) (p : PortId) (r : Request), s.classifying p r → ∃ t, exec (.classification p) s = .next t
    ∧ (¬(r.size ∈ [1, 2, 4, 8, 16, 32, 64] ∧ r.addr.toNat % r.size = 0) → s.refusedIn t p r .malformed none none)
    ∧ (r.size ∈ [1, 2, 4, 8, 16, 32, 64] → r.addr.toNat % r.size = 0 →
        ((∃ g, (s.group g).config.slots ≠ 0 ∧ (s.group g).config.base.toNat ≤ 64 * (r.addr.toNat / 64)
            ∧ 64 * (r.addr.toNat / 64) < (s.group g).config.base.toNat + 128 * (s.group g).config.slots) →
          s.refusedIn t p r .journalArea none none)
        ∧ ∀ i, s.inJournalArea (blockOf r.addr) = false → s.domainOf (blockOf r.addr) = some i →
          ((s.map.active[i].grants.get p = .noAccess ∨ (r.kind = .write ∧ s.map.active[i].grants.get p = .read)) →
              s.refusedIn t p r .noGrant (some i)
                (if s.map.active[i].kind = .journaled then s.map.active[i].group else none))
          ∧ (r.kind = .write → s.map.active[i].grants.get p = .readWrite →
              (s.map.active[i].kind = .guarded → s.refusedIn t p r .readOnly (some i) none)
              ∧ ∀ g, s.map.active[i].kind = .journaled → s.map.active[i].group = some g →
                  (s.group g).config.participants.get p = false →
                  s.refusedIn t p r .notParticipant (some i) (some g)))

/-- A request refused at classification gets its ERROR response at once when it is its port's oldest, with zero bytes for a read, and the next request becomes the head; behind an older issued request it waits its turn, its place between requests answered or refused before it notwithstanding (R123, R125, R126). The answer to the oldest one gives it its response (AnswerReachesItsRequest). -/
def Obligations.RefusedRequestIsAnsweredInTurn : Prop :=
  ∀ (s : State) (p : PortId) (r : Request) (older rest : List Request), s.classifying p r →
    s.queueAround p older r rest →
    (∃ why d g, s.verdict p r = .refuse why d g) → ∃ t, exec (.classification p) s = .next t
      ∧ (older = [] → t.emitted = s.emitted ++ [.response p .error (if r.kind = .read then zeroBytes r.size else [])]
          ∧ (t.port p).queue = nextPresented rest)
      ∧ (older ≠ [] → t.emitted = s.emitted
          ∧ (t.port p).queue = older ++ { r with stage := .answered } :: nextPresented rest)

/-- A request that no journal area, grant or kind stops passes through to memory unchanged: outside every domain, in a PASS domain, a read in a GUARDED domain (R117, R118), and a read of a JOURNALED domain whose group is CLOSED, OPEN, VOTING or COMMITTING (R10). -/
def Obligations.PassThroughIsIssuedUnchanged : Prop :=
  ∀ (s : State) (p : PortId) (r : Request), s.classifying p r → r.wellFormed = true →
    s.inJournalArea (blockOf r.addr) = false →
    (s.domainOf (blockOf r.addr) = none
      ∨ ∃ i, s.domainOf (blockOf r.addr) = some i ∧ (s.map.active[i].grants.get p).permits r.kind = true
        ∧ (s.map.active[i].kind = .passing
          ∨ (r.kind = .read ∧ (s.map.active[i].kind = .guarded
            ∨ ∃ g, s.map.active[i].kind = .journaled ∧ s.map.active[i].group = some g
                ∧ (s.group g).state ∈ [GroupState.closed, .opened, .voting, .committing])))) →
    ∃ t, exec (.classification p) s = .next t ∧ s.issuedIn t p r none

/-- Admission by the group's state (R10): what it refuses, with which reason (R7, R9), and what it holds, with which hold reason (R11, R128). -/
def Obligations.AdmissionFollowsTheGroupState : Prop :=
  ∀ (s : State) (p : PortId) (r : Request) (i : EntryId) (g : GroupId), s.classifying p r → s.reaches p r i g →
    ∃ t, exec (.classification p) s = .next t
      ∧ ((s.group g).state ∈ [GroupState.unverified, .formatting, .recovering] →
          s.refusedIn t p r .groupUnverified (some i) (some g))
      ∧ ((s.group g).state = .faulted → s.refusedIn t p r .groupFaulted (some i) (some g))
      ∧ ((s.group g).state = .closed → r.kind = .write →
          ((s.group g).config.autoOpen = false → s.refusedIn t p r .noEpoch (some i) (some g))
          ∧ ((s.group g).config.autoOpen = true → s.map.pending = true → s.refusedIn t p r .mapPending (some i) (some g))
          ∧ ((s.group g).config.autoOpen = true → s.map.pending = false → (s.group g).closedEpoch = 0xFFFFFFFE#32 →
              s.refusedIn t p r .epochLimit (some i) (some g)))
      ∧ ((s.group g).state = .voting → r.kind = .write → (s.group g).voteSet.get p = true →
          s.refusedIn t p r .voted (some i) (some g))
      ∧ ((s.group g).state = .unwinding → s.heldIn t p .unwinding)
      ∧ ((s.group g).state = .rollingBack → s.heldIn t p .rollingBack)
      ∧ ((s.group g).state = .committing → r.kind = .write → s.heldIn t p .committing)

/-- A participant's write into a CLOSED group with auto-open opens the epoch c + 1 and becomes its first journaled write (R8, R9): its step is reserved with slot 2, sequence 1 and level 0, and the read of its block is handed on (R34). -/
def Obligations.WriteOpensTheEpochByAutoOpen : Prop :=
  ∀ (s : State) (p : PortId) (r : Request) (i : EntryId) (g : GroupId), s.classifying p r → s.reaches p r i g →
    r.kind = .write → (s.group g).state = .closed → (s.group g).config.autoOpen = true → s.map.pending = false →
    (s.group g).closedEpoch.toNat ≤ 0xFFFFFFFD → 3 ≤ (s.group g).config.slots → 1 ≤ (s.group g).config.quota →
    (∀ e ∈ s.table, e.block ≠ blockOf r.addr) → s.table.length < 1024 →
    ∃ t, exec (.classification p) s = .next t
      ∧ t.group g = { s.group g with
          state := .opened, marks := [], journalLength := 0, effectiveQuota := (s.group g).config.quota,
          voteSet := Four.const false, voteTimer := none, queue := [p], hold := none, putBack := [],
          step := some { owner := some p, block := blockOf r.addr, level := 0, prior := none, slot := 2, sequence := 1,
                         epoch := (s.group g).closedEpoch + 1 } }
      ∧ (∀ k, k ≠ g → t.group k = s.group k)
      ∧ t.entriesOf g = 1
      ∧ findEntry t.table (blockOf r.addr)
          = some { block := blockOf r.addr, group := g, durable := none, staged := some 0, waiters := [] }
      ∧ t.headStage p = some .inQueue
      ∧ t.mem = { s.mem with waiting := s.mem.waiting ++
          [{ source := .group g, cls := .journal, kind := .read, addr := BitVec.ofNat 36 (64 * (r.addr.toNat / 64)),
             size := 64, data := [], dataGroup := none, orphan := .live, role := .oldBlockRead, stamp := s.clock + 1 }] }
      ∧ t.map = s.map ∧ t.alerts = s.alerts ∧ t.emitted = s.emitted

/-! ### The journal path -/

/-- A write admitted in OPEN, or in VOTING from a port that has not voted, is judged by the entry of its block (R28): issued at once at the group's level (R29), onto the waiting list of a PENDING entry (R27), otherwise to the tail of the journal queue (R30). -/
def Obligations.JournalPathFollowsTheEntry : Prop :=
  ∀ (s : State) (p : PortId) (r : Request) (i : EntryId) (g : GroupId), s.classifying p r → s.reaches p r i g →
    r.kind = .write → (s.group g).state = .opened ∨ ((s.group g).state = .voting ∧ (s.group g).voteSet.get p = false) →
    ∃ t, exec (.classification p) s = .next t
      ∧ (∀ e, findEntry s.table (blockOf r.addr) = some e → e.staged = none → e.durable = some (s.group g).level →
          s.issuedIn t p r (some g))
      ∧ (∀ e, findEntry s.table (blockOf r.addr) = some e → e.staged.isSome = true →
          t.headStage p = some .waitingOnEntry ∧ t.groups = s.groups ∧ t.mem = s.mem
            ∧ findEntry t.table (blockOf r.addr) = some { e with waiters := e.waiters ++ [p] }
            ∧ (∀ b, b ≠ blockOf r.addr → findEntry t.table b = findEntry s.table b))
      ∧ ((findEntry s.table (blockOf r.addr) = none ∨
            ∃ e, findEntry s.table (blockOf r.addr) = some e ∧ e.staged = none ∧ e.durable ≠ some (s.group g).level) →
          (s.group g).queue ≠ [] →
          t.headStage p = some .inQueue ∧ t.table = s.table ∧ t.mem = s.mem
            ∧ t.group g = { s.group g with queue := (s.group g).queue ++ [p] } ∧ ∀ k, k ≠ g → t.group k = s.group k)

/-- A write that joins an empty journal queue starts its step at once, and its reservation fixes the record (R31, R33, R34): the group's level and current epoch, slot 2 + journal length, sequence journal length + 1, and the block's durable level before staging as prior level (R25). -/
def Obligations.ReservationFixesTheRecord : Prop :=
  ∀ (s : State) (p : PortId) (r : Request) (i : EntryId) (g : GroupId), s.classifying p r → s.reaches p r i g →
    r.kind = .write → (s.group g).state = .opened → (s.group g).queue = [] → (s.group g).step = none →
    (s.group g).hold = none → (s.group g).journalLength < (s.group g).config.slots - 2 →
    (findEntry s.table (blockOf r.addr) = none ∧ s.table.length < 1024 ∧ s.entriesOf g < (s.group g).effectiveQuota)
      ∨ (∃ e, findEntry s.table (blockOf r.addr) = some e ∧ e.staged = none ∧ e.durable ≠ some (s.group g).level) →
    ∃ t, exec (.classification p) s = .next t
      ∧ t.group g = { s.group g with
          queue := [p]
          step := some { owner := some p, block := blockOf r.addr, level := (s.group g).marks.length,
                         prior := (findEntry s.table (blockOf r.addr)).bind (fun e => e.durable),
                         slot := 2 + (s.group g).journalLength, sequence := (s.group g).journalLength + 1,
                         epoch := (s.group g).closedEpoch + 1 } }
      ∧ (∀ k, k ≠ g → t.group k = s.group k)
      ∧ findEntry t.table (blockOf r.addr) = some (match findEntry s.table (blockOf r.addr) with
          | none => { block := blockOf r.addr, group := g, durable := none, staged := some (s.group g).marks.length,
                      waiters := [] }
          | some e => { e with staged := some (s.group g).marks.length })
      ∧ (∀ b, b ≠ blockOf r.addr → findEntry t.table b = findEntry s.table b)
      ∧ t.headStage p = some .inQueue
      ∧ t.mem = { s.mem with waiting := s.mem.waiting ++
          [{ source := .group g, cls := .journal, kind := .read, addr := BitVec.ofNat 36 (64 * (r.addr.toNat / 64)),
             size := 64, data := [], dataGroup := none, orphan := .live, role := .oldBlockRead, stamp := s.clock + 1 }] }

/-- A head that meets JOURNAL_FULL, or TRACK_FULL where the journal has room (R33), is dealt with by its group's policy in OPEN and VOTING: refused with that reason under REFUSE (R40), held with the hold limit under HOLD (R41), refused under ABORT while the group takes the cause OVERFLOW (R45). In COMMITTING it is refused whatever the policy (R46), here as the head next to a held one that the last vote takes out of the queue (R44), and the commit goes on. -/
def Obligations.OverflowFollowsThePolicy : Prop :=
  (∀ (s : State) (p : PortId) (r : Request) (i : EntryId) (g : GroupId) (o : Overflow), s.classifying p r →
      s.reaches p r i g → r.kind = .write →
      (s.group g).state = .opened ∨ ((s.group g).state = .voting ∧ (s.group g).voteSet.get p = false) →
      (s.group g).queue = [] → (s.group g).step = none → (s.group g).hold = none →
      s.meetsOverflow g (blockOf r.addr) o →
      ∃ t, exec (.classification p) s = .next t ∧ t.table = s.table ∧ (∀ k, k ≠ g → t.group k = s.group k)
        ∧ (match (s.group g).config.policy with
            | .refuse => (t.port p).refusal.map (fun x => x.reason)
                  = some (if o = .journalFull then .journalFull else .trackFull)
                ∧ t.group g = { s.group g with stats := { (s.group g).stats with
                    overflowRefusals := min 4294967295 ((s.group g).stats.overflowRefusals + 1) } }
                ∧ t.mem = s.mem
            | .hold => t.headStage p = some (.held (.overflow o))
                ∧ t.group g = { s.group g with
                    queue := [p]
                    hold := some { reason := o, timer := (s.group g).config.holdLimit, since := s.nextHold } }
                ∧ t.mem = s.mem ∧ t.emitted = s.emitted
            | .abort => (t.port p).refusal.map (fun x => x.reason)
                  = some (if o = .journalFull then .journalFull else .trackFull)
                ∧ (t.group g).stats = { (s.group g).stats with
                    overflowRefusals := min 4294967295 ((s.group g).stats.overflowRefusals + 1) }
                ∧ s.rolledInto t g .overflow))
    ∧ ∀ (s : State) (p c q : PortId) (a : Fin 8) (g : GroupId) (h : Hold) (rc rq : Request) (o : Overflow),
      s.commands p g → (s.group g).state = .opened ∨ (s.group g).state = .voting →
      (s.group g).voteSet.set p true = (s.group g).config.participants → (s.group g).hold = some h →
      (s.group g).step = none → (s.group g).queue = [c, q] → c ≠ q → s.head c = some rc → s.head q = some rq →
      s.meetsOverflow g (blockOf rq.addr) o → ∃ t, exec (.voteCommit p a) s = .next t
        ∧ (t.port q).refusal.map (fun x => x.reason) = some (if o = .journalFull then .journalFull else .trackFull)
        ∧ t.headStage c = some (.held .committing)
        ∧ t.group g = { s.group g with
            state := .committing
            voteSet := (s.group g).config.participants
            voteTimer := none
            queue := []
            hold := none
            stats := { (s.group g).stats with
              overflowRefusals := min 4294967295 ((s.group g).stats.overflowRefusals + 1) } }
        ∧ s.othersKept t g ∧ t.table = s.table
        ∧ t.mem = (if s.writesUnanswered g = true ∨ s.ownTxn g = true then s.mem
            else (s.tick.handOn ((s.group g).closingHeader g .committed .commitHeader)).mem)

/-! ### Epoch channels -/

/-- The channel's own tests in their order (R139): discarded under PRSTp, RESET_N or a waiting SOFT_RESET; UNKNOWN_COMMAND for a kind that names no command; BUSY while a command waits; NO_GROUP for a port in no participant set. Each changes nothing but the answer (the number of the event, s.clock, is the model's own). -/
def Obligations.ChannelTestsComeFirst : Prop :=
  ∀ (s : State) (p : PortId) (a : Fin 8) (code : Fin 2) (c : Instr),
    c ∈ channelCommands p a ∨ c = .unknownCommand p code a → ∃ t, exec c s = .next t
      ∧ ((s.port p).resetPin = true ∨ s.resetPin = true ∨ s.mgmt.resetting = true → t = { s with clock := t.clock })
      ∧ ((s.port p).resetPin = false → s.resetPin = false → s.mgmt.resetting = false →
          (c = .unknownCommand p code a → t = s.onlyAnswers t.clock p (.refused .unknownCommand))
          ∧ (c ∈ channelCommands p a → (s.port p).channel ≠ none → t = s.onlyAnswers t.clock p (.refused .busy))
          ∧ (c ∈ channelCommands p a → (s.port p).channel = none →
              (∀ g : GroupId, (s.group g).config.participants.get p = false) →
              t = s.onlyAnswers t.clock p (.refused .noGroup)))

/-- BEGIN is decided by the state of the port's group (R140), and an opening gives the context of R8 and nothing else: no write to the media, no other group, no other port. -/
def Obligations.BeginFollowsTheGroupState : Prop :=
  ∀ (s : State) (p : PortId) (a : Fin 8) (g : GroupId), s.commands p g → ∃ t, exec (.beginEpoch p a) s = .next t
    ∧ (match (s.group g).state with
        | .closed =>
          (s.map.pending = true → t = s.onlyAnswers s.clock p (.refused .mapPending))
            ∧ (s.map.pending = false → (s.group g).closedEpoch = 0xFFFFFFFE#32 →
                t = s.onlyAnswers s.clock p (.refused .epochLimit))
            ∧ (s.map.pending = false → (s.group g).closedEpoch.toNat ≤ 0xFFFFFFFD →
                t.group g = { s.group g with
                  state := .opened, marks := [], journalLength := 0, step := none,
                  effectiveQuota := (s.group g).config.quota, voteSet := Four.const false, voteTimer := none, queue := [],
                  hold := none, putBack := [] }
                ∧ s.othersKept t g ∧ t.entriesOf g = 0 ∧ t.table = s.table.filter (fun e => e.group != g)
                ∧ t = { s with
                    groups := t.groups
                    table := t.table
                    emitted := s.emitted ++ [.answer p (.beginDone ((s.group g).closedEpoch + 1) true)] })
        | .opened => t = s.onlyAnswers s.clock p (.beginDone ((s.group g).closedEpoch + 1) false)
        | .voting => t = s.onlyAnswers s.clock p (.beginDone ((s.group g).closedEpoch + 1) false)
        | .unwinding => t = s.onlyAnswers s.clock p (.beginDone ((s.group g).closedEpoch + 1) false)
        | .committing => t = s.onlyAnswers s.clock p (.refused .committing)
        | .rollingBack => t = s.onlyAnswers s.clock p (.refused .rollingBack)
        | .faulted => t = s.onlyAnswers s.clock p (.refused .faulted)
        | _ => t = s.onlyAnswers s.clock p (.refused .unverified))

/-- MARK is answered at once by the group state (R50): in OPEN below level 7 it pushes a mark of its port and answers its number, and it touches nothing else. -/
def Obligations.MarkFollowsTheGroupState : Prop :=
  ∀ (s : State) (p : PortId) (a : Fin 8) (g : GroupId), s.commands p g → ∃ t, exec (.mark p a) s = .next t
    ∧ (match (s.group g).state with
        | .opened =>
          if (s.group g).marks.length < 7 then
            t.group g = { s.group g with marks := (s.group g).marks ++ [p] } ∧ s.othersKept t g
              ∧ t = { s with
                  groups := t.groups
                  emitted := s.emitted ++ [.answer p (.markDone ((s.group g).marks.length + 1))] }
          else t = s.onlyAnswers s.clock p (.refused .markLimit)
        | .voting => t = s.onlyAnswers s.clock p (.refused .voteInProgress)
        | .unwinding => t = s.onlyAnswers s.clock p (.refused .unwinding)
        | _ => t = s.onlyAnswers s.clock p (.refused .notOpen))

/-- QUERY is answered DONE in every group state with the context of R141, and changes nothing. -/
def Obligations.QueryAnswersTheContext : Prop :=
  ∀ (s : State) (p : PortId) (a : Fin 8) (g : GroupId), s.commands p g →
    exec (.query p a) s = .next (s.onlyAnswers s.clock p (.queryDone
      { group := g, state := (s.group g).state, epoch := (s.group g).closedEpoch + 1,
        level := (s.group g).marks.length, journalLength := (s.group g).journalLength, voteSet := (s.group g).voteSet,
        marks := (s.group g).marks }))

/-- UNDO(m) is decided by the group state (R52). In OPEN with 1 ≤ m ≤ level it waits on its channel and the group enters UNWINDING with its marks and journal length kept; the queued writes whose step has not begun are put back and held by UNWINDING (R54), and where nothing is left to drain the clearing write of slot 2 + journal length is handed on, or in a full journal the read of its newest record (R55, R56). -/
def Obligations.UndoFollowsTheGroupState : Prop :=
  ∀ (s : State) (p : PortId) (m : Fin 8) (g : GroupId), s.commands p g → 3 ≤ (s.group g).config.slots →
    ∃ t, exec (.undo p m) s = .next t
      ∧ (match (s.group g).state with
          | .opened =>
            if 1 ≤ m.val ∧ m.val ≤ (s.group g).marks.length then
              (t.group g).state = .unwinding ∧ (t.port p).channel = some { kind := .undo, arg := m, group := g }
                ∧ (t.group g).unwind.map (fun u => (u.target, u.port)) = some (m.val, p)
                ∧ (t.group g).marks = (s.group g).marks ∧ (t.group g).journalLength = (s.group g).journalLength
                ∧ (t.group g).step = (s.group g).step ∧ (t.group g).hold = none
                ∧ (t.group g).queue = (s.group g).queue.filter
                    (fun q => (s.group g).step.any (fun x => x.owner == some q))
                ∧ (t.group g).putBack = (s.group g).putBack ++ (s.group g).queue.filter
                    (fun q => !(s.group g).step.any (fun x => x.owner == some q))
                ∧ (∀ q, t.headStage q = if q ∈ (s.group g).queue ∧ (s.group g).step.any (fun x => x.owner == some q) = false
                    then (s.headStage q).map (fun _ => .held .unwinding) else s.headStage q)
                ∧ s.othersKept t g ∧ t.table = s.table ∧ t.emitted = s.emitted ∧ t.map = s.map ∧ t.alerts = s.alerts
                ∧ (if (s.group g).step ≠ none ∨ s.writesUnanswered g = true then
                    (t.group g).unwind.map (fun u => u.phase) = some .drain ∧ t.mem = s.mem
                  else if (s.group g).journalLength < (s.group g).config.slots - 2 then
                    (t.group g).unwind.map (fun u => u.phase) = some .clear
                      ∧ t.mem = (s.tick.handOn ((s.group g).clearing g (2 + (s.group g).journalLength) .clearPhase)).mem
                  else
                    (t.group g).unwind.map (fun u => (u.phase, u.slot)) = some (.pop, some (1 + (s.group g).journalLength))
                      ∧ t.mem = (s.tick.handOn ((s.group g).slotRead g (1 + (s.group g).journalLength) .popRead)).mem)
            else t = s.onlyAnswers (s.clock + 1) p (.refused .noSuchMark)
          | .voting => t = s.onlyAnswers (s.clock + 1) p (.refused .voteInProgress)
          | .unwinding => t = s.onlyAnswers (s.clock + 1) p (.refused .unwinding)
          | _ => t = s.onlyAnswers (s.clock + 1) p (.refused .notOpen))

/-- VOTE_COMMIT is decided by the group state (R64). In OPEN and VOTING the vote is taken and waits on its channel: while the vote set is not the participant set the group is VOTING, with the timer started by the first vote (R66); the vote that completes the set enters COMMITTING (R69), where queued writes and the step in progress stay for the drain by completion, a held head is held by the state and the next head starts its step (R44, R70), and with nothing left to drain the commit header is handed on (R72). -/
def Obligations.VoteCommitFollowsTheGroupState : Prop :=
  ∀ (s : State) (p : PortId) (a : Fin 8) (g : GroupId), s.commands p g → ∃ t, exec (.voteCommit p a) s = .next t
    ∧ ((s.group g).state = .unwinding → t = s.onlyAnswers (s.clock + 1) p (.refused .unwinding))
    ∧ ((s.group g).state = .committing ∨ (s.group g).state = .rollingBack →
        t = s.onlyAnswers (s.clock + 1) p (.refused .tooLate))
    ∧ ((s.group g).state ∈ [GroupState.disabled, .unverified, .formatting, .recovering, .closed, .faulted] →
        t = s.onlyAnswers (s.clock + 1) p (.refused .notOpen))
    ∧ ((s.group g).state = .opened ∨ (s.group g).state = .voting →
        (t.port p).channel = some { kind := .voteCommit, arg := a, group := g }
        ∧ ((s.group g).voteSet.set p true ≠ (s.group g).config.participants →
            t.group g = { s.group g with
              state := .voting
              voteSet := (s.group g).voteSet.set p true
              voteTimer := if (s.group g).state = .voting then (s.group g).voteTimer
                else if (s.group g).config.voteWindow = 0 then none else some ((s.group g).config.voteWindow * 100) }
            ∧ s.othersKept t g ∧ (∀ q, q ≠ p → t.port q = s.port q)
            ∧ t = { s with clock := s.clock + 1, groups := t.groups, ports := t.ports })
        ∧ ((s.group g).voteSet.set p true = (s.group g).config.participants →
            (t.group g).state = .committing ∧ (t.group g).voteSet = (s.group g).config.participants
            ∧ (t.group g).voteTimer = none ∧ (t.group g).hold = none ∧ (t.group g).marks = (s.group g).marks
            ∧ (t.group g).journalLength = (s.group g).journalLength ∧ s.othersKept t g
            ∧ ((s.group g).hold = none → (s.group g).queue = [] ∨ (s.group g).step ≠ none →
              t.group g = { s.group g with
                state := .committing, voteSet := (s.group g).config.participants, voteTimer := none }
              ∧ t.table = s.table ∧ t.emitted = s.emitted ∧ t.alerts = s.alerts
              ∧ t.mem = (if (s.group g).step ≠ none ∨ s.writesUnanswered g = true ∨ s.ownTxn g = true then s.mem
                  else (s.tick.handOn ((s.group g).closingHeader g .committed .commitHeader)).mem))
            ∧ (∀ (h : Hold) (c : PortId) (r : Request) (rest : List PortId), (s.group g).hold = some h →
              (s.group g).step = none → (s.group g).queue = c :: rest → s.head c = some r → c ∉ rest →
              t.headStage c = some (.held .committing)
              ∧ (rest = [] → (t.group g).queue = [] ∧ (t.group g).step = none ∧ t.table = s.table ∧ t.alerts = s.alerts
                ∧ t.mem = (if s.writesUnanswered g = true ∨ s.ownTxn g = true then s.mem
                    else (s.tick.handOn ((s.group g).closingHeader g .committed .commitHeader)).mem))
              ∧ (∀ q rq, rest = [q] → s.head q = some rq → s.hasRoom g (blockOf rq.addr) →
                (t.group g).queue = [q] ∧ (t.group g).step = some ((s.group g).stepOf (some q) (blockOf rq.addr) none)
                ∧ t.headStage q = some .inQueue ∧ t.entriesOf g = s.entriesOf g + 1
                ∧ t.mem = (s.tick.handOn (oldRead g (blockOf rq.addr))).mem))))

/-- The three causes by command and by time: VOTE_ABORT (R144), the expiry of the vote window (R67) and FORCE_ABORT (R13, R177) send a group in OPEN, VOTING or UNWINDING (for the expiry, in VOTING with a running timer) into ROLLING_BACK with their cause, and elsewhere change nothing but their answers. -/
def Obligations.AbortCausesEnterRollingBack : Prop :=
  (∀ (s : State) (p : PortId) (a : Fin 8) (g : GroupId), s.commands p g → ∃ t, exec (.voteAbort p a) s = .next t
      ∧ ((s.group g).state ∈ [GroupState.opened, .voting, .unwinding] →
          s.rolledInto t g (.voteAbort p) ∧ s.othersKept t g ∧ t.emitted = s.emitted
            ∧ (t.port p).channel = some { kind := .voteAbort, arg := a, group := g })
      ∧ ((s.group g).state = .rollingBack → t.groups = s.groups ∧ t.emitted = s.emitted ∧ t.mem = s.mem
            ∧ t.port p = { s.port p with channel := some { kind := .voteAbort, arg := a, group := g } })
      ∧ ((s.group g).state = .committing → t = s.onlyAnswers (s.clock + 1) p (.refused .tooLate))
      ∧ ((s.group g).state ∈ [GroupState.disabled, .unverified, .formatting, .recovering, .closed, .faulted] →
          t = s.onlyAnswers (s.clock + 1) p (.refused .notOpen)))
    ∧ (∀ (s : State) (g : GroupId),
        ((s.group g).state = .voting → (s.group g).voteTimer ≠ none → ∃ t, exec (.voteTimeout g) s = .next t
            ∧ s.rolledInto t g .voteTimeout ∧ s.othersKept t g ∧ t.emitted = s.emitted ∧ t.alerts = s.alerts)
        ∧ ((s.group g).state ≠ .voting ∨ (s.group g).voteTimer = none → exec (.voteTimeout g) s = .next s))
    ∧ ∀ (s : State) (g : GroupId), s.awaits (.forceAbort g) → ∃ t, exec .forceAbort s = .next t
        ∧ ((s.group g).state ∈ [GroupState.opened, .voting, .unwinding] →
            s.rolledInto t g .management ∧ s.othersKept t g
              ∧ t.mgmt = (s.answeredBy { status := .accepted, data := [] }).mgmt)
        ∧ ((s.group g).state = .rollingBack → t = s.answeredBy { status := .ok, data := [] })
        ∧ ((s.group g).state ∉ [GroupState.opened, .voting, .unwinding, .rollingBack] →
            t = s.answeredBy { status := .state, data := [] })

/-- Where the entry to ROLLING_BACK leaves the rollback (R76, R77, R78), by any of the causes VOTE_ABORT, VOTE_TIMEOUT, MANAGEMENT, TRIGGER, OVERFLOW (of a write at its classification) and PORT_RESET: in DRAIN while a step or an issued write is unfinished; else at once in CLEAR with the clearing write of slot 2 + journal length, or in a full journal in POP with the read of its newest record. A rollback that overtakes an undo in its drain does the same; one that overtakes it later stands in the undo's phase, with the pop in progress kept and no transaction handed on (R61). A trigger that sends several groups into ROLLING_BACK does so to each, and the first transactions of those whose drains end at once are handed on at that event, listed by the groups' numbers, the order in which R153 takes them. -/
def Obligations.RollbackBeginsWithTheDrain : Prop :=
  (∀ (s : State) (g : GroupId) (c : Instr) (k : CloseCause) (u : State), s.abortsBy g c k u →
      (s.group g).state = .opened ∨ (s.group g).state = .voting
        ∨ ((s.group g).state = .unwinding ∧ (s.group g).phase = some .drain ∧ (s.group g).popSlot = none) →
      3 ≤ (s.group g).config.slots → ∃ t, exec c s = .next t
        ∧ (t.group g).state = .rollingBack ∧ (t.group g).rollback.map (fun x => x.cause) = some k
        ∧ ((s.group g).state = .unwinding → (t.group g).unwind = none)
        ∧ (t.group g).journalLength = (s.group g).journalLength
        ∧ (if (s.group g).step ≠ none then
            (t.group g).phase = some .drain ∧ (t.group g).popSlot = none ∧ t.mem = u.mem
          else u.drainsTo t g (s.group g).journalLength))
    ∧ (∀ (s : State) (g : GroupId) (c : Instr) (k : CloseCause) (u : State) (x : UnwindContext), s.abortsBy g c k u →
      (s.group g).state = .unwinding → (s.group g).unwind = some x → x.phase ≠ .drain → ∃ t, exec c s = .next t
        ∧ (t.group g).rollback = some { cause := k, phase := x.phase, slot := x.slot }
        ∧ (t.group g).unwind = (if x.slot = none then none else some x) ∧ t.mem = u.mem
        ∧ ((∀ p, k ≠ .portReset p) → t.table = s.table
          ∧ (t.group g).putBack = (s.group g).putBack ++ (s.group g).queue.filter
              (fun q => !(s.group g).step.any (fun y => y.owner == some q))))
    ∧ ∀ (s : State) (n : TrigId), s.resetPin = false → (s.trigger n).level = false → (s.trigger n).action = .rollback →
      (∀ g, (s.trigger n).mask.get g = true → (s.group g).state ≠ .unwinding ∧ 3 ≤ (s.group g).config.slots) →
      ∃ t, exec (.triggerEvent n) s = .next t
        ∧ t.mem = { s.mem with waiting := s.mem.waiting ++ (fourIds.filter (fun g =>
              (s.trigger n).mask.get g && decide ((s.group g).state ∈ abortedStates))).flatMap (fun g =>
                (s.firstOfDrain g).map (fun y => { y with stamp := s.clock + 1 })) }
        ∧ ∀ g, (s.trigger n).mask.get g = true → (s.group g).state ∈ abortedStates →
          (t.group g).phase = some (if (s.group g).step ≠ none ∨ s.writesUnanswered g = true then .drain
            else if (s.group g).journalLength < (s.group g).config.slots - 2 then .clear else .pop)

/-! ### Memory port -/

/-- The class REQUESTER belongs to the ports and the classes RESTORE and JOURNAL to the groups, through every step (R150). -/
def Obligations.ClassesFollowTheSources : Prop :=
  ∀ s t : State, s.classesSound → step s = .next t → t.classesSound

/-- A grant (R153): while the place is free and something is presented, one presented transaction becomes OUTSTANDING there and goes out on the memory bus; no presented one has a class before its own, and among RESTORE or JOURNAL ones it is the earliest handed on, at one event the lower-numbered group's. Nothing blocked (R152) is ever granted, and with nothing presented or the place taken there is no grant. That the command names the place is the model's choice (notes/assumptions/14). -/
def Obligations.ArbiterPicksByClassAndAge : Prop :=
  ∀ (s : State) (i : PlaceId), s.resetPin = false → s.classesSound →
    ((s.mem.places[i] ≠ none ∨ ∀ x, ¬ s.mem.presents x) → exec (.grant i) s = .next s)
    ∧ (s.mem.places[i] = none → (∃ x, s.mem.presents x) → ∃ t x older younger, exec (.grant i) s = .next t
        ∧ s.mem.presents x ∧ s.mem.waiting = older ++ x :: younger ∧ (∀ y ∈ older, y.source ≠ x.source)
        ∧ t = { s with
            mem := { waiting := older ++ younger, places := s.mem.places.set i (some x), pointer := t.mem.pointer }
            emitted := s.emitted ++ [.memory i x.kind x.addr x.size x.data] }
        ∧ ∀ y, s.mem.presents y → x.cls.rank ≤ y.cls.rank
            ∧ (y.cls = x.cls → ∀ g k, x.source = .group g → y.source = .group k →
                x.stamp < y.stamp ∨ (x.stamp = y.stamp ∧ g.val ≤ k.val)))

/-- The rotation of R154: a grant to a port goes to the first port after the pointer, in the cyclic order, that presents a transaction, and the pointer then names it; a grant to a group, and every other command but a device reset, leaves the pointer alone, a SOFT_RESET and a port reset among them; a device reset sets it to RP3. -/
def Obligations.RotationPassesThePorts : Prop :=
  (∀ (s t : State) (i : PlaceId) (x : Txn), s.resetPin = false → s.mem.places[i] = none → exec (.grant i) s = .next t →
      t.mem.places[i] = some x →
      (∀ p, x.source = .port p → t.mem.pointer = p
        ∧ ∀ q y, s.mem.presents y → y.source = .port q →
            (p.val + 3 - s.mem.pointer.val) % 4 ≤ (q.val + 3 - s.mem.pointer.val) % 4)
      ∧ (∀ g, x.source = .group g → t.mem.pointer = s.mem.pointer))
    ∧ (∀ (c : Instr) (s t : State), exec c s = .next t → setsPointer c = false → t.mem.pointer = s.mem.pointer)
    ∧ ∀ (c : Instr) (s : State), c = .powerOn ∨ c = .resetNAssert → ∃ t, exec c s = .next t ∧ t.mem.pointer = 3

/-- The memory's answer to a live requester transaction (R126, R127, R131, R156): the place is free again; the port's oldest request gets its response, OK with the data of a read or ERROR with zero bytes for a read, and after it, at the same event, the younger ones next to it that are ready get theirs, in order, refused ones too; a younger request answered out of turn keeps the answer. A write answered OK is the port's last passed write, and an ERROR is no refusal (R29). A data write of a group is answered in the same way, and its group moves only where it drains. That the memory's data are exactly as many bytes as the size is the model's choice (notes/assumptions/7). -/
def Obligations.AnswerReachesItsRequest : Prop :=
  ∀ (s : State) (i : PlaceId) (a : MemAnswer) (x : Txn) (p : PortId) (r : Request) (older younger : List Request),
    s.resetPin = false → s.mem.places[i] = some x → x.source = .port p → x.orphan = .live → x.role = .request r.tag →
    (∀ g, x.dataGroup = some g → (s.group g).state ∈ drainStates → 3 ≤ (s.group g).config.slots) →
    (s.port p).queue = older ++ r :: younger → r.stage = .issued none →
    (∀ y ∈ older ++ younger, y.tag ≠ r.tag) → s.headStage p ≠ some .waiting →
    (∀ y, older.head? = some y → y.readyFor p = none) →
    ∃ t, exec (.requesterAnswer i a) s = .next t
      ∧ t.mem.places = s.mem.places.set i none
      ∧ (∀ ready rest, older = [] → younger = ready ++ rest → (∀ y ∈ ready, y.readyFor p ≠ none) →
          (∀ y, rest.head? = some y → y.readyFor p = none) →
          (t.port p).queue = rest ∧ t.emitted = s.emitted ++ r.responseBy p a :: ready.filterMap (fun y => y.readyFor p))
      ∧ (older ≠ [] → (t.port p).queue = older ++ { r with stage := .issued (some a) } :: younger
          ∧ t.emitted = s.emitted)
      ∧ (t.port p).lastWrite = (match a, x.kind with
          | .ok _, .write => some x.addr
          | _, _ => (s.port p).lastWrite)
      ∧ (t.port p).refusal = (s.port p).refusal ∧ (t.port p).refusalCount = (s.port p).refusalCount
      ∧ (∀ q, q ≠ p → t.port q = s.port q)
      ∧ (∀ g, x.dataGroup = some g → (t.group g).state = (s.group g).state ∧ s.othersKept t g)
      ∧ ((∀ g, x.dataGroup = some g → (s.group g).state ∉ drainStates) →
          t.groups = s.groups ∧ t.mem = { s.mem with places := s.mem.places.set i none })
      ∧ t.table = s.table ∧ t.map = s.map ∧ t.alerts = s.alerts ∧ t.mgmt = s.mgmt

/-- The answer to an orphaned transaction frees its place and reaches nobody (R157), whatever it says; only that of a data write orphaned by a port reset can have one more effect, on the drain of its group. That an answer row other than ORPHANED_ANSWER, named for an orphan, leaves the whole state and the place as they are is the model's choice (notes/assumptions/9). -/
def Obligations.OrphanedAnswerReachesNobody : Prop :=
  (∀ (s : State) (i : PlaceId) (a : MemAnswer) (x : Txn), s.resetPin = false → s.mem.places[i] = some x →
      x.orphan = .bySoftReset ∨ x.orphan = .byFault ∨ (x.orphan = .byPortReset ∧ x.dataGroup = none) →
      exec (.orphanedAnswer i a) s = .next (s.placeFreed i))
    ∧ (∀ (s : State) (i : PlaceId) (a : MemAnswer) (x : Txn) (c : Instr), s.mem.places[i] = some x → x.orphan ≠ .live →
        c ∈ answersOf i a → c ≠ .orphanedAnswer i a → exec c s = .next s)
    ∧ ∀ (s : State) (i : PlaceId) (a : MemAnswer) (x : Txn) (g : GroupId), s.resetPin = false →
        s.mem.places[i] = some x → x.orphan = .byPortReset → x.dataGroup = some g →
        (s.group g).state ∉ [GroupState.unwinding, .rollingBack, .committing] →
        exec (.orphanedAnswer i a) s = .next (s.placeFreed i)

/-- The answer to the last unanswered data write of a group that has no step in progress ends its drain, whether the write's port still waits for it or was reset (R54, R70, R77, R157): an undo and a rollback go on to CLEAR with the clearing write of slot 2 + journal length, or in a full journal to POP with the read of slot 1 + journal length (R55, R78); a commit hands on its header. -/
def Obligations.LastDataWriteEndsTheDrain : Prop :=
  ∀ (s : State) (i : PlaceId) (a : MemAnswer) (x : Txn) (p : PortId) (tag : Nat) (g : GroupId) (c : Instr),
    s.resetPin = false → s.mem.places[i] = some x → x.source = .port p → x.role = .request tag → x.dataGroup = some g →
    (x.orphan = .live ∧ c = .requesterAnswer i a) ∨ (x.orphan = .byPortReset ∧ c = .orphanedAnswer i a) →
    (∀ y ∈ s.mem.waiting, y.isDataWriteOf g = false ∧ y.isOwn g = false) →
    (∀ (j : PlaceId) (y : Txn), j ≠ i → s.mem.places[j] = some y → y.isDataWriteOf g = false ∧ y.isOwn g = false) →
    (s.group g).step = none → ∃ t, exec c s = .next t
      ∧ (t.group g).journalLength = (s.group g).journalLength ∧ s.othersKept t g ∧ t.table = s.table
      ∧ ((s.group g).state = .committing → (s.group g).queue = [] → t.group g = s.group g
          ∧ t.mem = ((s.placeFreed i).handOn ((s.group g).closingHeader g .committed .commitHeader)).mem)
      ∧ ((s.group g).state = .unwinding ∨ (s.group g).state = .rollingBack → (s.group g).phase = some .drain →
          3 ≤ (s.group g).config.slots →
          (t.group g).state = (s.group g).state ∧ (t.group g).marks = (s.group g).marks
            ∧ (t.group g).putBack = (s.group g).putBack ∧ (s.placeFreed i).clearsFrom t g (s.group g).journalLength)

/-! ### The journaling step -/

/-- The old block's contents arrive and the record goes to its slot (R35); its acknowledgement adds it to the journal (R36) and lets its write on by the group's state (R38): issued where its level is the group's, journaled again at slot 2 + the new journal length where a mark was set meanwhile, put back in UNWINDING and ROLLING_BACK; and the entry's waiting list is released after it, issued at its level in OPEN and VOTING, waiting again where the block is journaled again, and held by the other states (R27). A step whose write left with its port hands on no data write (R47). The next head of the queue then starts its step (R31). The order of these effects at one event is the model's reading (notes/assumptions/16), and that the memory's data are exactly 64 bytes its choice (notes/assumptions/7). -/
def Obligations.JournalingStepRuns : Prop :=
  (∀ (s : State) (i : PlaceId) (g : GroupId) (st : JournalStep) (data : List Byte), s.ownAt i g .oldBlockRead 64 →
      (s.group g).step = some st →
      exec (.oldBlockRead i (.ok data)) s = .next ((s.placeFreed i).handOn (ownOf g .journal .write
        ((s.group g).config.base + BitVec.ofNat 36 (128 * st.slot)) 128 (recordSlot g st (fitBytes 64 data)) .recordWrite)))
    ∧ (∀ (s : State) (i : PlaceId) (g : GroupId) (st : JournalStep) (p : PortId) (r : Request) (e : TrackEntry)
        (ws : List PortId) (data : List Byte), s.ownAt i g .recordWrite 128 → (s.group g).step = some st →
        st.owner = some p → s.head p = some r → r.stage = .inQueue → blockOf r.addr = st.block → (s.group g).queue = [p] →
        (s.group g).hold = none → s.tableSorted → findEntry s.table st.block = some e → e.staged = some st.level →
        e.waiters = ws → (p :: ws).Nodup →
        (∀ q ∈ ws, ∃ x, s.head q = some x ∧ x.stage = .waitingOnEntry ∧ blockOf x.addr = st.block) →
        (s.group g).state = .unwinding ∨ (s.group g).state = .rollingBack ∨ st.level = (s.group g).marks.length
          ∨ (s.group g).journalLength + 1 < (s.group g).config.slots - 2 →
        ∃ t, exec (.recordWrite i (.ok data)) s = .next t
          ∧ (t.group g).journalLength = (s.group g).journalLength + 1
          ∧ (t.group g).stats = { (s.group g).stats with
              recordsAppended := min 4294967295 ((s.group g).stats.recordsAppended + 1) }
          ∧ (t.group g).state = (s.group g).state ∧ (t.group g).closedEpoch = (s.group g).closedEpoch
          ∧ (t.group g).marks = (s.group g).marks ∧ s.othersKept t g
          ∧ (∀ b, b ≠ st.block → findEntry t.table b = findEntry s.table b)
          ∧ ((s.group g).state ∈ [GroupState.opened, .voting, .committing] →
              (st.level = (s.group g).marks.length →
                (t.group g).queue = [] ∧ (t.group g).step = none
                ∧ findEntry t.table st.block = some { e with durable := some st.level, staged := none, waiters := [] }
                ∧ s.headIssued t p r
                ∧ ((s.group g).state ≠ .committing → (∀ q x, q ∈ ws → s.head q = some x → s.headIssued t q x)
                  ∧ t.mem = { (s.placeFreed i).mem with waiting := s.mem.waiting ++ (p :: ws).flatMap (s.dataWrites g) })
                ∧ ((s.group g).state = .committing → (∀ q ∈ ws, t.headStage q = some (.held .committing))
                  ∧ t.mem = { (s.placeFreed i).mem with waiting := s.mem.waiting ++ s.dataWrites g p }))
              ∧ (st.level ≠ (s.group g).marks.length →
                (t.group g).queue = [p] ∧ (t.group g).step = some
                  { owner := some p, block := st.block, level := (s.group g).marks.length, prior := some st.level,
                    slot := 2 + ((s.group g).journalLength + 1), sequence := (s.group g).journalLength + 2,
                    epoch := (s.group g).closedEpoch + 1 }
                ∧ findEntry t.table st.block
                    = some { e with durable := some st.level, staged := some (s.group g).marks.length,
                                    waiters := if (s.group g).state = .committing then [] else ws }
                ∧ (∀ q ∈ ws, t.headStage q = if (s.group g).state = .committing then some (.held .committing)
                    else some .waitingOnEntry)
                ∧ t.mem = ((s.placeFreed i).handOn (ownOf g .journal .read
                    (BitVec.ofNat 36 (64 * (r.addr.toNat / 64))) 64 [] .oldBlockRead)).mem))
          ∧ (∀ q ∈ p :: ws, ((s.group g).state = .unwinding → t.headStage q = some (.held .unwinding))
            ∧ ((s.group g).state = .rollingBack → t.headStage q = some (.held .rollingBack)))
          ∧ ((s.group g).state = .unwinding ∨ (s.group g).state = .rollingBack →
              (t.group g).queue = [] ∧ (t.group g).step = none
                ∧ ((t.group g).state = .unwinding ∨ (t.group g).state = .rollingBack)
                ∧ (t.group g).putBack = (s.group g).putBack ++ [p]
                ∧ findEntry t.table st.block = some { e with durable := some st.level, staged := none, waiters := [] }))
    ∧ (∀ (s : State) (i : PlaceId) (g : GroupId) (st : JournalStep) (e : TrackEntry) (ws : List PortId) (data : List Byte),
        s.ownAt i g .recordWrite 128 → (s.group g).step = some st → st.owner = none → (s.group g).queue = [] →
        s.tableSorted → findEntry s.table st.block = some e → e.staged = some st.level → e.waiters = ws → ws.Nodup →
        (∀ q ∈ ws, ∃ r, s.head q = some r ∧ r.stage = .waitingOnEntry ∧ blockOf r.addr = st.block) →
        ∃ t, exec (.recordWrite i (.ok data)) s = .next t
          ∧ ((s.group g).state = .opened ∨ (s.group g).state = .voting → st.level = (s.group g).marks.length →
              t.group g = { s.group g with
                journalLength := (s.group g).journalLength + 1
                step := none
                stats := { (s.group g).stats with
                  recordsAppended := min 4294967295 ((s.group g).stats.recordsAppended + 1) } }
              ∧ s.othersKept t g
              ∧ findEntry t.table st.block = some { e with durable := some st.level, staged := none, waiters := [] }
              ∧ t.mem.waiting = s.mem.waiting ++ ws.flatMap (s.dataWrites g))
          ∧ ((s.group g).state = .committing → ∀ q ∈ ws, t.headStage q = some (.held .committing))
          ∧ ((s.group g).state = .unwinding → ∀ q ∈ ws, t.headStage q = some (.held .unwinding))
          ∧ ((s.group g).state = .rollingBack → ∀ q ∈ ws, t.headStage q = some (.held .rollingBack)))
    ∧ ∀ (s : State) (i : PlaceId) (g : GroupId) (st : JournalStep) (e : TrackEntry) (q : PortId) (more : List PortId)
        (rq : Request) (prior : Option Nat) (data : List Byte), s.ownAt i g .recordWrite 128 → (s.group g).step = some st →
        (s.group g).queue = st.owner.toList ++ q :: more → (s.group g).hold = none →
        (s.group g).state ∈ [GroupState.opened, .voting, .committing] → st.level = (s.group g).marks.length →
        s.tableSorted → findEntry s.table st.block = some e → e.staged = some st.level → e.waiters = [] →
        (∀ p, st.owner = some p → p ≠ q ∧ ∃ r, s.head p = some r ∧ blockOf r.addr = st.block) →
        s.head q = some rq → rq.stage = .inQueue → blockOf rq.addr ≠ st.block →
        s.takesStep g (blockOf rq.addr) ((s.group g).journalLength + 1) prior →
        ∃ t, exec (.recordWrite i (.ok data)) s = .next t
          ∧ s.stepTaken t g q (blockOf rq.addr) ((s.group g).journalLength + 1) prior
          ∧ (t.group g).queue = q :: more ∧ (t.group g).hold = none ∧ (t.group g).state = (s.group g).state
          ∧ (t.group g).journalLength = (s.group g).journalLength + 1 ∧ s.othersKept t g
          ∧ findEntry t.table st.block = some { e with durable := some st.level, staged := none }
          ∧ (∀ p r, st.owner = some p → s.head p = some r → s.headIssued t p r)
          ∧ t.mem = { (s.placeFreed i).mem with waiting := s.mem.waiting ++ st.owner.toList.flatMap (s.dataWrites g)
              ++ [{ oldRead g (blockOf rq.addr) with stamp := s.clock + 1 }] }

/-- A failed old-block read or record write in OPEN or VOTING ends the step without a record (R37, R39); StepEndEndsTheDrain says it for a group that drains: its write is refused MEMORY_ERROR, or nothing is answered where it left with its port (R47); the entry of a new block is removed and that of a lower level reverts (R26), and the journal length and the group's state stay. The entry's waiting list is released (R27): its writes join the queue, and the first of them starts the next step, which makes the entry afresh (R39). Where other writes stand behind it in the queue, the next head starts its step at this event (R37). That none of them starts before the whole list has joined is the model's reading of R37 and R39 (notes/assumptions/16). -/
def Obligations.FailedStepLeavesNoRecord : Prop :=
  (∀ (s : State) (i : PlaceId) (g : GroupId) (st : JournalStep) (p : PortId) (r : Request) (e : TrackEntry) (c : Instr),
    (s.ownAt i g .oldBlockRead 64 ∧ c = .oldBlockRead i .error) ∨ (s.ownAt i g .recordWrite 128 ∧ c = .recordWrite i .error) →
    (s.group g).step = some st → st.owner = some p → s.head p = some r → (s.group g).queue = [p] → s.noneHeld →
    (s.group g).state = .opened ∨ (s.group g).state = .voting → s.tableSorted →
    findEntry s.table st.block = some e → e.waiters = [] → ∃ t, exec c s = .next t
      ∧ t.group g = { s.group g with queue := [], step := none } ∧ s.othersKept t g
      ∧ findEntry t.table st.block = (match st.prior with
          | none => none
          | some l => some { e with durable := some l, staged := none })
      ∧ (∀ b, b ≠ st.block → findEntry t.table b = findEntry s.table b)
      ∧ t.mem = (s.placeFreed i).mem
      ∧ (t.port p).refusal = some { kind := r.kind, addr := r.addr, size := r.size, reason := .memoryError,
                                    domain := (s.port p).headDomain, group := (s.port p).headGroup,
                                    epoch := (s.port p).headGroup.map (fun k => (s.group k).closedEpoch + 1) }
      ∧ (t.port p).refusalCount = min 65535 ((s.port p).refusalCount + 1) ∧ t.isLatched (.refusal p) = true
      ∧ s.headAnswered t p r ∧ (∀ q, q ≠ p → t.port q = s.port q))
    ∧ (∀ (s : State) (i : PlaceId) (g : GroupId) (st : JournalStep) (e : TrackEntry) (c : Instr),
      (s.ownAt i g .oldBlockRead 64 ∧ c = .oldBlockRead i .error)
        ∨ (s.ownAt i g .recordWrite 128 ∧ c = .recordWrite i .error) →
      (s.group g).step = some st → st.owner = none → (s.group g).queue = [] → s.noneHeld →
      (s.group g).state = .opened ∨ (s.group g).state = .voting → s.tableSorted →
      findEntry s.table st.block = some e → e.waiters = [] → ∃ t, exec c s = .next t
        ∧ t = { s.placeFreed i with groups := t.groups, table := t.table, draws := t.draws }
        ∧ t.group g = { s.group g with step := none } ∧ s.othersKept t g
        ∧ findEntry t.table st.block = (match st.prior with
            | none => none
            | some l => some { e with durable := some l, staged := none })
        ∧ (∀ b, b ≠ st.block → findEntry t.table b = findEntry s.table b))
    ∧ (∀ (s : State) (i : PlaceId) (g : GroupId) (st : JournalStep) (e : TrackEntry) (c : Instr) (w : PortId)
        (more : List PortId),
      (s.ownAt i g .oldBlockRead 64 ∧ c = .oldBlockRead i .error)
        ∨ (s.ownAt i g .recordWrite 128 ∧ c = .recordWrite i .error) →
      (s.group g).step = some st → (s.group g).queue = st.owner.toList → s.noneHeld →
      (s.group g).state = .opened ∨ (s.group g).state = .voting → s.tableSorted → s.tableFits →
      findEntry s.table st.block = some e → e.group = g → e.waiters = w :: more → st.prior ≠ some (s.group g).marks.length →
      (∀ q ∈ w :: more, st.owner ≠ some q ∧ ∃ r, s.head q = some r ∧ blockOf r.addr = st.block) →
      s.entriesOf g ≤ (s.group g).effectiveQuota → (s.group g).journalLength < (s.group g).config.slots - 2 →
      ∃ t, exec c s = .next t
        ∧ t.group g = { s.group g with
            queue := w :: more
            step := some ((s.group g).stepOf (some w) st.block st.prior) }
        ∧ s.othersKept t g
        ∧ findEntry t.table st.block
            = some { e with durable := st.prior, staged := some (s.group g).marks.length, waiters := [] }
        ∧ (∀ b, b ≠ st.block → findEntry t.table b = findEntry s.table b)
        ∧ (∀ q ∈ w :: more, t.headStage q = some .inQueue)
        ∧ t.mem = ((s.placeFreed i).handOn (oldRead g st.block)).mem
        ∧ (∀ p r, st.owner = some p → s.head p = some r →
            (t.port p).refusal.map (fun x => (x.addr, x.reason)) = some (r.addr, .memoryError)))
    ∧ ∀ (s : State) (i : PlaceId) (g : GroupId) (st : JournalStep) (e : TrackEntry) (c : Instr) (q : PortId)
        (more : List PortId) (rq : Request) (prior : Option Nat), s.stepFails i g c →
      (s.group g).step = some st → (s.group g).queue = st.owner.toList ++ q :: more → s.noneHeld →
      (s.group g).state ∈ [GroupState.opened, .voting, .committing] → s.tableSorted →
      findEntry s.table st.block = some e → e.waiters = [] → (∀ p, st.owner = some p → p ∉ q :: more) →
      s.head q = some rq → rq.stage = .inQueue → blockOf rq.addr ≠ st.block →
      s.takesStep g (blockOf rq.addr) (s.group g).journalLength prior → ∃ t, exec c s = .next t
        ∧ s.stepTaken t g q (blockOf rq.addr) (s.group g).journalLength prior
        ∧ t.group g = { s.group g with queue := q :: more, step := (t.group g).step } ∧ s.othersKept t g
        ∧ findEntry t.table st.block = st.prior.map (fun l => { e with durable := some l, staged := none })
        ∧ t.mem = ((s.placeFreed i).handOn (oldRead g (blockOf rq.addr))).mem
        ∧ (∀ p r, st.owner = some p → s.head p = some r → s.headAnswered t p r
          ∧ (t.port p).refusal.map (fun x => (x.addr, x.reason)) = some (r.addr, .memoryError))

/-- A step that ends in a group that drains may end the drain (R54, R70, R77). In UNWINDING and ROLLING_BACK its write is put back, held, where the record is acknowledged, and refused MEMORY_ERROR where the step fails (R38, R39); the waiting list is held by the group's state (R27); the drain goes on while an issued write is unanswered, and else goes to CLEAR behind the journal as it now is, or to POP in a full one (R55, R78). In COMMITTING, where the queue is empty after the step (its write had left with its port, was refused for a failure, or meets a full journal when it is to be journaled again, R46), the commit header is handed on once no issued write is unanswered (R72). The order of these effects at one event is the model's reading (notes/assumptions/16). -/
def Obligations.StepEndEndsTheDrain : Prop :=
  (∀ (s : State) (i : PlaceId) (g : GroupId) (st : JournalStep) (e : TrackEntry) (data : List Byte),
      s.ownAt i g .recordWrite 128 → (s.group g).step = some st → (s.group g).queue = st.owner.toList →
      findEntry s.table st.block = some e → (s.group g).state = .unwinding ∨ (s.group g).state = .rollingBack →
      (s.group g).phase = some .drain → 3 ≤ (s.group g).config.slots → ∃ t, exec (.recordWrite i (.ok data)) s = .next t
        ∧ (t.group g).state = (s.group g).state ∧ (t.group g).journalLength = (s.group g).journalLength + 1
        ∧ (t.group g).marks = (s.group g).marks ∧ (t.group g).queue = [] ∧ (t.group g).step = none
        ∧ (t.group g).putBack = (s.group g).putBack ++ st.owner.toList ∧ s.othersKept t g
        ∧ (∀ q r, q ∈ e.waiters ∨ st.owner = some q → s.head q = some r →
            t.headStage q = some (.held (if (s.group g).state = .unwinding then .unwinding else .rollingBack)))
        ∧ (s.placeFreed i).drainsTo t g ((s.group g).journalLength + 1))
    ∧ (∀ (s : State) (i : PlaceId) (g : GroupId) (st : JournalStep) (e : TrackEntry) (c : Instr), s.stepFails i g c →
      (s.group g).step = some st → (s.group g).queue = st.owner.toList → s.noneHeld → s.tableSorted →
      findEntry s.table st.block = some e → (s.group g).state ∈ [GroupState.unwinding, .rollingBack, .committing] →
      ((s.group g).state = .committing ∨ ((s.group g).phase = some .drain ∧ 3 ≤ (s.group g).config.slots)) →
      ∃ t, exec c s = .next t
        ∧ (t.group g).state = (s.group g).state ∧ (t.group g).journalLength = (s.group g).journalLength
        ∧ (t.group g).marks = (s.group g).marks ∧ (t.group g).queue = [] ∧ (t.group g).step = none
        ∧ (t.group g).putBack = (s.group g).putBack ∧ s.othersKept t g
        ∧ findEntry t.table st.block
            = st.prior.map (fun l => { e with durable := some l, staged := none, waiters := [] })
        ∧ (∀ b, b ≠ st.block → findEntry t.table b = findEntry s.table b)
        ∧ (∀ p r, st.owner = some p → s.head p = some r →
            (t.port p).refusal.map (fun x => (x.addr, x.reason)) = some (r.addr, .memoryError))
        ∧ (∀ q r, q ∈ e.waiters → st.owner ≠ some q → s.head q = some r →
            t.headStage q = (s.group g).state.holding.map .held)
        ∧ (if (s.group g).state = .committing then (s.placeFreed i).commitDrainsTo t g
          else (s.placeFreed i).drainsTo t g (s.group g).journalLength))
    ∧ (∀ (s : State) (i : PlaceId) (g : GroupId) (st : JournalStep) (data : List Byte), s.ownAt i g .recordWrite 128 →
      (s.group g).step = some st → st.owner = none → (s.group g).queue = [] → (s.group g).state = .committing →
      ∃ t, exec (.recordWrite i (.ok data)) s = .next t
        ∧ (t.group g).state = .committing ∧ (t.group g).journalLength = (s.group g).journalLength + 1
        ∧ (t.group g).queue = [] ∧ (t.group g).step = none ∧ s.othersKept t g ∧ (s.placeFreed i).commitDrainsTo t g)
    ∧ ∀ (s : State) (i : PlaceId) (g : GroupId) (st : JournalStep) (p : PortId) (r : Request) (e : TrackEntry)
        (data : List Byte), s.ownAt i g .recordWrite 128 → (s.group g).step = some st → st.owner = some p →
      s.head p = some r → blockOf r.addr = st.block → (s.group g).queue = [p] → (s.group g).hold = none →
      (s.group g).state = .committing → s.tableSorted → findEntry s.table st.block = some e →
      st.level ≠ (s.group g).marks.length → (s.group g).config.slots - 2 ≤ (s.group g).journalLength + 1 →
      ∃ t, exec (.recordWrite i (.ok data)) s = .next t
        ∧ (t.group g).state = .committing ∧ (t.group g).journalLength = (s.group g).journalLength + 1
        ∧ (t.group g).stats.overflowRefusals = min 4294967295 ((s.group g).stats.overflowRefusals + 1)
        ∧ (t.group g).queue = [] ∧ (t.group g).step = none ∧ s.othersKept t g
        ∧ (e.waiters = [] → (t.port p).refusal.map (fun x => (x.addr, x.reason)) = some (r.addr, .journalFull))
        ∧ (s.placeFreed i).commitDrainsTo t g

/-- The expiry of a hold refuses the held head with its hold reason and counts it (R42), and the next head of the queue starts its step: it takes it up, is issued where its block is DURABLE at the group's level, or meets an overflow, by which it is held in its turn or refused. With no hold running the event changes nothing. -/
def Obligations.HoldExpiryRefusesTheHead : Prop :=
  (∀ (s : State) (g : GroupId) (h : Hold) (p : PortId) (r : Request), (s.group g).hold = some h →
      (s.group g).queue = [p] → s.head p = some r → ∃ t, exec (.holdExpiry g) s = .next t
        ∧ t.group g = { s.group g with
            queue := []
            hold := none
            stats := { (s.group g).stats with holdExpiries := min 4294967295 ((s.group g).stats.holdExpiries + 1) } }
        ∧ s.othersKept t g ∧ t.table = s.table ∧ t.mem = s.mem ∧ (∀ q, q ≠ p → t.port q = s.port q)
        ∧ (t.port p).refusal.map (fun x => x.reason)
            = some (if h.reason = .journalFull then .journalFull else .trackFull)
        ∧ (t.port p).refusalCount = min 65535 ((s.port p).refusalCount + 1) ∧ t.isLatched (.refusal p) = true
        ∧ s.headAnswered t p r)
    ∧ (∀ (s : State) (g : GroupId) (h : Hold) (p q : PortId) (more : List PortId) (r rq : Request),
        (s.group g).hold = some h → (s.group g).queue = p :: q :: more → p ∉ q :: more → (s.group g).step = none →
        (s.group g).state = .opened ∨ (s.group g).state = .voting → s.head p = some r → s.head q = some rq →
        rq.stage = .inQueue → ∃ t, exec (.holdExpiry g) s = .next t
          ∧ (t.group g).stats.holdExpiries = min 4294967295 ((s.group g).stats.holdExpiries + 1)
          ∧ (t.port p).refusal.map (fun x => (x.addr, x.reason))
              = some (r.addr, if h.reason = .journalFull then .journalFull else .trackFull)
          ∧ (∀ prior, s.takesStep g (blockOf rq.addr) (s.group g).journalLength prior →
              s.stepTaken t g q (blockOf rq.addr) (s.group g).journalLength prior
              ∧ t.group g = { s.group g with
                  queue := q :: more, hold := none, step := (t.group g).step, stats := (t.group g).stats }
              ∧ s.othersKept t g ∧ t.mem = (s.tick.handOn (oldRead g (blockOf rq.addr))).mem ∧ s.headAnswered t p r)
          ∧ (∀ e, findEntry s.table (blockOf rq.addr) = some e → e.staged = none →
              e.durable = some (s.group g).marks.length → more = [] →
              t.group g = { s.group g with queue := [], hold := none, stats := (t.group g).stats } ∧ s.othersKept t g
              ∧ t.table = s.table ∧ s.headIssued t q rq
              ∧ t.mem = { s.mem with waiting := s.mem.waiting ++ s.dataWrites g q })
          ∧ (∀ o, s.meetsOverflow g (blockOf rq.addr) o → (s.group g).config.policy = .hold →
              t.headStage q = some (.held (.overflow o)) ∧ t.mem = s.mem ∧ t.table = s.table ∧ s.othersKept t g
              ∧ t.group g = { s.group g with
                  queue := q :: more, stats := (t.group g).stats
                  hold := some { reason := o, timer := (s.group g).config.holdLimit, since := s.nextHold } })
          ∧ (∀ o, s.meetsOverflow g (blockOf rq.addr) o → (s.group g).config.policy = .refuse → more = [] →
              t.group g = { s.group g with queue := [], hold := none, stats := (t.group g).stats } ∧ t.mem = s.mem
              ∧ t.table = s.table ∧ s.othersKept t g
              ∧ (t.port q).refusal.map (fun x => (x.addr, x.reason))
                  = some (rq.addr, if o = .journalFull then .journalFull else .trackFull)))
    ∧ ∀ (s : State) (g : GroupId), (s.group g).hold = none → exec (.holdExpiry g) s = .next s

/-! ### Undo, rollback and commit -/

/-- Popping (R55 to R57, R78): after phase CLEAR the newest record is read; a record that matches and is not kept is restored; its slot is cleared; the acknowledgement lowers the journal length and adjusts the entry, and the next record is read or, at length 0 of a rollback, the closing header is handed on (R79). That the memory's data are exactly as many bytes as were asked for is the model's choice (notes/assumptions/7). -/
def Obligations.PopRunsReadRestoreClear : Prop :=
  (∀ (s : State) (i : PlaceId) (g : GroupId) (data : List Byte), s.ownAt i g .clearPhase 128 →
      (s.group g).phase = some .clear → ∃ t, exec (.clearPhaseWrite i (.ok data)) s = .next t
        ∧ ((s.group g).journalLength ≠ 0 →
            (t.group g).phase = some .pop ∧ (t.group g).popSlot = some (1 + (s.group g).journalLength)
              ∧ (t.group g).journalLength = (s.group g).journalLength ∧ (t.group g).marks = (s.group g).marks
              ∧ t.mem = ((s.placeFreed i).handOn
                  ((s.group g).slotRead g (1 + (s.group g).journalLength) .popRead)).mem)
        ∧ ((s.group g).journalLength = 0 → (s.group g).state = .rollingBack →
            (t.group g).phase = some .header
              ∧ t.mem = ((s.placeFreed i).handOn
                  ((s.group g).closingHeader g .rolledBack .rollbackHeader)).mem))
    ∧ (∀ (s : State) (i : PlaceId) (g : GroupId) (data : List Byte), s.ownAt i g .popRead 128 →
      matchesRecord g ((s.group g).closedEpoch + 1) (s.group g).journalLength (fitBytes 128 data) = true →
      ((s.group g).state = .rollingBack ∨ ∃ u, (s.group g).unwind = some u ∧ u.target ≤ recordLevel (fitBytes 128 data)) →
      exec (.recordRead i (.ok data)) s = .next ((s.placeFreed i).handOn (ownOf g .restore .write
        (blockAddr (recordBlock (fitBytes 128 data))) 64 (recordContents (fitBytes 128 data))
        (.popRestore (recordBlock (fitBytes 128 data)) (recordPrior (fitBytes 128 data))))))
    ∧ (∀ (s : State) (i : PlaceId) (g : GroupId) (b : Block) (prior : Option Nat) (n : Nat) (data : List Byte),
      s.ownAt i g (.popRestore b prior) 64 → (s.group g).popSlot = some n →
      exec (.restoreWrite i (.ok data)) s
        = .next ((s.placeFreed i).handOn ((s.group g).clearing g n (.popClear b prior))))
    ∧ ∀ (s : State) (i : PlaceId) (g : GroupId) (b : Block) (prior : Option Nat) (data : List Byte),
      s.ownAt i g (.popClear b prior) 128 → (s.group g).phase = some .pop → s.noneHeld → s.tableSorted →
      ∃ t, exec (.popComplete i (.ok data)) s = .next t
        ∧ (t.group g).journalLength = (s.group g).journalLength - 1 ∧ s.othersKept t g ∧ s.poppedIn t b prior
        ∧ (2 ≤ (s.group g).journalLength →
            (t.group g).state = (s.group g).state ∧ (t.group g).popSlot = some (s.group g).journalLength
              ∧ t.mem = ((s.placeFreed i).handOn ((s.group g).slotRead g (s.group g).journalLength .popRead)).mem)
        ∧ ((s.group g).journalLength = 1 → (s.group g).state = .rollingBack →
            (t.group g).phase = some .header
              ∧ t.mem = ((s.placeFreed i).handOn
                  ((s.group g).closingHeader g .rolledBack .rollbackHeader)).mem)

/-- A freed entry serves the oldest hold first (R41, R43): the pop that removes an entry of a full table lets the head that was held first take up its step. -/
def Obligations.FreedEntryServesTheOldestHold : Prop :=
  ∀ (s : State) (i : PlaceId) (g k : GroupId) (b : Block) (e : TrackEntry) (data : List Byte) (h : Hold) (p : PortId)
    (r : Request), s.ownAt i g (.popClear b none) 128 → (s.group g).phase = some .pop → 2 ≤ (s.group g).journalLength →
    s.tableSorted → s.table.length = 1024 → findEntry s.table b = some e → e.group = g → k ≠ g →
    (s.group k).hold = some h → (∀ j h', j ≠ k → (s.group j).hold = some h' → h.since < h'.since) →
    (s.group k).queue = [p] → s.head p = some r → r.stage = .held (.overflow h.reason) →
    (∀ j, j ≠ k → p ∉ (s.group j).queue) →
    (∀ x ∈ s.table, x.block ≠ blockOf r.addr) → s.entriesOf k < (s.group k).effectiveQuota →
    (s.group k).journalLength < (s.group k).config.slots - 2 →
    ∃ t, exec (.popComplete i (.ok data)) s = .next t
      ∧ t.group k = { s.group k with
          hold := none
          step := some { owner := some p, block := blockOf r.addr, level := (s.group k).marks.length, prior := none,
                         slot := 2 + (s.group k).journalLength, sequence := (s.group k).journalLength + 1,
                         epoch := (s.group k).closedEpoch + 1 } }
      ∧ t.headStage p = some .inQueue

/-- An undo finishes where it finds a record below its mark's level, or where no record is left (R56, R58): the group is OPEN with the first m marks, the UNDO is answered DONE with the mark and the journal length, and the held heads return to classifying. That the memory's data are exactly as many bytes as were asked for is the model's choice (notes/assumptions/7). -/
def Obligations.UndoFinishesAtItsMark : Prop :=
  ∀ (s : State) (i : PlaceId) (g : GroupId) (u : UnwindContext) (a : Fin 8) (data : List Byte) (c : Instr) (n : Nat),
    (s.group g).state = .unwinding → (s.group g).unwind = some u → s.noneHeld →
    (s.port u.port).channel = some { kind := .undo, arg := a, group := g } →
    (c = .recordRead i (.ok data) ∧ s.ownAt i g .popRead 128 ∧ n = (s.group g).journalLength
        ∧ matchesRecord g ((s.group g).closedEpoch + 1) (s.group g).journalLength (fitBytes 128 data) = true
        ∧ recordLevel (fitBytes 128 data) < u.target)
      ∨ (c = .clearPhaseWrite i (.ok data) ∧ s.ownAt i g .clearPhase 128 ∧ n = 0 ∧ (s.group g).journalLength = 0)
      ∨ (∃ b prior, c = .popComplete i (.ok data) ∧ s.ownAt i g (.popClear b prior) 128 ∧ n = 0
        ∧ (s.group g).journalLength = 1) →
    ∃ t, exec c s = .next t
      ∧ t.group g = { s.group g with
          state := .opened
          journalLength := n
          marks := (s.group g).marks.take u.target
          unwind := none
          putBack := []
          stats := { (s.group g).stats with undos := min 4294967295 ((s.group g).stats.undos + 1) } }
      ∧ s.othersKept t g ∧ s.headsReleased t g ∧ t.mem = (s.placeFreed i).mem ∧ t.alerts = s.alerts
      ∧ (t.port u.port).channel = none ∧ t.emitted = s.emitted ++ [.answer u.port (.undoDone u.target n)]
      ∧ ∀ q, q ≠ u.port → (t.port q).channel = (s.port q).channel

/-- The two closes of an epoch. The acknowledged commit header is the commit point (R73): c becomes c + 1, the entries are released, and every vote is answered COMMITTED. The acknowledged closing header ends a rollback (R80, R81): c becomes c + 1, every waiting command of the group is answered ROLLED_BACK with the cause, and AUTO_ROLLBACK latches for every cause but VOTE_ABORT (R85). Either way the group is CLOSED and the heads it held return to classifying. -/
def Obligations.ClosesEndTheEpoch : Prop :=
  ∀ (s : State) (i : PlaceId) (g : GroupId) (data : List Byte), s.noneHeld →
    (s.ownAt i g .commitHeader 128 → ∃ t, exec (.commitHeaderWrite i (.ok data)) s = .next t
      ∧ t.group g = { s.group g with
          closedEpoch := (s.group g).closedEpoch + 1, state := .closed, marks := [], journalLength := 0, step := none,
          lastClose := .commit, voteSet := Four.const false,
          stats := { (s.group g).stats with commits := min 4294967295 ((s.group g).stats.commits + 1) } }
      ∧ s.othersKept t g ∧ t.table = s.table.filter (fun e => e.group != g) ∧ t.mem = (s.placeFreed i).mem
      ∧ t.alerts = s.alerts ∧ s.headsReleased t g
      ∧ s.answeredIn t g [.voteCommit] (.committed ((s.group g).closedEpoch + 1)))
    ∧ (s.ownAt i g .rollbackHeader 128 → ∃ t, exec (.rollbackHeaderWrite i (.ok data)) s = .next t
      ∧ t.group g = { s.group g with
          closedEpoch := (s.group g).closedEpoch + 1, state := .closed, marks := [], rollback := none, unwind := none,
          putBack := [], voteSet := Four.const false,
          stats := { (s.group g).stats with rollbacks := min 4294967295 ((s.group g).stats.rollbacks + 1) } }
      ∧ s.othersKept t g ∧ t.table = s.table ∧ t.mem = (s.placeFreed i).mem ∧ s.headsReleased t g
      ∧ s.answeredIn t g [.undo, .voteCommit, .voteAbort]
          (.rolledBack ((s.group g).closedEpoch + 1) (s.group g).lastClose)
      ∧ (∀ p, (s.group g).lastClose = .voteAbort p → t.alerts = s.alerts)
      ∧ ((∀ p, (s.group g).lastClose ≠ .voteAbort p) → t.isLatched (.autoRollback g) = true))

/-! ### FORMAT and RECOVER -/

/-- FORMAT (R92 to R94): accepted in UNVERIFIED alone, it clears the slots from the last down to slot 2, writes the headers A and B of epoch 0, and leaves the group CLOSED with outcome FORMATTED and RECOVERY_DONE. -/
def Obligations.FormatRunsToClosed : Prop :=
  (∀ (s : State) (g : GroupId), s.awaits (.format g) → ∃ t, exec .format s = .next t
      ∧ ((s.group g).state = .unverified →
          t.group g = { s.group g with state := .formatting, journalLength := 0 } ∧ s.othersKept t g
            ∧ t = { s.answeredWith .accepted with
                groups := t.groups
                mem := (s.tick.handOn ((s.group g).clearing g ((s.group g).config.slots - 1)
                  (.formatClear ((s.group g).config.slots - 1)))).mem })
      ∧ ((s.group g).state ≠ .unverified → t = s.answeredWith .state))
    ∧ (∀ (s : State) (i : PlaceId) (g : GroupId) (n : Nat) (data : List Byte), s.ownAt i g (.formatClear n) 128 →
      exec (.formatClearingWrite i (.ok data)) s = .next ((s.placeFreed i).handOn
        (if 2 < n then (s.group g).clearing g (n - 1) (.formatClear (n - 1))
         else ownOf g .journal .write (s.group g).config.base 128 (headerSlot g .a .formatted 0 (s.group g).config.slots)
           (.formatHeader .a))))
    ∧ ∀ (s : State) (i : PlaceId) (g : GroupId) (data : List Byte),
      (s.ownAt i g (.formatHeader .a) 128 → exec (.formatHeaderWrite i (.ok data)) s = .next ((s.placeFreed i).handOn
          (ownOf g .journal .write ((s.group g).config.base + 128#36) 128
            (headerSlot g .b .formatted 0 (s.group g).config.slots) (.formatHeader .b))))
      ∧ (s.ownAt i g (.formatHeader .b) 128 → ∃ t, exec (.formatHeaderWrite i (.ok data)) s = .next t
          ∧ t.group g = { s.group g with
              closedEpoch := 0, state := .closed,
              recoveryResult := { copy := none, closedFound := 0, found := 0, replayed := 0, outcome := .formatted } }
          ∧ s.othersKept t g ∧ t.isLatched (.recoveryDone g) = true
          ∧ t = { s.placeFreed i with groups := t.groups, alerts := t.alerts })

/-- RECOVER as far as the replay (R96 to R99, R101): accepted in UNVERIFIED alone, it reads slots 0 and 1, takes the higher epoch of two valid copies or the one that is valid, or ends in UNVERIFIED with AREA_MISMATCH or NO_JOURNAL; then it counts records from slot 2 on, ends CLEAN where there is none, and otherwise reads the newest. That the memory's data are exactly as many bytes as were asked for is the model's choice (notes/assumptions/7). -/
def Obligations.RecoveryChoosesAndScans : Prop :=
  (∀ (s : State) (g : GroupId), s.awaits (.recover g) → ∃ t, exec .recover s = .next t
      ∧ ((s.group g).state = .unverified →
          (t.group g).state = .recovering ∧ (t.group g).journalLength = 0 ∧ s.othersKept t g
            ∧ t = { s.answeredWith .accepted with
                groups := t.groups
                mem := (s.tick.handOn ((s.group g).slotRead g 0 (.headerRead .a))).mem })
      ∧ ((s.group g).state ≠ .unverified → t = s.answeredWith .state))
    ∧ (∀ (s : State) (i : PlaceId) (g : GroupId) (data : List Byte), s.ownAt i g (.headerRead .a) 128 →
      ∃ t, exec (.headerRead i (.ok data)) s = .next t
        ∧ (t.group g).recovery.map (fun x => x.judgedA)
            = some (judgeHeader g .a (s.group g).config.slots (fitBytes 128 data))
        ∧ (t.group g).state = (s.group g).state ∧ s.othersKept t g
        ∧ t.mem = ((s.placeFreed i).handOn ((s.group g).slotRead g 1 (.headerRead .b))).mem)
    ∧ (∀ (s : State) (i : PlaceId) (g : GroupId) (data : List Byte) (x : RecoveryContext) (jb : CopyJudgement),
      s.ownAt i g (.headerRead .b) 128 → (s.group g).recovery = some x → (s.group g).journalLength = 0 →
      judgeHeader g .b (s.group g).config.slots (fitBytes 128 data) = jb →
      ∃ t, exec (.headerRead i (.ok data)) s = .next t ∧ s.othersKept t g
        ∧ (∀ (y : Copy) (e : Epoch),
            (y = .a ∧ x.judgedA = .valid e ∧ ∀ f, jb = .valid f → f.toNat ≤ e.toNat)
              ∨ (y = .b ∧ jb = .valid e ∧ ∀ f, x.judgedA = .valid f → f.toNat < e.toNat) →
            (t.group g).closedEpoch = e ∧ (t.group g).state = (s.group g).state
              ∧ (t.group g).recovery = some { x with chosen := some y, named := e }
              ∧ t.mem = ((s.placeFreed i).handOn ((s.group g).slotRead g 2 .scanRead)).mem)
        ∧ ((∀ e, x.judgedA ≠ .valid e) → (∀ e, jb ≠ .valid e) →
            (t.group g).state = .unverified ∧ (t.group g).closedEpoch = (s.group g).closedEpoch
              ∧ t.isLatched (.recoveryDone g) = true ∧ t.mem = (s.placeFreed i).mem
              ∧ (t.group g).recoveryResult = { RecoveryResult.reset with
                  outcome := if x.judgedA = .otherSize ∨ jb = .otherSize then .areaMismatch else .noJournal }))
    ∧ ∀ (s : State) (i : PlaceId) (g : GroupId) (data : List Byte) (x : RecoveryContext),
      s.ownAt i g .scanRead 128 → (s.group g).recovery = some x → x.found = none → ∃ t,
        exec (.scanRead i (.ok data)) s = .next t ∧ s.othersKept t g
        ∧ (t.group g).closedEpoch = (s.group g).closedEpoch
        ∧ (matchesRecord g ((s.group g).closedEpoch + 1) ((s.group g).journalLength + 1) (fitBytes 128 data) = true →
            (t.group g).journalLength = (s.group g).journalLength + 1
              ∧ ((s.group g).journalLength + 1 < (s.group g).config.slots - 2 →
                  t.mem = ((s.placeFreed i).handOn
                    ((s.group g).slotRead g (3 + (s.group g).journalLength) .scanRead)).mem)
              ∧ ((s.group g).config.slots - 2 ≤ (s.group g).journalLength + 1 →
                  (t.group g).recovery = some { x with found := some ((s.group g).journalLength + 1) }
                  ∧ t.mem = ((s.placeFreed i).handOn
                    ((s.group g).slotRead g (2 + (s.group g).journalLength) .replayRead)).mem))
        ∧ (matchesRecord g ((s.group g).closedEpoch + 1) ((s.group g).journalLength + 1) (fitBytes 128 data) = false →
            (t.group g).journalLength = (s.group g).journalLength
              ∧ ((s.group g).journalLength = 0 → (t.group g).state = .closed ∧ t.isLatched (.recoveryDone g) = true
                  ∧ t.mem = (s.placeFreed i).mem
                  ∧ (t.group g).recoveryResult
                      = { copy := x.chosen, closedFound := x.named, found := 0, replayed := 0, outcome := .clean })
              ∧ ((s.group g).journalLength ≠ 0 →
                  (t.group g).recovery = some { x with found := some (s.group g).journalLength }
                  ∧ t.mem = ((s.placeFreed i).handOn
                    ((s.group g).slotRead g (1 + (s.group g).journalLength) .replayRead)).mem))

/-- The replay (R100, R101): a record read that still matches is restored, the count falls with each restore, and after the last the group writes its closing header; its acknowledgement makes c the epoch replayed, and the group CLOSED with last close cause RECOVERY, outcome REPLAYED and RECOVERY_DONE. That the memory's data are exactly as many bytes as were asked for is the model's choice (notes/assumptions/7). -/
def Obligations.ReplayRestoresAndCloses : Prop :=
  (∀ (s : State) (i : PlaceId) (g : GroupId) (data : List Byte), s.ownAt i g .replayRead 128 →
      matchesRecord g ((s.group g).closedEpoch + 1) (s.group g).journalLength (fitBytes 128 data) = true →
      exec (.replayRead i (.ok data)) s = .next ((s.placeFreed i).handOn (ownOf g .restore .write
        (blockAddr (recordBlock (fitBytes 128 data))) 64 (recordContents (fitBytes 128 data))
        (.recoveryRestore (recordBlock (fitBytes 128 data))))))
    ∧ (∀ (s : State) (i : PlaceId) (g : GroupId) (b : Block) (data : List Byte), s.ownAt i g (.recoveryRestore b) 64 →
      ∃ t, exec (.recoveryRestoreWrite i (.ok data)) s = .next t
        ∧ t.group g = { s.group g with journalLength := (s.group g).journalLength - 1 } ∧ s.othersKept t g
        ∧ t = { s.placeFreed i with
            groups := t.groups
            mem := ((s.placeFreed i).handOn (if (s.group g).journalLength ≤ 1 then
                (s.group g).closingHeader g .rolledBack .recoveryHeader
              else (s.group g).slotRead g (s.group g).journalLength .replayRead)).mem })
    ∧ ∀ (s : State) (i : PlaceId) (g : GroupId) (x : RecoveryContext) (n : Nat) (data : List Byte),
      s.ownAt i g .recoveryHeader 128 → (s.group g).recovery = some x → x.found = some n →
      ∃ t, exec (.recoveryHeaderWrite i (.ok data)) s = .next t
        ∧ t.group g = { s.group g with
            closedEpoch := (s.group g).closedEpoch + 1, state := .closed, lastClose := .recovery, recovery := none,
            recoveryResult := { copy := x.chosen, closedFound := x.named, found := n,
                                replayed := n - (s.group g).journalLength, outcome := .replayed } }
        ∧ s.othersKept t g ∧ t.isLatched (.recoveryDone g) = true
        ∧ t = { s.placeFreed i with groups := t.groups, alerts := t.alerts }

/-- A failure in UNWINDING, ROLLING_BACK, COMMITTING, FORMATTING or RECOVERING (R59, R60, R74, R83, R95, R102) sends the group into FAULTED with all six items of R15, the refusals GROUP_FAULTED at this event of what it held and of what waited on its entries among them, with the fields of R16 by its kind, and the recovery result FAULTED of a FORMAT or a RECOVER (R19). That the memory's data are exactly as many bytes as were asked for is the model's choice (notes/assumptions/7). -/
def Obligations.FailuresFaultTheGroup : Prop :=
  ∀ (s : State) (i : PlaceId) (g : GroupId) (c : Instr) (k : FaultKind) (e : Epoch) (slot : Option Nat) (b : Option Block),
    s.failsAt i g c k e slot b → ∃ t, exec c s = .next t ∧ s.faultedIn t g k e slot b
      ∧ (s.group g).resultAfter (t.group g) c

/-! ### Formats -/

/-- What the block writes to its journal area, it reads back (R88 to R91, R97): a record slot matches its own group, epoch and sequence and no other, and gives back level, prior level, block and contents; a header slot is judged valid with its epoch for its own group, copy and slot count; a cleared slot is neither. -/
def Obligations.MediaSlotsReadBack : Prop :=
  (∀ (g : GroupId) (st : JournalStep) (contents : List Byte), contents.length = 64 → st.level ≤ 7 →
      (∀ l, st.prior = some l → l ≤ 7) → st.sequence ≤ 65535 →
      (recordSlot g st contents).length = 128
        ∧ (∀ k e n, matchesRecord k e n (recordSlot g st contents) = true ↔ k = g ∧ e = st.epoch ∧ n = st.sequence)
        ∧ recordLevel (recordSlot g st contents) = st.level ∧ recordPrior (recordSlot g st contents) = st.prior
        ∧ recordBlock (recordSlot g st contents) = st.block ∧ recordContents (recordSlot g st contents) = contents)
    ∧ (∀ (g : GroupId) (y : Copy) (h : HeaderState) (e : Epoch) (n : Nat), e.toNat ≤ 0xFFFFFFFE → n ≤ 65536 →
      (headerSlot g y h e n).length = 128
        ∧ ∀ (k : GroupId) (z : Copy) (m : Nat), judgeHeader k z m (headerSlot g y h e n)
            = if k = g ∧ z = y then (if m = n then .valid e else .otherSize) else .malformed)
    ∧ ∀ (g : GroupId) (y : Copy) (e : Epoch) (n m : Nat),
      matchesRecord g e n (List.replicate 128 0#8) = false ∧ judgeHeader g y m (List.replicate 128 0#8) = .malformed

/-- What a configuration object shows, a WRITE of the same bytes gives back (R175, R107, R2, R161): the bytes fit the object, their values are in range, and whatever stood there before, the entry, configuration or trigger is the one shown. -/
def Obligations.ConfigurationBytesReadBack : Prop :=
  (∀ (d old : DomainEntry) (i : EntryId), d.bytes.length = 16
      ∧ (Writable.domainShadow i).takes { off := 0, data := d.bytes } = true
      ∧ shadowInRange { off := 0, data := d.bytes } = true ∧ old.written { off := 0, data := d.bytes } = d)
    ∧ (∀ (c old : GroupConfig) (g : GroupId), c.base.toNat % 128 = 0 → c.slots = 0 ∨ (3 ≤ c.slots ∧ c.slots ≤ 65536) →
      1 ≤ c.holdLimit → c.holdLimit ≤ 65535 → c.voteWindow ≤ 65535 → 1 ≤ c.quota → c.quota ≤ 1024 →
      c.bytes.length = 24 ∧ (Writable.groupConfig g).takes { off := 0, data := c.bytes } = true
        ∧ configInRange { off := 0, data := c.bytes } = true ∧ old.written { off := 0, data := c.bytes } = c)
    ∧ ∀ (x old : Trigger) (n : TrigId), x.configBytes.length = 2
      ∧ (Writable.triggerConfig n).takes { off := 0, data := x.configBytes } = true
      ∧ triggerInRange { off := 0, data := x.configBytes } = true
      ∧ old.written { off := 0, data := x.configBytes } = { old with action := x.action, mask := x.mask }

/-! ### Management port -/

/-- The checks of a held request in their order (R172): the frame's shape, its checksum, its command byte, its object and that object's write access, the fields a command fixes, the CFG_EN sample (R174), the argument and the ranges (R175); what passes comes to its operation; and a request they refuse, or a WRITE of length 0, is answered with its status and nothing else happens. That a WRITE to ALERT without a mask byte needs the sample too is the model's choice (notes/assumptions/28), and that an empty WRITE meets no field boundary its reading (notes/assumptions/20). -/
def Obligations.RequestChecksComeInOrder : Prop :=
  (∀ (bytes : List Byte) (en : Bool) (n : Nat), (byteAt bytes 4).toNat = n →
      (bytes.length < 6 ∨ 64 < n ∨ bytes.length ≠ (if byteAt bytes 0 = 1#8 then 6 else 6 + n) →
        decideFrame bytes en = .refuse .badFrame)
      ∧ (6 ≤ bytes.length → n ≤ 64 → bytes.length = (if byteAt bytes 0 = 1#8 then 6 else 6 + n) →
        (bytes.getLast? ≠ some (~~~ (bytes.dropLast.foldl (· + ·) 0#8)) → decideFrame bytes en = .refuse .badChecksum)
        ∧ (bytes.getLast? = some (~~~ (bytes.dropLast.foldl (· + ·) 0#8)) →
          (byteAt bytes 0 ∉ [0x01#8, 0x02#8, 0x10#8, 0x11#8, 0x20#8, 0x21#8, 0x22#8, 0x23#8, 0x30#8, 0x31#8, 0x32#8, 0x3F#8]
            → decideFrame bytes en = .refuse .unknown)
          ∧ (byteAt bytes 0 ∈ [0x10#8, 0x11#8, 0x20#8, 0x21#8, 0x22#8, 0x23#8, 0x30#8, 0x31#8, 0x32#8, 0x3F#8] →
              fieldAt bytes 2 2 ≠ 0 ∨ n ≠ (if byteAt bytes 0 = 0x31#8 then 3 else 0) →
              decideFrame bytes en = .refuse .badFrame)
          ∧ (byteAt bytes 0 ∈ [0x10#8, 0x20#8, 0x3F#8] → fieldAt bytes 2 2 = 0 → n = 0 → en = false →
              decideFrame bytes en = .refuse .locked)
          ∧ (byteAt bytes 0 ∈ [0x20#8, 0x21#8, 0x22#8, 0x23#8, 0x30#8, 0x32#8] → fieldAt bytes 2 2 = 0 → n = 0 →
              (en = true ∨ byteAt bytes 0 ≠ 0x20#8) → 3 < (byteAt bytes 1).toNat →
              decideFrame bytes en = .refuse .range)
          ∧ (∀ (d : Fin 4 → Decision) (k : Byte), (k, d) ∈ [(0x20#8, Decision.format), (0x21#8, .recover),
                (0x22#8, .forceAbort), (0x23#8, .clearFault), (0x30#8, .clearRefusal), (0x32#8, .clearStats)] →
              byteAt bytes 0 = k → fieldAt bytes 2 2 = 0 → n = 0 → (en = true ∨ k ≠ 0x20#8) →
              ∀ g : Fin 4, (byteAt bytes 1).toNat = g.val → decideFrame bytes en = d g)
          ∧ (∀ (d : Decision) (k : Byte), (k, d) ∈ [(0x10#8, Decision.activateMap), (0x11#8, .cancelMap),
                (0x3F#8, .softReset)] →
              byteAt bytes 0 = k → fieldAt bytes 2 2 = 0 → n = 0 → (en = true ∨ k = 0x11#8) →
              decideFrame bytes en = if byteAt bytes 1 = 0#8 then d else .refuse .range)
          ∧ (byteAt bytes 0 = 0x31#8 → fieldAt bytes 2 2 = 0 → n = 3 →
              decideFrame bytes en = if byteAt bytes 1 = 0#8 ∧ fieldAt bytes 5 3 < 2 ^ 21 then
                .clearAlerts (BitVec.ofNat 21 (fieldAt bytes 5 3)) else .refuse .range)
          ∧ (∀ m, byteAt bytes 0 = 0x01#8 → (byteAt bytes 1).toNat = m →
              ¬ ((16 ≤ m ∧ m ≤ 48) ∨ (64 ≤ m ∧ m < 76) ∨ (80 ≤ m ∧ m < 88) ∨ (96 ≤ m ∧ m < 104) ∨ m = 112 ∨ m = 113
                ∨ m = 127) →
              decideFrame bytes en = .refuse .unknown)
          ∧ (∀ o, byteAt bytes 0 = 0x01#8 → Object.ofByte (byteAt bytes 1) = some o →
              decideFrame bytes en = if fieldAt bytes 2 2 + n ≤ o.size then .read o (fieldAt bytes 2 2) n
                else .refuse .range)
          ∧ (∀ m, byteAt bytes 0 = 0x02#8 → (byteAt bytes 1).toNat = m →
              ¬ ((16 ≤ m ∧ m < 32) ∨ (64 ≤ m ∧ m < 68) ∨ (96 ≤ m ∧ m < 100) ∨ m = 112) →
              decideFrame bytes en = .refuse .unknown)
          ∧ (∀ o w, byteAt bytes 0 = 0x02#8 → Object.ofByte (byteAt bytes 1) = some o → o.writable = some w →
              decideFrame bytes en = if en = false then .refuse .locked
                else if w.takes { off := fieldAt bytes 2 2, data := (bytes.drop 5).take n } = false then .refuse .range
                else if n = 0 then .zeroWrite
                else .write w { off := fieldAt bytes 2 2, data := (bytes.drop 5).take n }))))
    ∧ ∀ (s : State),
      (∀ st, s.awaits (.refuse st) → exec .refusedRequest s = .next (s.answeredWith st))
      ∧ (s.awaits .zeroWrite → exec .refusedRequest s = .next (s.answeredWith .ok))

/-- Frames (R171 to R173, R179, R180): a frame within the assertion of RESET_N gives 0xFF on MSO and is not taken; a stale frame, which straddles an edge of RESET_N, is not taken, and gives 0xFF throughout a request frame and in the first byte of any, and in a FETCH frame a 1 in every bit clocked while RESET_N is asserted, so 0xFF in a byte clocked wholly in reset (in a byte that an edge splits, the reading of notes/assumptions/23); a request frame becomes the held request, once a request still undecided has been decided as its own row decides it, and gives 0xFF on MSO; it is ignored while a SOFT_RESET waits for its response. A FETCH frame gives 0xFF, the status, length, data and checksum of the response, PENDING while there is none yet, and UNKNOWN where no request is held, and changes nothing else. That a frame says of itself whether it is stale, and which of its bits were clocked in reset, is the model's choice (notes/assumptions/26), and the bits of a stale FETCH frame after its first byte that were clocked out of reset, for which the spec gives no response, are free values (notes/assumptions/23). -/
def Obligations.FramesAreTakenAndAnswered : Prop :=
  ∀ (s : State) (b : Byte) (more : List Byte) (en : Bool), b ≠ 0#8 →
    (s.resetPin = true →
      exec (.requestFrame (b :: more) en .whole) s
          = .next { s with emitted := s.emitted ++ [.mso (List.replicate (more.length + 1) 0xFF#8)] }
        ∧ exec (.fetch more .whole) s
          = .next { s with emitted := s.emitted ++ [.mso (List.replicate (more.length + 1) 0xFF#8)] })
    ∧ (∀ inReset, exec (.requestFrame (b :: more) en (.stale inReset)) s
          = .next { s with emitted := s.emitted ++ [.mso (List.replicate (more.length + 1) 0xFF#8)] }
        ∧ ∃ t out, exec (.fetch more (.stale inReset)) s = .next t ∧ out.length = more.length
          ∧ t = { s with emitted := s.emitted ++ [.mso (0xFF#8 :: out)], draws := t.draws }
          ∧ ∀ (i : Nat) (m x : Byte), inReset[i]? = some m → out[i]? = some x → x &&& m = m ∧ (m = 0xFF#8 → x = 0xFF#8))
    ∧ (s.resetPin = false → s.mgmt.resetting = false → (∀ h, s.mgmt.held = some h → h.response ≠ none) →
      exec (.requestFrame (b :: more) en .whole) s = .next { s with
        clock := s.clock + 1
        mgmt := { s.mgmt with held := some { bytes := b :: more, cfgEn := en, response := none } }
        emitted := s.emitted ++ [.mso (List.replicate (more.length + 1) 0xFF#8)] })
    ∧ (s.resetPin = false → s.mgmt.resetting = true →
      exec (.requestFrame (b :: more) en .whole) s = .next { s with
        clock := s.clock + 1
        emitted := s.emitted ++ [.mso (List.replicate (more.length + 1) 0xFF#8)] })
    ∧ (s.resetPin = false → s.mgmt.resetting = false → ∀ h, s.mgmt.held = some h → h.response = none →
      ∃ c u, c ∈ decisionRows ∧ exec c s = .next u
        ∧ (u.mgmt.resetting = true ∨ ∃ x, u.mgmt.held = some { h with response := some x })
        ∧ exec (.requestFrame (b :: more) en .whole) s = .next { u with
            mgmt := if u.mgmt.resetting = true then u.mgmt
              else { u.mgmt with held := some { bytes := b :: more, cfgEn := en, response := none } }
            emitted := u.emitted ++ [.mso (List.replicate (more.length + 1) 0xFF#8)] })
    ∧ (s.resetPin = false → ∃ t out, exec (.fetch more .whole) s = .next t
        ∧ t = { s with emitted := s.emitted ++ [.mso out] } ∧ out.length = more.length + 1
        ∧ (∀ h r, s.mgmt.held = some h → s.mgmt.resetting = false → h.response = some r → r.data.length ≤ 64 →
            r.data.length + 4 ≤ more.length + 1 →
            out = 0xFF#8 :: r.status.code :: BitVec.ofNat 8 r.data.length :: r.data
              ++ ~~~ ((r.status.code :: BitVec.ofNat 8 r.data.length :: r.data).foldl (· + ·) 0#8)
                :: List.replicate (more.length - 3 - r.data.length) 0xFF#8)
        ∧ (3 ≤ more.length → (s.mgmt.held = none → out.take 4 = [0xFF#8, 0x12#8, 0#8, 0xED#8])
            ∧ (∀ h, s.mgmt.held = some h → s.mgmt.resetting = true ∨ h.response = none →
                out.take 4 = [0xFF#8, 0x02#8, 0#8, 0xFD#8])))

/-- READ (R175): the response is OK with the bytes asked for of the object as it stands at that event; nothing else changes. Each object has the size the catalogue gives it, and every field that a layout names stands where it names it, with the codes of the table: domain entries of both copies, MAP_STATE, GROUP_CONFIG, GROUP_STATUS, GROUP_STATS, PORT_STATUS, REFUSAL, TRIGGER_CONFIG, SNAPSHOT, ALERT, TRACK_USAGE and IDENT. The bytes of a four-byte field that is absent are free values (notes/assumptions/4), and nothing is said of them; the fields of a record or a slot not valid, of an IDLE channel and of a head in classifying are the model's reading (notes/assumptions/17, 18 and 19). -/
def Obligations.ReadReturnsTheObject : Prop :=
  (∀ (s : State) (o : Object) (off len : Nat), s.awaits (.read o off len) → ∃ t, exec .read s = .next t
      ∧ t = { s.answeredBy { status := .ok, data := ((s.objectBytes o).drop off).take len } with draws := t.draws })
    ∧ (∀ (s : State) (o : Object), (s.objectBytes o).length = o.size)
    ∧ codesAsGiven
    ∧ (∀ (s : State) (g : GroupId), s.showsStatus g (s.objectBytes (.groupStatus g))
        ∧ (s.group g).stats.shownBy (s.objectBytes (.groupStats g))
        ∧ (s.group g).config.shownBy (s.objectBytes (.groupConfig g))
        ∧ fieldAt (s.objectBytes .trackUsage) (2 + 2 * g.val) 2 = (s.table.countP (fun e => e.group == g)) % 65536)
    ∧ (∀ (s : State) (p : PortId), s.showsPort p (s.objectBytes (.portStatus p))
        ∧ (s.port p).refusalShownBy (s.objectBytes (.refusal p)))
    ∧ (∀ (s : State) (n : TrigId), (s.trigger n).snapshotShownBy (s.objectBytes (.snapshot n))
        ∧ byteAt (s.objectBytes (.triggerConfig n)) 0 = (s.trigger n).action.code
        ∧ showsSet (byteAt (s.objectBytes (.triggerConfig n)) 1) (s.trigger n).mask)
    ∧ (∀ (s : State) (i : EntryId), s.map.shadow[i].shownBy (s.objectBytes (.domainShadow i))
        ∧ s.map.active[i].shownBy (s.objectBytes (.domainActive i)))
    ∧ (∀ s : State, s.objectBytes .mapState = [if s.map.pending = true then 1#8 else 0#8]
        ∧ fieldAt (s.objectBytes .trackUsage) 0 2 = s.table.length % 65536
        ∧ s.objectBytes .ident = [0x5C#8, 0x0E#8, 0x3A#8, 0x11#8, 1#8, 0#8, 0#8, 0#8])
    ∧ ∀ (s : State) (x : List Byte), s.objectBytes .alert = x →
        fieldAt x 0 3 = s.alerts.latched.toNat ∧ byteAt x 3 = 0#8 ∧ fieldAt x 4 3 = s.alerts.mask.toNat
          ∧ byteAt x 7 = if s.alerts.latched &&& s.alerts.mask = 0#21 then 0#8 else 1#8

/-- Writes of shadow entries, trigger configurations and the alert mask (R107, R161, R169): the fields written change together and the others stay; a value out of the ranges of R106 and R161 is answered RANGE and a shadow write under a pending activation MAP_PENDING, without effect. A write carries the fields that lie wholly inside it, each a little-endian number. ALERT is high exactly while a latched cause is enabled (R169). -/
def Obligations.WritesChangeTheirObject : Prop :=
  (∀ (s : State) (i : EntryId) (w : Span), s.awaits (.write (.domainShadow i) w) →
      exec .domainShadowWrite s = .next (if shadowInRange w = false then s.answeredWith .range
        else if s.map.pending = true then s.answeredWith .mapPending
        else { s.answeredWith .ok with
          map := { s.map with shadow := s.map.shadow.set i (s.map.shadow[i].written w) } }))
    ∧ (∀ (s : State) (n : TrigId) (w : Span), s.awaits (.write (.triggerConfig n) w) →
      exec .triggerConfigWrite s = .next (if triggerInRange w = false then s.answeredWith .range
        else { s.answeredWith .ok with triggers := s.triggers.set n ((s.trigger n).written w) }))
    ∧ (∀ (s : State) (w : Span), s.awaits (.write .alert w) → ∃ t, exec .alertMaskWrite s = .next t
      ∧ (∀ v, w.value 4 3 = some v → 2 ^ 21 ≤ v → t = s.answeredWith .range)
      ∧ (∀ v, w.value 4 3 = some v → v < 2 ^ 21 →
          t = { s.answeredWith .ok with alerts := { s.alerts with mask := BitVec.ofNat 21 v } })
      ∧ (w.value 4 3 = none → t = s.answeredWith .ok))
    ∧ (∀ w : Span, (shadowInRange w = true ↔ shadowValues w) ∧ (triggerInRange w = true ↔ triggerValues w)
      ∧ ∀ off size : Nat, w.value off size = if w.off ≤ off ∧ off + size ≤ w.off + w.data.length then
          some (fieldAt w.data (off - w.off) size) else none)
    ∧ (∀ d : DomainEntry, d.writtenByField) ∧ (∀ x : Trigger, x.writtenByField)
    ∧ ∀ s : State, s.alertLine = true ↔ ∃ c : Cause, s.isLatched c = true ∧ s.alerts.mask.getLsbD c.bit = true

/-- A write of GROUP_CONFIG[g] meets its checks in the order of R2: RANGE, STATE, MAP_PENDING, CONFLICT, OVERLAP; the first that fails answers, without effect. RANGE is for a value outside R1 or an area beyond the address space. Taken, it changes the fields written together, the others stay, and where it writes the area the group becomes UNVERIFIED or DISABLED with c and the journal length 0 and its recovery result as at power-on (R3, R4, R5). That any row naming one of the fields takes a write over the fields of several rows, whole, is the model's choice (notes/assumptions/21). -/
def Obligations.GroupConfigChecksComeInOrder : Prop :=
  (∀ w : Span, configInRange w = true ↔ configValues w) ∧ (∀ c : GroupConfig, c.writtenByField)
  ∧ ∀ (s : State) (g : GroupId) (w : Span) (c : Instr) (new : GroupConfig), s.awaits (.write (.groupConfig g) w) →
    (c = .journalAreaWrite ∧ w.touchesArea = true) ∨ (c = .participantSetWrite ∧ w.touchesSet = true)
      ∨ (c = .policyWrite ∧ w.touchesPolicy = true) →
    (s.group g).config.written w = new → ∃ t, exec c s = .next t
      ∧ (configInRange w = false ∨ (w.touchesArea = true ∧ new.slots ≠ 0 ∧ 2 ^ 36 < new.base.toNat + 128 * new.slots) →
          t = s.answeredWith .range)
      ∧ (configInRange w = true → (w.touchesArea = true → new.slots = 0 ∨ new.base.toNat + 128 * new.slots ≤ 2 ^ 36) →
        (w.touchesArea = true ∨ w.touchesSet = true → (s.group g).state ∉ [GroupState.disabled, .unverified, .closed] →
          t = s.answeredWith .state)
        ∧ ((w.touchesArea = false ∧ w.touchesSet = false) ∨ (s.group g).state ∈ [GroupState.disabled, .unverified, .closed] →
          (w.touchesArea = true → s.map.pending = true → t = s.answeredWith .mapPending)
          ∧ (w.touchesArea = false ∨ s.map.pending = false →
            ((w.touchesSet = true ∧ ∃ (p : PortId) (k : GroupId), k ≠ g ∧ new.participants.get p = true
                  ∧ (s.group g).config.participants.get p = false ∧ (s.group k).config.participants.get p = true)
                ∨ (w.value 8 4 = some 0 ∧ ∃ i : EntryId, s.map.active[i].valid = true
                  ∧ s.map.active[i].kind = .journaled ∧ s.map.active[i].group = some g) →
              t = s.answeredWith .conflict)
            ∧ ((w.touchesSet = true → ∀ (p : PortId) (k : GroupId), k ≠ g → new.participants.get p = true →
                  (s.group g).config.participants.get p = false → (s.group k).config.participants.get p = false) →
              (w.value 8 4 = some 0 → ∀ i : EntryId, s.map.active[i].valid = true → s.map.active[i].kind = .journaled →
                  s.map.active[i].group ≠ some g) →
              (w.touchesArea = true → new.slots ≠ 0 →
                (∃ i : EntryId, s.map.active[i].valid = true ∧ s.map.active[i].meetsArea new = true)
                  ∨ (∃ k : GroupId, k ≠ g ∧ (s.group k).config.slots ≠ 0
                    ∧ new.base.toNat < (s.group k).config.base.toNat + 128 * (s.group k).config.slots
                    ∧ (s.group k).config.base.toNat < new.base.toNat + 128 * new.slots) →
                t = s.answeredWith .overlap)
              ∧ ((w.touchesArea = true → new.slots ≠ 0 →
                    (∀ i : EntryId, s.map.active[i].valid = true → s.map.active[i].meetsArea new = false)
                    ∧ ∀ k : GroupId, k ≠ g → (s.group k).config.slots ≠ 0 →
                      (s.group k).config.base.toNat + 128 * (s.group k).config.slots ≤ new.base.toNat
                        ∨ new.base.toNat + 128 * new.slots ≤ (s.group k).config.base.toNat) →
                t = { s.answeredWith .ok with groups := t.groups } ∧ s.othersKept t g
                ∧ t.group g = (if w.touchesArea = true then
                    { s.group g with
                      config := new
                      state := if new.slots = 0 then .disabled else .unverified
                      closedEpoch := 0
                      journalLength := 0
                      recoveryResult := { copy := none, closedFound := 0, found := 0, replayed := 0, outcome := .noOutcome } }
                  else { s.group g with config := new }))))))

/-- Map activation (R109 to R113): under a pending activation MAP_PENDING; a shadow copy that fails a check is refused with the status of the first check that its lowest-numbered failing entry fails, that entry's index and the other party (R110, R176), and nothing changes; one that passes is copied at once where every group is quiet (then latching nothing, the model's reading: notes/assumptions/10), and waits otherwise until they are, when MAP_ACTIVATED latches. CANCEL_MAP withdraws a pending activation alone. That a command of the map may come before a completion that is due is the model's choice (notes/assumptions/29). -/
def Obligations.MapActivationFollowsTheGroups : Prop :=
  (∀ s : State, s.awaits .activateMap → ∃ t, exec .activateMap s = .next t
      ∧ (s.map.pending = true → t = s.answeredWith .mapPending)
      ∧ (s.map.pending = false → ¬ s.shadowSound → ∃ i st y, s.failsValidation i st y)
      ∧ (∀ i st y, s.map.pending = false → s.failsValidation i st y →
          t = s.answeredBy { status := st, data := [BitVec.ofNat 8 i.val, y] })
      ∧ (s.map.pending = false → s.shadowSound →
          (s.allQuiet = true → t = { s.answeredWith .ok with map := { s.map with active := s.map.shadow } })
          ∧ (s.allQuiet = false → t = { s.answeredWith .accepted with map := { s.map with pending := true } })))
    ∧ (∀ s : State,
      (s.map.pending = true → s.allQuiet = true → ∃ t, exec .mapActivationComplete s = .next t
          ∧ t = { s with map := { s.map with active := s.map.shadow, pending := false }, alerts := t.alerts }
          ∧ t.alerts.mask = s.alerts.mask ∧ t.isLatched .mapActivated = true
          ∧ ∀ n : Nat, n < 20 → t.alerts.latched.getLsbD n = s.alerts.latched.getLsbD n)
      ∧ (s.map.pending = false ∨ s.allQuiet = false → exec .mapActivationComplete s = .next s))
    ∧ (∀ d e : DomainEntry, d.base.toNat ≤ d.limit.toNat → e.base.toNat ≤ e.limit.toNat →
      (d.meets e = true ↔ ∃ b : Block, d.base.toNat ≤ b.toNat ∧ b.toNat ≤ d.limit.toNat ∧ e.base.toNat ≤ b.toNat
        ∧ b.toNat ≤ e.limit.toNat))
    ∧ (∀ (d : DomainEntry) (c : GroupConfig), d.base.toNat ≤ d.limit.toNat → c.base.toNat % 128 = 0 →
      (d.meetsArea c = true ↔ c.slots ≠ 0 ∧ ∃ byte : Nat, c.base.toNat ≤ byte ∧ byte < c.base.toNat + 128 * c.slots
        ∧ d.base.toNat ≤ byte / 64 ∧ byte / 64 ≤ d.limit.toNat))
    ∧ ∀ s : State, s.awaits .cancelMap → exec .cancelMap s = .next (if s.map.pending = true then
        { s.answeredWith .ok with map := { s.map with pending := false } } else s.answeredWith .state)

/-- CLEAR_FAULT returns a FAULTED group to UNVERIFIED and keeps all else (R17); CLEAR_REFUSAL clears the record and the count (R130), CLEAR_STATS the six counters (R20), CLEAR_ALERTS the causes named (R170); and no cause becomes clear but by CLEAR_ALERTS, a SOFT_RESET or a device reset. -/
def Obligations.ClearingClearsItsPartAlone : Prop :=
  (∀ (s : State) (g : GroupId), s.awaits (.clearFault g) → exec .clearFault s = .next (
      if (s.group g).state = .faulted then
        { s.answeredWith .ok with groups := s.groups.set g { s.group g with state := .unverified } }
      else s.answeredWith .state))
    ∧ (∀ (s : State) (p : PortId), s.awaits (.clearRefusal p) → exec .clearRefusal s = .next
      { s.answeredWith .ok with ports := s.ports.set p { s.port p with refusal := none, refusalCount := 0 } })
    ∧ (∀ (s : State) (g : GroupId), s.awaits (.clearStats g) → exec .clearStats s = .next
      { s.answeredWith .ok with groups := s.groups.set g { s.group g with
          stats := { commits := 0, rollbacks := 0, undos := 0, recordsAppended := 0, overflowRefusals := 0,
                     holdExpiries := 0 } } })
    ∧ (∀ (s : State) (set : BitVec 21), s.awaits (.clearAlerts set) → exec .clearAlerts s = .next
      { s.answeredWith .ok with alerts := { s.alerts with latched := s.alerts.latched &&& ~~~ set } })
    ∧ ∀ (c : Instr) (s t : State) (x : Cause), exec c s = .next t → clearsCauses c = false → s.isLatched x = true →
        t.isLatched x = true

/-- SOFT_RESET (R23, R48, R106, R135, R148, R159, R167, R170, R179): every group keeps its configuration and is UNVERIFIED or DISABLED with the context of power-on; ports, channels, entries, snapshots and causes are cleared; both map copies, trigger configurations and levels, the mask and the rotation pointer stay; every transaction is orphaned; and the request stays without its response until the port's next event gives OK. That each transaction already orphaned is marked anew is the model's reading (notes/assumptions/27); that SOFT_RESET_RESPONSE with no SOFT_RESET waiting changes nothing is its choice (notes/assumptions/9). -/
def Obligations.SoftResetKeepsConfigurations : Prop :=
  (∀ s : State, s.awaits .softReset → ∃ t, exec .softReset s = .next t
      ∧ (∀ g : GroupId, (t.group g).config = (s.group g).config
          ∧ (t.group g).state = (if (s.group g).config.slots = 0 then .disabled else .unverified)
          ∧ ∀ x : GroupConfig, { t.group g with config := x, state := .disabled }
              = { State.reset.group g with config := x })
      ∧ t.table = []
      ∧ (∀ p : PortId, (t.port p).queue = [] ∧ (t.port p).refusal = none ∧ (t.port p).refusalCount = 0
          ∧ (t.port p).lastWrite = none ∧ (t.port p).channel = none ∧ (t.port p).resetPin = (s.port p).resetPin)
      ∧ t.map = { s.map with pending := false }
      ∧ (∀ n : TrigId, t.trigger n = { s.trigger n with count := 0, snapshot := none })
      ∧ t.alerts = { s.alerts with latched := 0 }
      ∧ t.mem.pointer = s.mem.pointer
      ∧ t.mem.waiting = s.mem.waiting.map (fun x => { x with orphan := .bySoftReset })
      ∧ (∀ i : PlaceId, t.mem.places[i] = s.mem.places[i].map (fun x => { x with orphan := .bySoftReset }))
      ∧ t.mgmt = { s.mgmt with resetting := true } ∧ t.emitted = s.emitted)
    ∧ (∀ s : State, s.mgmt.resetting = true → exec .softResetResponse s = .next { s with
        mgmt := { held := s.mgmt.held.map (fun h => { h with response := some { status := .ok, data := [] } }),
                  resetting := false } })
    ∧ ∀ s : State, s.mgmt.resetting = false → exec .softResetResponse s = .next s
end

