-- ==== Sys2Proof/Laws/Word.lean ====
section
/-! SUPPORT. What the collections of four do: reading after writing, mapping, constants. -/

namespace Sys2Proof

/-- Reading a collection of four after one of its things was replaced. -/
theorem Four.get_set {α : Type} (v : Four α) (i j : Fin 4) (x : α) :
    (v.set i x).get j = if j = i then x else v.get j := by
  fin_cases i <;> fin_cases j <;> rfl

@[simp] theorem Four.get_set_self {α : Type} (v : Four α) (i : Fin 4) (x : α) : (v.set i x).get i = x := by
  simp [Four.get_set]

theorem Four.get_set_ne {α : Type} (v : Four α) {i j : Fin 4} (x : α) (h : j ≠ i) :
    (v.set i x).get j = v.get j := by simp [Four.get_set, h]

@[simp] theorem Four.get_map {α β : Type} (f : α → β) (v : Four α) (i : Fin 4) : (v.map f).get i = f (v.get i) := by
  fin_cases i <;> rfl

@[simp] theorem Four.get_const {α : Type} (x : α) (i : Fin 4) : (Four.const x).get i = x := by
  fin_cases i <;> rfl

/-- Replacing a thing by itself changes nothing. -/
@[simp] theorem Four.set_get {α : Type} (v : Four α) (i : Fin 4) : v.set i (v.get i) = v := by
  fin_cases i <;> rfl

/-- Two collections of four are equal when their things are. -/
theorem Four.ext_get {α : Type} (v w : Four α) (h : ∀ i, v.get i = w.get i) : v = w := by
  cases v; cases w
  have h0 := h 0; have h1 := h 1; have h2 := h 2; have h3 := h 3
  simp_all [Four.get]

end Sys2Proof
end

