-- ==== Sys2Proof/Laws/State.lean ====
section
/-! SUPPORT. What each plain update of the state does to each field of the state, so that no proof unfolds an update. -/

namespace Sys2Proof.Machine

variable (s : State)

@[simp] theorem State.setGroup_groups (g : GroupId) (x : Group) : (s.setGroup g x).groups = s.groups.set g x := rfl
@[simp] theorem State.setGroup_table (g : GroupId) (x : Group) : (s.setGroup g x).table = s.table := rfl
@[simp] theorem State.setGroup_ports (g : GroupId) (x : Group) : (s.setGroup g x).ports = s.ports := rfl
@[simp] theorem State.setGroup_map (g : GroupId) (x : Group) : (s.setGroup g x).map = s.map := rfl
@[simp] theorem State.setGroup_mem (g : GroupId) (x : Group) : (s.setGroup g x).mem = s.mem := rfl
@[simp] theorem State.setGroup_triggers (g : GroupId) (x : Group) : (s.setGroup g x).triggers = s.triggers := rfl
@[simp] theorem State.setGroup_alerts (g : GroupId) (x : Group) : (s.setGroup g x).alerts = s.alerts := rfl
@[simp] theorem State.setGroup_mgmt (g : GroupId) (x : Group) : (s.setGroup g x).mgmt = s.mgmt := rfl
@[simp] theorem State.setGroup_resetPin (g : GroupId) (x : Group) : (s.setGroup g x).resetPin = s.resetPin := rfl
@[simp] theorem State.setGroup_emitted (g : GroupId) (x : Group) : (s.setGroup g x).emitted = s.emitted := rfl
@[simp] theorem State.setGroup_clock (g : GroupId) (x : Group) : (s.setGroup g x).clock = s.clock := rfl
@[simp] theorem State.setGroup_nextHold (g : GroupId) (x : Group) : (s.setGroup g x).nextHold = s.nextHold := rfl
@[simp] theorem State.setGroup_draws (g : GroupId) (x : Group) : (s.setGroup g x).draws = s.draws := rfl
@[simp] theorem State.setGroup_pending (g : GroupId) (x : Group) : (s.setGroup g x).pending = s.pending := rfl

@[simp] theorem State.modGroup_groups (g : GroupId) (f : Group → Group) : (s.modGroup g f).groups = s.groups.set g (f (s.group g)) := rfl
@[simp] theorem State.modGroup_table (g : GroupId) (f : Group → Group) : (s.modGroup g f).table = s.table := rfl
@[simp] theorem State.modGroup_ports (g : GroupId) (f : Group → Group) : (s.modGroup g f).ports = s.ports := rfl
@[simp] theorem State.modGroup_map (g : GroupId) (f : Group → Group) : (s.modGroup g f).map = s.map := rfl
@[simp] theorem State.modGroup_mem (g : GroupId) (f : Group → Group) : (s.modGroup g f).mem = s.mem := rfl
@[simp] theorem State.modGroup_triggers (g : GroupId) (f : Group → Group) : (s.modGroup g f).triggers = s.triggers := rfl
@[simp] theorem State.modGroup_alerts (g : GroupId) (f : Group → Group) : (s.modGroup g f).alerts = s.alerts := rfl
@[simp] theorem State.modGroup_mgmt (g : GroupId) (f : Group → Group) : (s.modGroup g f).mgmt = s.mgmt := rfl
@[simp] theorem State.modGroup_resetPin (g : GroupId) (f : Group → Group) : (s.modGroup g f).resetPin = s.resetPin := rfl
@[simp] theorem State.modGroup_emitted (g : GroupId) (f : Group → Group) : (s.modGroup g f).emitted = s.emitted := rfl
@[simp] theorem State.modGroup_clock (g : GroupId) (f : Group → Group) : (s.modGroup g f).clock = s.clock := rfl
@[simp] theorem State.modGroup_nextHold (g : GroupId) (f : Group → Group) : (s.modGroup g f).nextHold = s.nextHold := rfl
@[simp] theorem State.modGroup_draws (g : GroupId) (f : Group → Group) : (s.modGroup g f).draws = s.draws := rfl
@[simp] theorem State.modGroup_pending (g : GroupId) (f : Group → Group) : (s.modGroup g f).pending = s.pending := rfl

@[simp] theorem State.setPort_groups (p : PortId) (x : Port) : (s.setPort p x).groups = s.groups := rfl
@[simp] theorem State.setPort_table (p : PortId) (x : Port) : (s.setPort p x).table = s.table := rfl
@[simp] theorem State.setPort_ports (p : PortId) (x : Port) : (s.setPort p x).ports = s.ports.set p x := rfl
@[simp] theorem State.setPort_map (p : PortId) (x : Port) : (s.setPort p x).map = s.map := rfl
@[simp] theorem State.setPort_mem (p : PortId) (x : Port) : (s.setPort p x).mem = s.mem := rfl
@[simp] theorem State.setPort_triggers (p : PortId) (x : Port) : (s.setPort p x).triggers = s.triggers := rfl
@[simp] theorem State.setPort_alerts (p : PortId) (x : Port) : (s.setPort p x).alerts = s.alerts := rfl
@[simp] theorem State.setPort_mgmt (p : PortId) (x : Port) : (s.setPort p x).mgmt = s.mgmt := rfl
@[simp] theorem State.setPort_resetPin (p : PortId) (x : Port) : (s.setPort p x).resetPin = s.resetPin := rfl
@[simp] theorem State.setPort_emitted (p : PortId) (x : Port) : (s.setPort p x).emitted = s.emitted := rfl
@[simp] theorem State.setPort_clock (p : PortId) (x : Port) : (s.setPort p x).clock = s.clock := rfl
@[simp] theorem State.setPort_nextHold (p : PortId) (x : Port) : (s.setPort p x).nextHold = s.nextHold := rfl
@[simp] theorem State.setPort_draws (p : PortId) (x : Port) : (s.setPort p x).draws = s.draws := rfl
@[simp] theorem State.setPort_pending (p : PortId) (x : Port) : (s.setPort p x).pending = s.pending := rfl

@[simp] theorem State.modPort_groups (p : PortId) (f : Port → Port) : (s.modPort p f).groups = s.groups := rfl
@[simp] theorem State.modPort_table (p : PortId) (f : Port → Port) : (s.modPort p f).table = s.table := rfl
@[simp] theorem State.modPort_ports (p : PortId) (f : Port → Port) : (s.modPort p f).ports = s.ports.set p (f (s.port p)) := rfl
@[simp] theorem State.modPort_map (p : PortId) (f : Port → Port) : (s.modPort p f).map = s.map := rfl
@[simp] theorem State.modPort_mem (p : PortId) (f : Port → Port) : (s.modPort p f).mem = s.mem := rfl
@[simp] theorem State.modPort_triggers (p : PortId) (f : Port → Port) : (s.modPort p f).triggers = s.triggers := rfl
@[simp] theorem State.modPort_alerts (p : PortId) (f : Port → Port) : (s.modPort p f).alerts = s.alerts := rfl
@[simp] theorem State.modPort_mgmt (p : PortId) (f : Port → Port) : (s.modPort p f).mgmt = s.mgmt := rfl
@[simp] theorem State.modPort_resetPin (p : PortId) (f : Port → Port) : (s.modPort p f).resetPin = s.resetPin := rfl
@[simp] theorem State.modPort_emitted (p : PortId) (f : Port → Port) : (s.modPort p f).emitted = s.emitted := rfl
@[simp] theorem State.modPort_clock (p : PortId) (f : Port → Port) : (s.modPort p f).clock = s.clock := rfl
@[simp] theorem State.modPort_nextHold (p : PortId) (f : Port → Port) : (s.modPort p f).nextHold = s.nextHold := rfl
@[simp] theorem State.modPort_draws (p : PortId) (f : Port → Port) : (s.modPort p f).draws = s.draws := rfl
@[simp] theorem State.modPort_pending (p : PortId) (f : Port → Port) : (s.modPort p f).pending = s.pending := rfl

@[simp] theorem State.latch_groups (c : Cause) : (s.latch c).groups = s.groups := rfl
@[simp] theorem State.latch_table (c : Cause) : (s.latch c).table = s.table := rfl
@[simp] theorem State.latch_ports (c : Cause) : (s.latch c).ports = s.ports := rfl
@[simp] theorem State.latch_map (c : Cause) : (s.latch c).map = s.map := rfl
@[simp] theorem State.latch_mem (c : Cause) : (s.latch c).mem = s.mem := rfl
@[simp] theorem State.latch_triggers (c : Cause) : (s.latch c).triggers = s.triggers := rfl
@[simp] theorem State.latch_alerts (c : Cause) : (s.latch c).alerts = { s.alerts with latched := s.alerts.latched ||| c.flag } := rfl
@[simp] theorem State.latch_mgmt (c : Cause) : (s.latch c).mgmt = s.mgmt := rfl
@[simp] theorem State.latch_resetPin (c : Cause) : (s.latch c).resetPin = s.resetPin := rfl
@[simp] theorem State.latch_emitted (c : Cause) : (s.latch c).emitted = s.emitted := rfl
@[simp] theorem State.latch_clock (c : Cause) : (s.latch c).clock = s.clock := rfl
@[simp] theorem State.latch_nextHold (c : Cause) : (s.latch c).nextHold = s.nextHold := rfl
@[simp] theorem State.latch_draws (c : Cause) : (s.latch c).draws = s.draws := rfl
@[simp] theorem State.latch_pending (c : Cause) : (s.latch c).pending = s.pending := rfl

@[simp] theorem State.clearCauses_groups (c : BitVec 21) : (s.clearCauses c).groups = s.groups := rfl
@[simp] theorem State.clearCauses_table (c : BitVec 21) : (s.clearCauses c).table = s.table := rfl
@[simp] theorem State.clearCauses_ports (c : BitVec 21) : (s.clearCauses c).ports = s.ports := rfl
@[simp] theorem State.clearCauses_map (c : BitVec 21) : (s.clearCauses c).map = s.map := rfl
@[simp] theorem State.clearCauses_mem (c : BitVec 21) : (s.clearCauses c).mem = s.mem := rfl
@[simp] theorem State.clearCauses_triggers (c : BitVec 21) : (s.clearCauses c).triggers = s.triggers := rfl
@[simp] theorem State.clearCauses_alerts (c : BitVec 21) : (s.clearCauses c).alerts = { s.alerts with latched := s.alerts.latched &&& ~~~ c } := rfl
@[simp] theorem State.clearCauses_mgmt (c : BitVec 21) : (s.clearCauses c).mgmt = s.mgmt := rfl
@[simp] theorem State.clearCauses_resetPin (c : BitVec 21) : (s.clearCauses c).resetPin = s.resetPin := rfl
@[simp] theorem State.clearCauses_emitted (c : BitVec 21) : (s.clearCauses c).emitted = s.emitted := rfl
@[simp] theorem State.clearCauses_clock (c : BitVec 21) : (s.clearCauses c).clock = s.clock := rfl
@[simp] theorem State.clearCauses_nextHold (c : BitVec 21) : (s.clearCauses c).nextHold = s.nextHold := rfl
@[simp] theorem State.clearCauses_draws (c : BitVec 21) : (s.clearCauses c).draws = s.draws := rfl
@[simp] theorem State.clearCauses_pending (c : BitVec 21) : (s.clearCauses c).pending = s.pending := rfl

@[simp] theorem State.emit_groups (e : Emission) : (s.emit e).groups = s.groups := rfl
@[simp] theorem State.emit_table (e : Emission) : (s.emit e).table = s.table := rfl
@[simp] theorem State.emit_ports (e : Emission) : (s.emit e).ports = s.ports := rfl
@[simp] theorem State.emit_map (e : Emission) : (s.emit e).map = s.map := rfl
@[simp] theorem State.emit_mem (e : Emission) : (s.emit e).mem = s.mem := rfl
@[simp] theorem State.emit_triggers (e : Emission) : (s.emit e).triggers = s.triggers := rfl
@[simp] theorem State.emit_alerts (e : Emission) : (s.emit e).alerts = s.alerts := rfl
@[simp] theorem State.emit_mgmt (e : Emission) : (s.emit e).mgmt = s.mgmt := rfl
@[simp] theorem State.emit_resetPin (e : Emission) : (s.emit e).resetPin = s.resetPin := rfl
@[simp] theorem State.emit_emitted (e : Emission) : (s.emit e).emitted = s.emitted ++ [e] := rfl
@[simp] theorem State.emit_clock (e : Emission) : (s.emit e).clock = s.clock := rfl
@[simp] theorem State.emit_nextHold (e : Emission) : (s.emit e).nextHold = s.nextHold := rfl
@[simp] theorem State.emit_draws (e : Emission) : (s.emit e).draws = s.draws := rfl
@[simp] theorem State.emit_pending (e : Emission) : (s.emit e).pending = s.pending := rfl

@[simp] theorem State.tick_groups : (s.tick).groups = s.groups := rfl
@[simp] theorem State.tick_table : (s.tick).table = s.table := rfl
@[simp] theorem State.tick_ports : (s.tick).ports = s.ports := rfl
@[simp] theorem State.tick_map : (s.tick).map = s.map := rfl
@[simp] theorem State.tick_mem : (s.tick).mem = s.mem := rfl
@[simp] theorem State.tick_triggers : (s.tick).triggers = s.triggers := rfl
@[simp] theorem State.tick_alerts : (s.tick).alerts = s.alerts := rfl
@[simp] theorem State.tick_mgmt : (s.tick).mgmt = s.mgmt := rfl
@[simp] theorem State.tick_resetPin : (s.tick).resetPin = s.resetPin := rfl
@[simp] theorem State.tick_emitted : (s.tick).emitted = s.emitted := rfl
@[simp] theorem State.tick_clock : (s.tick).clock = s.clock + 1 := rfl
@[simp] theorem State.tick_nextHold : (s.tick).nextHold = s.nextHold := rfl
@[simp] theorem State.tick_draws : (s.tick).draws = s.draws := rfl
@[simp] theorem State.tick_pending : (s.tick).pending = s.pending := rfl

@[simp] theorem State.drawn_groups : (s.drawn).groups = s.groups := rfl
@[simp] theorem State.drawn_table : (s.drawn).table = s.table := rfl
@[simp] theorem State.drawn_ports : (s.drawn).ports = s.ports := rfl
@[simp] theorem State.drawn_map : (s.drawn).map = s.map := rfl
@[simp] theorem State.drawn_mem : (s.drawn).mem = s.mem := rfl
@[simp] theorem State.drawn_triggers : (s.drawn).triggers = s.triggers := rfl
@[simp] theorem State.drawn_alerts : (s.drawn).alerts = s.alerts := rfl
@[simp] theorem State.drawn_mgmt : (s.drawn).mgmt = s.mgmt := rfl
@[simp] theorem State.drawn_resetPin : (s.drawn).resetPin = s.resetPin := rfl
@[simp] theorem State.drawn_emitted : (s.drawn).emitted = s.emitted := rfl
@[simp] theorem State.drawn_clock : (s.drawn).clock = s.clock := rfl
@[simp] theorem State.drawn_nextHold : (s.drawn).nextHold = s.nextHold := rfl
@[simp] theorem State.drawn_draws : (s.drawn).draws = s.draws + 1 := rfl
@[simp] theorem State.drawn_pending : (s.drawn).pending = s.pending := rfl

@[simp] theorem State.setTable_groups (l : List TrackEntry) : (s.setTable l).groups = s.groups := rfl
@[simp] theorem State.setTable_table (l : List TrackEntry) : (s.setTable l).table = l := rfl
@[simp] theorem State.setTable_ports (l : List TrackEntry) : (s.setTable l).ports = s.ports := rfl
@[simp] theorem State.setTable_map (l : List TrackEntry) : (s.setTable l).map = s.map := rfl
@[simp] theorem State.setTable_mem (l : List TrackEntry) : (s.setTable l).mem = s.mem := rfl
@[simp] theorem State.setTable_triggers (l : List TrackEntry) : (s.setTable l).triggers = s.triggers := rfl
@[simp] theorem State.setTable_alerts (l : List TrackEntry) : (s.setTable l).alerts = s.alerts := rfl
@[simp] theorem State.setTable_mgmt (l : List TrackEntry) : (s.setTable l).mgmt = s.mgmt := rfl
@[simp] theorem State.setTable_resetPin (l : List TrackEntry) : (s.setTable l).resetPin = s.resetPin := rfl
@[simp] theorem State.setTable_emitted (l : List TrackEntry) : (s.setTable l).emitted = s.emitted := rfl
@[simp] theorem State.setTable_clock (l : List TrackEntry) : (s.setTable l).clock = s.clock := rfl
@[simp] theorem State.setTable_nextHold (l : List TrackEntry) : (s.setTable l).nextHold = s.nextHold := rfl
@[simp] theorem State.setTable_draws (l : List TrackEntry) : (s.setTable l).draws = s.draws := rfl
@[simp] theorem State.setTable_pending (l : List TrackEntry) : (s.setTable l).pending = s.pending := rfl

@[simp] theorem State.handOn_groups (x : Txn) : (s.handOn x).groups = s.groups := rfl
@[simp] theorem State.handOn_table (x : Txn) : (s.handOn x).table = s.table := rfl
@[simp] theorem State.handOn_ports (x : Txn) : (s.handOn x).ports = s.ports := rfl
@[simp] theorem State.handOn_map (x : Txn) : (s.handOn x).map = s.map := rfl
@[simp] theorem State.handOn_mem (x : Txn) : (s.handOn x).mem = { s.mem with waiting := s.mem.waiting ++ [{ x with stamp := s.clock }] } := rfl
@[simp] theorem State.handOn_triggers (x : Txn) : (s.handOn x).triggers = s.triggers := rfl
@[simp] theorem State.handOn_alerts (x : Txn) : (s.handOn x).alerts = s.alerts := rfl
@[simp] theorem State.handOn_mgmt (x : Txn) : (s.handOn x).mgmt = s.mgmt := rfl
@[simp] theorem State.handOn_resetPin (x : Txn) : (s.handOn x).resetPin = s.resetPin := rfl
@[simp] theorem State.handOn_emitted (x : Txn) : (s.handOn x).emitted = s.emitted := rfl
@[simp] theorem State.handOn_clock (x : Txn) : (s.handOn x).clock = s.clock := rfl
@[simp] theorem State.handOn_nextHold (x : Txn) : (s.handOn x).nextHold = s.nextHold := rfl
@[simp] theorem State.handOn_draws (x : Txn) : (s.handOn x).draws = s.draws := rfl
@[simp] theorem State.handOn_pending (x : Txn) : (s.handOn x).pending = s.pending := rfl

@[simp] theorem State.mapTxns_groups (f : Txn → Txn) : (s.mapTxns f).groups = s.groups := rfl
@[simp] theorem State.mapTxns_table (f : Txn → Txn) : (s.mapTxns f).table = s.table := rfl
@[simp] theorem State.mapTxns_ports (f : Txn → Txn) : (s.mapTxns f).ports = s.ports := rfl
@[simp] theorem State.mapTxns_map (f : Txn → Txn) : (s.mapTxns f).map = s.map := rfl
@[simp] theorem State.mapTxns_mem (f : Txn → Txn) : (s.mapTxns f).mem = { s.mem with waiting := s.mem.waiting.map f, places := s.mem.places.map (fun o => o.map f) } := rfl
@[simp] theorem State.mapTxns_triggers (f : Txn → Txn) : (s.mapTxns f).triggers = s.triggers := rfl
@[simp] theorem State.mapTxns_alerts (f : Txn → Txn) : (s.mapTxns f).alerts = s.alerts := rfl
@[simp] theorem State.mapTxns_mgmt (f : Txn → Txn) : (s.mapTxns f).mgmt = s.mgmt := rfl
@[simp] theorem State.mapTxns_resetPin (f : Txn → Txn) : (s.mapTxns f).resetPin = s.resetPin := rfl
@[simp] theorem State.mapTxns_emitted (f : Txn → Txn) : (s.mapTxns f).emitted = s.emitted := rfl
@[simp] theorem State.mapTxns_clock (f : Txn → Txn) : (s.mapTxns f).clock = s.clock := rfl
@[simp] theorem State.mapTxns_nextHold (f : Txn → Txn) : (s.mapTxns f).nextHold = s.nextHold := rfl
@[simp] theorem State.mapTxns_draws (f : Txn → Txn) : (s.mapTxns f).draws = s.draws := rfl
@[simp] theorem State.mapTxns_pending (f : Txn → Txn) : (s.mapTxns f).pending = s.pending := rfl

@[simp] theorem State.freePlace_groups (i : PlaceId) : (s.freePlace i).groups = s.groups := rfl
@[simp] theorem State.freePlace_table (i : PlaceId) : (s.freePlace i).table = s.table := rfl
@[simp] theorem State.freePlace_ports (i : PlaceId) : (s.freePlace i).ports = s.ports := rfl
@[simp] theorem State.freePlace_map (i : PlaceId) : (s.freePlace i).map = s.map := rfl
@[simp] theorem State.freePlace_mem (i : PlaceId) : (s.freePlace i).mem = { s.mem with places := s.mem.places.set i none } := rfl
@[simp] theorem State.freePlace_triggers (i : PlaceId) : (s.freePlace i).triggers = s.triggers := rfl
@[simp] theorem State.freePlace_alerts (i : PlaceId) : (s.freePlace i).alerts = s.alerts := rfl
@[simp] theorem State.freePlace_mgmt (i : PlaceId) : (s.freePlace i).mgmt = s.mgmt := rfl
@[simp] theorem State.freePlace_resetPin (i : PlaceId) : (s.freePlace i).resetPin = s.resetPin := rfl
@[simp] theorem State.freePlace_emitted (i : PlaceId) : (s.freePlace i).emitted = s.emitted := rfl
@[simp] theorem State.freePlace_clock (i : PlaceId) : (s.freePlace i).clock = s.clock := rfl
@[simp] theorem State.freePlace_nextHold (i : PlaceId) : (s.freePlace i).nextHold = s.nextHold := rfl
@[simp] theorem State.freePlace_draws (i : PlaceId) : (s.freePlace i).draws = s.draws := rfl
@[simp] theorem State.freePlace_pending (i : PlaceId) : (s.freePlace i).pending = s.pending := rfl

@[simp] theorem State.modTrigger_groups (n : TrigId) (f : Trigger → Trigger) : (s.modTrigger n f).groups = s.groups := rfl
@[simp] theorem State.modTrigger_table (n : TrigId) (f : Trigger → Trigger) : (s.modTrigger n f).table = s.table := rfl
@[simp] theorem State.modTrigger_ports (n : TrigId) (f : Trigger → Trigger) : (s.modTrigger n f).ports = s.ports := rfl
@[simp] theorem State.modTrigger_map (n : TrigId) (f : Trigger → Trigger) : (s.modTrigger n f).map = s.map := rfl
@[simp] theorem State.modTrigger_mem (n : TrigId) (f : Trigger → Trigger) : (s.modTrigger n f).mem = s.mem := rfl
@[simp] theorem State.modTrigger_triggers (n : TrigId) (f : Trigger → Trigger) : (s.modTrigger n f).triggers = s.triggers.set n (f (s.trigger n)) := rfl
@[simp] theorem State.modTrigger_alerts (n : TrigId) (f : Trigger → Trigger) : (s.modTrigger n f).alerts = s.alerts := rfl
@[simp] theorem State.modTrigger_mgmt (n : TrigId) (f : Trigger → Trigger) : (s.modTrigger n f).mgmt = s.mgmt := rfl
@[simp] theorem State.modTrigger_resetPin (n : TrigId) (f : Trigger → Trigger) : (s.modTrigger n f).resetPin = s.resetPin := rfl
@[simp] theorem State.modTrigger_emitted (n : TrigId) (f : Trigger → Trigger) : (s.modTrigger n f).emitted = s.emitted := rfl
@[simp] theorem State.modTrigger_clock (n : TrigId) (f : Trigger → Trigger) : (s.modTrigger n f).clock = s.clock := rfl
@[simp] theorem State.modTrigger_nextHold (n : TrigId) (f : Trigger → Trigger) : (s.modTrigger n f).nextHold = s.nextHold := rfl
@[simp] theorem State.modTrigger_draws (n : TrigId) (f : Trigger → Trigger) : (s.modTrigger n f).draws = s.draws := rfl
@[simp] theorem State.modTrigger_pending (n : TrigId) (f : Trigger → Trigger) : (s.modTrigger n f).pending = s.pending := rfl

@[simp] theorem State.modMgmt_groups (f : Mgmt → Mgmt) : (s.modMgmt f).groups = s.groups := rfl
@[simp] theorem State.modMgmt_table (f : Mgmt → Mgmt) : (s.modMgmt f).table = s.table := rfl
@[simp] theorem State.modMgmt_ports (f : Mgmt → Mgmt) : (s.modMgmt f).ports = s.ports := rfl
@[simp] theorem State.modMgmt_map (f : Mgmt → Mgmt) : (s.modMgmt f).map = s.map := rfl
@[simp] theorem State.modMgmt_mem (f : Mgmt → Mgmt) : (s.modMgmt f).mem = s.mem := rfl
@[simp] theorem State.modMgmt_triggers (f : Mgmt → Mgmt) : (s.modMgmt f).triggers = s.triggers := rfl
@[simp] theorem State.modMgmt_alerts (f : Mgmt → Mgmt) : (s.modMgmt f).alerts = s.alerts := rfl
@[simp] theorem State.modMgmt_mgmt (f : Mgmt → Mgmt) : (s.modMgmt f).mgmt = f s.mgmt := rfl
@[simp] theorem State.modMgmt_resetPin (f : Mgmt → Mgmt) : (s.modMgmt f).resetPin = s.resetPin := rfl
@[simp] theorem State.modMgmt_emitted (f : Mgmt → Mgmt) : (s.modMgmt f).emitted = s.emitted := rfl
@[simp] theorem State.modMgmt_clock (f : Mgmt → Mgmt) : (s.modMgmt f).clock = s.clock := rfl
@[simp] theorem State.modMgmt_nextHold (f : Mgmt → Mgmt) : (s.modMgmt f).nextHold = s.nextHold := rfl
@[simp] theorem State.modMgmt_draws (f : Mgmt → Mgmt) : (s.modMgmt f).draws = s.draws := rfl
@[simp] theorem State.modMgmt_pending (f : Mgmt → Mgmt) : (s.modMgmt f).pending = s.pending := rfl

/-! ### Reading a group or a port after an update -/

@[simp] theorem State.setGroup_port (g : GroupId) (x : Group) (q : PortId) : (s.setGroup g x).port q = s.port q := rfl
@[simp] theorem State.setGroup_trigger (g : GroupId) (x : Group) (m : TrigId) : (s.setGroup g x).trigger m = s.trigger m := rfl
@[simp] theorem State.modGroup_port (g : GroupId) (f : Group → Group) (q : PortId) : (s.modGroup g f).port q = s.port q := rfl
@[simp] theorem State.modGroup_trigger (g : GroupId) (f : Group → Group) (m : TrigId) : (s.modGroup g f).trigger m = s.trigger m := rfl
@[simp] theorem State.setPort_group (p : PortId) (x : Port) (k : GroupId) : (s.setPort p x).group k = s.group k := rfl
@[simp] theorem State.setPort_trigger (p : PortId) (x : Port) (m : TrigId) : (s.setPort p x).trigger m = s.trigger m := rfl
@[simp] theorem State.modPort_group (p : PortId) (f : Port → Port) (k : GroupId) : (s.modPort p f).group k = s.group k := rfl
@[simp] theorem State.modPort_trigger (p : PortId) (f : Port → Port) (m : TrigId) : (s.modPort p f).trigger m = s.trigger m := rfl
@[simp] theorem State.latch_group (c : Cause) (k : GroupId) : (s.latch c).group k = s.group k := rfl
@[simp] theorem State.latch_port (c : Cause) (q : PortId) : (s.latch c).port q = s.port q := rfl
@[simp] theorem State.latch_trigger (c : Cause) (m : TrigId) : (s.latch c).trigger m = s.trigger m := rfl
@[simp] theorem State.clearCauses_group (c : BitVec 21) (k : GroupId) : (s.clearCauses c).group k = s.group k := rfl
@[simp] theorem State.clearCauses_port (c : BitVec 21) (q : PortId) : (s.clearCauses c).port q = s.port q := rfl
@[simp] theorem State.clearCauses_trigger (c : BitVec 21) (m : TrigId) : (s.clearCauses c).trigger m = s.trigger m := rfl
@[simp] theorem State.emit_group (e : Emission) (k : GroupId) : (s.emit e).group k = s.group k := rfl
@[simp] theorem State.emit_port (e : Emission) (q : PortId) : (s.emit e).port q = s.port q := rfl
@[simp] theorem State.emit_trigger (e : Emission) (m : TrigId) : (s.emit e).trigger m = s.trigger m := rfl
@[simp] theorem State.tick_group (k : GroupId) : (s.tick).group k = s.group k := rfl
@[simp] theorem State.tick_port (q : PortId) : (s.tick).port q = s.port q := rfl
@[simp] theorem State.tick_trigger (m : TrigId) : (s.tick).trigger m = s.trigger m := rfl
@[simp] theorem State.drawn_group (k : GroupId) : (s.drawn).group k = s.group k := rfl
@[simp] theorem State.drawn_port (q : PortId) : (s.drawn).port q = s.port q := rfl
@[simp] theorem State.drawn_trigger (m : TrigId) : (s.drawn).trigger m = s.trigger m := rfl
@[simp] theorem State.setTable_group (l : List TrackEntry) (k : GroupId) : (s.setTable l).group k = s.group k := rfl
@[simp] theorem State.setTable_port (l : List TrackEntry) (q : PortId) : (s.setTable l).port q = s.port q := rfl
@[simp] theorem State.setTable_trigger (l : List TrackEntry) (m : TrigId) : (s.setTable l).trigger m = s.trigger m := rfl
@[simp] theorem State.handOn_group (x : Txn) (k : GroupId) : (s.handOn x).group k = s.group k := rfl
@[simp] theorem State.handOn_port (x : Txn) (q : PortId) : (s.handOn x).port q = s.port q := rfl
@[simp] theorem State.handOn_trigger (x : Txn) (m : TrigId) : (s.handOn x).trigger m = s.trigger m := rfl
@[simp] theorem State.mapTxns_group (f : Txn → Txn) (k : GroupId) : (s.mapTxns f).group k = s.group k := rfl
@[simp] theorem State.mapTxns_port (f : Txn → Txn) (q : PortId) : (s.mapTxns f).port q = s.port q := rfl
@[simp] theorem State.mapTxns_trigger (f : Txn → Txn) (m : TrigId) : (s.mapTxns f).trigger m = s.trigger m := rfl
@[simp] theorem State.freePlace_group (i : PlaceId) (k : GroupId) : (s.freePlace i).group k = s.group k := rfl
@[simp] theorem State.freePlace_port (i : PlaceId) (q : PortId) : (s.freePlace i).port q = s.port q := rfl
@[simp] theorem State.freePlace_trigger (i : PlaceId) (m : TrigId) : (s.freePlace i).trigger m = s.trigger m := rfl
@[simp] theorem State.modTrigger_group (n : TrigId) (f : Trigger → Trigger) (k : GroupId) : (s.modTrigger n f).group k = s.group k := rfl
@[simp] theorem State.modTrigger_port (n : TrigId) (f : Trigger → Trigger) (q : PortId) : (s.modTrigger n f).port q = s.port q := rfl
@[simp] theorem State.modMgmt_group (f : Mgmt → Mgmt) (k : GroupId) : (s.modMgmt f).group k = s.group k := rfl
@[simp] theorem State.modMgmt_port (f : Mgmt → Mgmt) (q : PortId) : (s.modMgmt f).port q = s.port q := rfl
@[simp] theorem State.modMgmt_trigger (f : Mgmt → Mgmt) (m : TrigId) : (s.modMgmt f).trigger m = s.trigger m := rfl

theorem State.setGroup_group (g : GroupId) (x : Group) (k : GroupId) :
    (s.setGroup g x).group k = if k = g then x else s.group k := Four.get_set _ _ _ _

theorem State.modGroup_group (g : GroupId) (f : Group → Group) (k : GroupId) :
    (s.modGroup g f).group k = if k = g then f (s.group g) else s.group k := Four.get_set _ _ _ _

@[simp] theorem State.modGroup_group_self (g : GroupId) (f : Group → Group) :
    (s.modGroup g f).group g = f (s.group g) := by simp [State.modGroup_group]

theorem State.setPort_port (p : PortId) (x : Port) (q : PortId) :
    (s.setPort p x).port q = if q = p then x else s.port q := Four.get_set _ _ _ _

theorem State.modPort_port (p : PortId) (f : Port → Port) (q : PortId) :
    (s.modPort p f).port q = if q = p then f (s.port p) else s.port q := Four.get_set _ _ _ _

@[simp] theorem State.modPort_port_self (p : PortId) (f : Port → Port) :
    (s.modPort p f).port p = f (s.port p) := by simp [State.modPort_port]

theorem State.modTrigger_trigger (n : TrigId) (f : Trigger → Trigger) (m : TrigId) :
    (s.modTrigger n f).trigger m = if m = n then f (s.trigger n) else s.trigger m := Four.get_set _ _ _ _

end Sys2Proof.Machine
end

