-- ==== Sys2Proof/Laws/Table.lean ====
section
/-! SUPPORT. The tracking table as a canonical list: finding, putting and dropping entries, and that every table operation keeps the rising order and the capacity. -/

namespace Sys2Proof.Machine

/-- The rising order of block addresses (R24). -/
def sortedTable (l : List TrackEntry) : Prop := l.Pairwise (fun x y => x.block < y.block)

/-- The table is in rising order and within its capacity. -/
def tableOk (l : List TrackEntry) : Prop := sortedTable l ∧ l.length ≤ tableCapacity

theorem sortedTable_nil : sortedTable [] := List.Pairwise.nil

theorem tableOk_nil : tableOk [] := ⟨sortedTable_nil, by simp⟩

/-! ### Finding -/

theorem findEntry_block {l : List TrackEntry} {b : Block} {e : TrackEntry} (h : findEntry l b = some e) :
    e.block = b := by
  have := List.find?_some h
  simpa using this

theorem findEntry_mem {l : List TrackEntry} {b : Block} {e : TrackEntry} (h : findEntry l b = some e) : e ∈ l :=
  List.mem_of_find?_eq_some h

@[simp] theorem findEntry_nil (b : Block) : findEntry [] b = none := rfl

theorem findEntry_cons (x : TrackEntry) (l : List TrackEntry) (b : Block) :
    findEntry (x :: l) b = if x.block = b then some x else findEntry l b := by
  unfold findEntry
  by_cases h : x.block = b <;> simp [h]

theorem findEntry_eq_none {l : List TrackEntry} {b : Block} : findEntry l b = none ↔ ∀ e ∈ l, e.block ≠ b := by
  simp [findEntry]

/-! ### Putting -/

theorem mem_putEntry {e y : TrackEntry} {l : List TrackEntry} (h : y ∈ putEntry e l) : y = e ∨ y ∈ l := by
  induction l with
  | nil => simpa [putEntry] using h
  | cons x l ih =>
    unfold putEntry at h
    split at h
    · simpa using h
    · split at h
      · rcases List.mem_cons.mp h with h | h
        · exact .inl h
        · exact .inr (List.mem_cons_of_mem _ h)
      · rcases List.mem_cons.mp h with h | h
        · exact .inr (h ▸ List.mem_cons_self)
        · exact (ih h).imp_right (List.mem_cons_of_mem _)

theorem sortedTable_putEntry (e : TrackEntry) {l : List TrackEntry} (h : sortedTable l) :
    sortedTable (putEntry e l) := by
  induction l with
  | nil => simp [putEntry, sortedTable]
  | cons x l ih =>
    have ⟨hx, hl⟩ := List.pairwise_cons.mp h
    unfold putEntry
    split
    · next hlt =>
      refine List.pairwise_cons.mpr ⟨?_, h⟩
      intro y hy
      rcases List.mem_cons.mp hy with hy | hy
      · exact hy ▸ hlt
      · exact BitVec.lt_trans hlt (hx y hy)
    · next hnlt =>
      split
      · next heq => exact List.pairwise_cons.mpr ⟨fun y hy => heq ▸ hx y hy, hl⟩
      · next hne =>
        refine List.pairwise_cons.mpr ⟨fun y hy => ?_, ih hl⟩
        rcases mem_putEntry hy with hy | hy
        · subst hy
          bv_omega
        · exact hx y hy

theorem findEntry_putEntry (e : TrackEntry) {l : List TrackEntry} (h : sortedTable l) (b : Block) :
    findEntry (putEntry e l) b = if e.block = b then some e else findEntry l b := by
  induction l with
  | nil => simp [putEntry, findEntry_cons]
  | cons x l ih =>
    have ⟨hx, hl⟩ := List.pairwise_cons.mp h
    unfold putEntry
    split
    · simp [findEntry_cons]
    · split
      · next heq => simp only [findEntry_cons]; split <;> simp_all
      · next hne =>
        simp only [findEntry_cons, ih hl]
        split
        · next hxb => simp [← hxb, hne]
        · rfl

theorem length_putEntry_le (e : TrackEntry) (l : List TrackEntry) : (putEntry e l).length ≤ l.length + 1 := by
  induction l with
  | nil => simp [putEntry]
  | cons x l ih =>
    unfold putEntry
    split
    · simp
    · split
      · simp
      · simpa using ih

theorem length_putEntry_of_found {e f : TrackEntry} {l : List TrackEntry} (h : sortedTable l)
    (hf : findEntry l e.block = some f) : (putEntry e l).length = l.length := by
  induction l with
  | nil => simp at hf
  | cons x l ih =>
    have ⟨hx, hl⟩ := List.pairwise_cons.mp h
    unfold putEntry
    split
    · next hlt =>
      exfalso
      rw [findEntry_cons] at hf
      split at hf
      · next he => rw [he] at hlt; exact absurd hlt (BitVec.lt_irrefl _)
      · have := findEntry_mem hf
        have h1 := hx f this
        have h2 := findEntry_block hf
        rw [h2] at h1
        exact absurd (BitVec.lt_trans hlt h1) (BitVec.lt_irrefl _)
    · split
      · simp
      · next hne =>
        rw [findEntry_cons, if_neg (fun he => hne he.symm)] at hf
        simpa using ih hl hf

/-- Putting an entry of a block that has one keeps the table in order and within its capacity. -/
theorem tableOk_putEntry_of_found {e f : TrackEntry} {l : List TrackEntry} (h : tableOk l)
    (hf : findEntry l e.block = some f) : tableOk (putEntry e l) :=
  ⟨sortedTable_putEntry e h.1, by rw [length_putEntry_of_found h.1 hf]; exact h.2⟩

/-- Putting an entry into a table that is not full keeps it in order and within its capacity. -/
theorem tableOk_putEntry_of_room (e : TrackEntry) {l : List TrackEntry} (h : sortedTable l)
    (hl : l.length < tableCapacity) : tableOk (putEntry e l) :=
  ⟨sortedTable_putEntry e h, (length_putEntry_le e l).trans hl⟩

/-! ### Dropping and changing waiting lists -/

theorem tableOk_filter {l : List TrackEntry} (h : tableOk l) (f : TrackEntry → Bool) : tableOk (l.filter f) :=
  ⟨h.1.filter _, (List.length_filter_le f l).trans h.2⟩

theorem tableOk_dropGroup {l : List TrackEntry} (h : tableOk l) (g : GroupId) : tableOk (dropGroup g l) :=
  tableOk_filter h _

theorem tableOk_dropEntry {l : List TrackEntry} (h : tableOk l) (b : Block) : tableOk (dropEntry b l) :=
  tableOk_filter h _

theorem tableOk_leaveWaiters {l : List TrackEntry} (h : tableOk l) (p : PortId) : tableOk (leaveWaiters p l) := by
  refine ⟨?_, by simpa [leaveWaiters] using h.2⟩
  unfold leaveWaiters sortedTable
  rw [List.pairwise_map]
  exact h.1

theorem tableOk_acknowledgeEntry {l : List TrackEntry} (h : tableOk l) (b : Block) (n : Nat) :
    tableOk (acknowledgeEntry b n l) := by
  unfold acknowledgeEntry
  split
  · exact h
  · next e he => exact tableOk_putEntry_of_found (f := e) h (by rw [← he]; simp [TrackEntry.acknowledged, findEntry_block he])

theorem tableOk_failEntry {l : List TrackEntry} (h : tableOk l) (b : Block) (prior : Option Nat) :
    tableOk (failEntry b prior l) := by
  unfold failEntry
  split
  · exact tableOk_dropEntry h b
  · exact h
  · next e he => exact tableOk_putEntry_of_found (f := e) h (by rw [← he]; simp [TrackEntry.acknowledged, findEntry_block he])

theorem tableOk_joinWaiters {l : List TrackEntry} (h : tableOk l) (b : Block) (p : PortId) :
    tableOk (joinWaiters b p l) := by
  unfold joinWaiters
  split
  · exact h
  · next e he => exact tableOk_putEntry_of_found (f := e) h (by rw [← he]; simp [findEntry_block he])

theorem tableOk_popEntry {l : List TrackEntry} (h : tableOk l) (b : Block) (prior : Option Nat) :
    tableOk (popEntry b prior l) := by
  unfold popEntry
  split
  · exact tableOk_dropEntry h b
  · exact h
  · next e he => exact tableOk_putEntry_of_found (f := e) h (by rw [← he]; simp [findEntry_block he])

/-- The entry that a reservation writes is of its block. -/
theorem stagedEntry_block {l : List TrackEntry} (g : GroupId) (b : Block) (n : Nat) :
    (stagedEntry g b n (findEntry l b)).block = b := by
  cases hf : findEntry l b with
  | none => rfl
  | some e =>
    show e.block = b
    exact findEntry_block hf

/-- A reservation keeps the table in order and within its capacity when the block has an entry or the table has room. -/
theorem tableOk_stage {l : List TrackEntry} (h : tableOk l) (g : GroupId) (b : Block) (n : Nat)
    (hroom : (findEntry l b).isNone → l.length < tableCapacity) :
    tableOk (putEntry (stagedEntry g b n (findEntry l b)) l) := by
  cases hf : findEntry l b with
  | none => exact tableOk_putEntry_of_room _ h.1 (hroom (by simp [hf]))
  | some e =>
    refine tableOk_putEntry_of_found (f := e) h ?_
    have := stagedEntry_block (l := l) g b n
    rw [hf] at this
    rw [this, hf]

/-- Dropping a group's entries leaves the other groups' entries findable. -/
theorem mem_dropGroup {e : TrackEntry} {g : GroupId} {l : List TrackEntry} :
    e ∈ dropGroup g l ↔ e ∈ l ∧ e.group ≠ g := by simp [dropGroup]

end Sys2Proof.Machine
end

