-- ==== Sys2Proof/Laws/Calm.lean ====
section
/-! SUPPORT. The relation Calm: what an operation of the block does at most when it neither closes an epoch nor belongs to a reset, a configuration write or an activation. It says once, for every shared operation, which state it leaves alone and in which direction the rest moves; it composes. -/

namespace Sys2Proof.Machine

/-- From `s` to `t` at most the runtime contexts move, without a reset or a configuration: the map, the triggers, the management port, the pins and the queue of commands stay; configurations stay, and the epoch numbers of all groups but those of `P`; levels, queues of requests do not grow; alert causes stay latched and their mask stays; counters keep their limits; the tracking table keeps its form; the rotation pointer stays and classes go on following sources; what was given out stays given out. -/
structure Calm (P : GroupId → Prop) (s t : State) : Prop where
  map : t.map = s.map
  triggers : t.triggers = s.triggers
  mgmt : t.mgmt = s.mgmt
  resetPin : t.resetPin = s.resetPin
  pending : t.pending = s.pending
  mask : t.alerts.mask = s.alerts.mask
  latched : ∀ i, s.alerts.latched.getLsbD i = true → t.alerts.latched.getLsbD i = true
  config : ∀ g, (t.group g).config = (s.group g).config
  epoch : ∀ g, ¬ P g → (t.group g).closedEpoch = (s.group g).closedEpoch
  level : ∀ g, (t.group g).level ≤ (s.group g).level
  stats : ∀ g, (s.group g).stats.bounded → (t.group g).stats.bounded
  queue : ∀ p, (t.port p).queue.length ≤ (s.port p).queue.length
  prst : ∀ p, (t.port p).resetPin = (s.port p).resetPin
  refusals : ∀ p, (s.port p).refusalCount ≤ countLimit → (t.port p).refusalCount ≤ countLimit
  table : tableOk s.table → tableOk t.table
  pointer : t.mem.pointer = s.mem.pointer
  classes : s.classesSound → t.classesSound
  emitted : ∃ l, t.emitted = s.emitted ++ l

theorem Calm.refl {P : GroupId → Prop} (s : State) : Calm P s s where
  map := rfl
  triggers := rfl
  mgmt := rfl
  resetPin := rfl
  pending := rfl
  mask := rfl
  latched _ h := h
  config _ := rfl
  epoch _ _ := rfl
  level _ := le_refl _
  stats _ h := h
  queue _ := le_refl _
  prst _ := rfl
  refusals _ h := h
  table h := h
  pointer := rfl
  classes h := h
  emitted := ⟨[], (List.append_nil _).symm⟩

theorem Calm.trans {P : GroupId → Prop} {s t u : State} (h : Calm P s t) (k : Calm P t u) : Calm P s u where
  map := k.map.trans h.map
  triggers := k.triggers.trans h.triggers
  mgmt := k.mgmt.trans h.mgmt
  resetPin := k.resetPin.trans h.resetPin
  pending := k.pending.trans h.pending
  mask := k.mask.trans h.mask
  latched i hi := k.latched i (h.latched i hi)
  config g := (k.config g).trans (h.config g)
  epoch g hg := (k.epoch g hg).trans (h.epoch g hg)
  level g := (k.level g).trans (h.level g)
  stats g hg := k.stats g (h.stats g hg)
  queue p := (k.queue p).trans (h.queue p)
  prst p := (k.prst p).trans (h.prst p)
  refusals p hp := k.refusals p (h.refusals p hp)
  table ht := k.table (h.table ht)
  pointer := k.pointer.trans h.pointer
  classes hc := k.classes (h.classes hc)
  emitted := by
    obtain ⟨l, hl⟩ := h.emitted
    obtain ⟨m, hm⟩ := k.emitted
    exact ⟨l ++ m, by rw [hm, hl, List.append_assoc]⟩

/-- A fold of calm operations is calm. -/
theorem Calm.foldl {P : GroupId → Prop} {α : Type} {f : State → α → State} (hf : ∀ s x, Calm P s (f s x)) (l : List α) (s : State) :
    Calm P s (l.foldl f s) := by
  induction l generalizing s with
  | nil => exact Calm.refl s
  | cons x l ih => exact (hf s x).trans (ih (f s x))

/-! ### The plain updates -/

/-- A change of one group is calm when it keeps the configuration, the epoch number and the counters' limits and does not raise the level. -/
theorem calm_modGroup {P : GroupId → Prop} (s : State) (g : GroupId) (f : Group → Group)
    (hc : (f (s.group g)).config = (s.group g).config)
    (he : ¬ P g → (f (s.group g)).closedEpoch = (s.group g).closedEpoch)
    (hl : (f (s.group g)).level ≤ (s.group g).level)
    (hs : (s.group g).stats.bounded → (f (s.group g)).stats.bounded) : Calm P s (s.modGroup g f) where
  map := rfl
  triggers := rfl
  mgmt := rfl
  resetPin := rfl
  pending := rfl
  mask := rfl
  latched _ h := h
  config k := by rw [State.modGroup_group]; split <;> simp_all
  epoch k hk := by rw [State.modGroup_group]; split <;> simp_all
  level k := by rw [State.modGroup_group]; split <;> simp_all
  stats k hk := by rw [State.modGroup_group]; split <;> simp_all
  queue _ := le_refl _
  prst _ := rfl
  refusals _ h := h
  table h := h
  pointer := rfl
  classes h := h
  emitted := ⟨[], (List.append_nil _).symm⟩

/-- A change of one port is calm when it keeps its reset pin, lengthens no queue and keeps the refusal count's limit. -/
theorem calm_modPort {P : GroupId → Prop} (s : State) (p : PortId) (f : Port → Port)
    (hq : (f (s.port p)).queue.length ≤ (s.port p).queue.length) (hp : (f (s.port p)).resetPin = (s.port p).resetPin)
    (hr : (s.port p).refusalCount ≤ countLimit → (f (s.port p)).refusalCount ≤ countLimit) :
    Calm P s (s.modPort p f) where
  map := rfl
  triggers := rfl
  mgmt := rfl
  resetPin := rfl
  pending := rfl
  mask := rfl
  latched _ h := h
  config _ := rfl
  epoch _ _ := rfl
  level _ := le_refl _
  stats _ h := h
  queue k := by rw [State.modPort_port]; split <;> simp_all
  prst k := by rw [State.modPort_port]; split <;> simp_all
  refusals k hk := by rw [State.modPort_port]; split <;> simp_all
  table h := h
  pointer := rfl
  classes h := h
  emitted := ⟨[], (List.append_nil _).symm⟩

/-- A change of the memory port, of what was given out, or of the model's own counters is calm. -/
theorem calm_plain {P : GroupId → Prop} {s t : State} (hg : t.groups = s.groups) (ht : t.table = s.table) (hp : t.ports = s.ports)
    (hm : t.map = s.map) (htr : t.triggers = s.triggers) (ha : t.alerts = s.alerts) (hmg : t.mgmt = s.mgmt)
    (hr : t.resetPin = s.resetPin) (hq : t.pending = s.pending) (hpt : t.mem.pointer = s.mem.pointer)
    (hcl : s.classesSound → t.classesSound) (he : ∃ l, t.emitted = s.emitted ++ l) : Calm P s t where
  map := hm
  triggers := htr
  mgmt := hmg
  resetPin := hr
  pending := hq
  mask := by rw [ha]
  latched _ h := by rw [ha]; exact h
  config _ := by simp [State.group, hg]
  epoch _ _ := by simp [State.group, hg]
  level _ := by simp [State.group, hg]
  stats _ h := by simpa [State.group, hg] using h
  queue _ := by simp [State.port, hp]
  prst _ := by simp [State.port, hp]
  refusals _ h := by simpa [State.port, hp] using h
  table h := by rw [ht]; exact h
  pointer := hpt
  classes := hcl
  emitted := he

theorem calm_emit {P : GroupId → Prop} (s : State) (e : Emission) : Calm P s (s.emit e) :=
  calm_plain rfl rfl rfl rfl rfl rfl rfl rfl rfl rfl id ⟨[e], rfl⟩

theorem calm_tick {P : GroupId → Prop} (s : State) : Calm P s s.tick := calm_plain rfl rfl rfl rfl rfl rfl rfl rfl rfl rfl id ⟨[], (List.append_nil _).symm⟩

theorem calm_drawn {P : GroupId → Prop} (s : State) : Calm P s s.drawn := calm_plain rfl rfl rfl rfl rfl rfl rfl rfl rfl rfl id ⟨[], (List.append_nil _).symm⟩

/-- A class follows its source: REQUESTER for a port, RESTORE or JOURNAL for a group (R150). -/
def Txn.classFits (x : Txn) : Prop := x.cls = .requester ↔ ∃ p, x.source = .port p

theorem classFits_own (g : GroupId) (c : TxnClass) (k : AccessKind) (a : Addr) (n : Nat) (d : List Byte) (r : Role)
    (h : c ≠ .requester) : (ownOf g c k a n d r).classFits := by simp [Txn.classFits, ownOf, h]

theorem classFits_request (r : Request) (p : PortId) (g : Option GroupId) : (r.txn p g).classFits := by
  simp [Txn.classFits, Request.txn]

theorem mem_outstanding {m : MemPort} {x : Txn} : x ∈ m.outstanding ↔ ∃ j : Fin 16, m.places[j] = some x := by
  unfold MemPort.outstanding
  simp only [List.mem_filterMap, id, exists_eq_right]
  rw [Vector.mem_toList_iff, Vector.mem_iff_getElem]
  exact ⟨fun ⟨i, hi, h⟩ => ⟨⟨i, hi⟩, h⟩, fun ⟨j, h⟩ => ⟨j.1, j.2, h⟩⟩

/-- Classes follow sources in what waits and in what stands in a place. -/
theorem classesSound_iff (s : State) :
    s.classesSound ↔ (∀ x ∈ s.mem.waiting, x.classFits) ∧ ∀ (j : Fin 16) (x : Txn), s.mem.places[j] = some x → x.classFits := by
  unfold State.classesSound MemPort.held
  constructor
  · exact fun h => ⟨fun x hx => h x (List.mem_append_left _ hx),
      fun j x hx => h x (List.mem_append_right _ (mem_outstanding.2 ⟨j, hx⟩))⟩
  · rintro ⟨h1, h2⟩ x hx
    rcases List.mem_append.1 hx with hx | hx
    · exact h1 x hx
    · obtain ⟨j, hj⟩ := mem_outstanding.1 hx
      exact h2 j x hj

theorem classes_handOn (s : State) (x : Txn) (hx : x.classFits) (h : s.classesSound) : (s.handOn x).classesSound := by
  rw [classesSound_iff] at h ⊢
  refine ⟨fun y hy => ?_, h.2⟩
  rcases List.mem_append.1 hy with hy | hy
  · exact h.1 y hy
  · rw [List.mem_singleton.1 hy]; exact hx

theorem classes_mapTxns (s : State) (f : Txn → Txn) (hf : ∀ x, x.classFits → (f x).classFits) (h : s.classesSound) :
    (s.mapTxns f).classesSound := by
  rw [classesSound_iff] at h ⊢
  refine ⟨fun y hy => ?_, fun j y hy => ?_⟩
  · obtain ⟨x, hx, rfl⟩ := List.mem_map.1 hy
    exact hf x (h.1 x hx)
  · have hy' : (s.mem.places[j]).map f = some y := by simpa [State.mapTxns] using hy
    obtain ⟨x, hx, rfl⟩ := Option.map_eq_some_iff.1 hy'
    exact hf x (h.2 j x hx)

theorem classes_freePlace (s : State) (i : PlaceId) (h : s.classesSound) : (s.freePlace i).classesSound := by
  rw [classesSound_iff] at h ⊢
  refine ⟨h.1, fun j y hy => ?_⟩
  have hy' : (s.mem.places.set i none)[j] = some y := hy
  rw [Fin.getElem_fin, Vector.getElem_set] at hy'
  split at hy'
  · cases hy'
  · exact h.2 j y hy'

theorem calm_handOn {P : GroupId → Prop} (s : State) (x : Txn) (hx : x.classFits) : Calm P s (s.handOn x) :=
  calm_plain rfl rfl rfl rfl rfl rfl rfl rfl rfl rfl (classes_handOn s x hx) ⟨[], (List.append_nil _).symm⟩

theorem calm_mapTxns {P : GroupId → Prop} (s : State) (f : Txn → Txn) (hf : ∀ x, x.classFits → (f x).classFits) :
    Calm P s (s.mapTxns f) :=
  calm_plain rfl rfl rfl rfl rfl rfl rfl rfl rfl rfl (classes_mapTxns s f hf) ⟨[], (List.append_nil _).symm⟩

theorem calm_freePlace {P : GroupId → Prop} (s : State) (i : PlaceId) : Calm P s (s.freePlace i) :=
  calm_plain rfl rfl rfl rfl rfl rfl rfl rfl rfl rfl (classes_freePlace s i) ⟨[], (List.append_nil _).symm⟩

/-- A latch is calm: it clears no cause. -/
theorem calm_latch {P : GroupId → Prop} (s : State) (c : Cause) : Calm P s (s.latch c) :=
  { Calm.refl s with latched := fun i h => by simp [h] }

/-- A change of the table that keeps its form is calm. -/
theorem calm_setTable {P : GroupId → Prop} (s : State) (l : List TrackEntry) (h : tableOk s.table → tableOk l) : Calm P s (s.setTable l) :=
  { Calm.refl s with table := h }

/-! ### Counters -/

theorem countUp_le (limit n : Nat) : countUp limit n ≤ limit := Nat.min_le_left _ _

/-- A counter that rises keeps its limit. -/
theorem bounded_add {t : Stats} (h : t.bounded) :
    t.addCommit.bounded ∧ t.addRollback.bounded ∧ t.addUndo.bounded ∧ t.addRecord.bounded ∧ t.addOverflow.bounded
      ∧ t.addExpiry.bounded := by
  obtain ⟨h1, h2, h3, h4, h5, h6⟩ := h
  refine ⟨⟨countUp_le _ _, ?_⟩, ⟨?_, countUp_le _ _, ?_⟩, ⟨?_, ?_, countUp_le _ _, ?_⟩,
    ⟨?_, ?_, ?_, countUp_le _ _, ?_⟩, ⟨?_, ?_, ?_, ?_, countUp_le _ _, ?_⟩, ⟨?_, ?_, ?_, ?_, ?_, countUp_le _ _⟩⟩ <;>
    first | assumption | exact ⟨h2, h3, h4, h5, h6⟩ | exact ⟨h3, h4, h5, h6⟩ | exact ⟨h4, h5, h6⟩ | exact ⟨h5, h6⟩

/-! ### Handing on -/

theorem calm_handSlotRead {P : GroupId → Prop} (s : State) (g : GroupId) (n : Nat) (r : Role) : Calm P s (s.handSlotRead g n r) :=
  calm_handOn _ _ (classFits_own _ _ _ _ _ _ _ (by decide))

theorem calm_handSlotWrite {P : GroupId → Prop} (s : State) (g : GroupId) (c : TxnClass) (n : Nat) (d : List Byte) (r : Role)
    (hc : c ≠ .requester) : Calm P s (s.handSlotWrite g c n d r) := calm_handOn _ _ (classFits_own _ _ _ _ _ _ _ hc)

theorem calm_handClearing {P : GroupId → Prop} (s : State) (g : GroupId) (n : Nat) (r : Role) : Calm P s (s.handClearing g n r) :=
  calm_handSlotWrite _ _ _ _ _ _ (by decide)

theorem calm_handRestore {P : GroupId → Prop} (s : State) (g : GroupId) (b : Block) (d : List Byte) (r : Role) :
    Calm P s (s.handRestore g b d r) := calm_handOn _ _ (classFits_own _ _ _ _ _ _ _ (by decide))

theorem calm_handHeader {P : GroupId → Prop} (s : State) (g : GroupId) (h : HeaderState) (r : Role) : Calm P s (s.handHeader g h r) :=
  calm_handSlotWrite _ _ _ _ _ _ (by decide)

end Sys2Proof.Machine
end

