-- ==== Sys2Proof/Laws/Ports.lean ====
section
/-! SUPPORT. The port operations: what they do to the length of a queue, and that each of them is calm. -/

namespace Sys2Proof.Machine

variable {P : GroupId → Prop}

@[simp] theorem length_mapHead (f : Request → Request) (q : List Request) : (mapHead f q).length = q.length := by
  induction q with
  | nil => rfl
  | cons r q ih => unfold mapHead; split <;> simp [ih]

theorem length_dropReady_le (q : List Request) : (dropReady q).length ≤ q.length := by
  induction q with
  | nil => exact le_refl _
  | cons r q ih =>
    unfold dropReady
    split
    · exact ih.trans (Nat.le_succ _)
    · exact le_refl _

theorem length_settled_le (x : Port) : x.settled.queue.length ≤ x.queue.length := by
  have := length_dropReady_le (mapHead Request.presented x.queue)
  simpa [Port.settled] using this

theorem calm_stageHead (s : State) (p : PortId) (g : Stage) : Calm P s (s.stageHead p g) :=
  calm_modPort s p _ (by simp) rfl id

theorem calm_setHeadClass (s : State) (p : PortId) (d : Option EntryId) (g : Option GroupId) :
    Calm P s (s.setHeadClass p d g) := calm_modPort s p _ (le_refl _) rfl id

theorem calm_settle (s : State) (p : PortId) : Calm P s (s.settle p) :=
  (calm_modPort s p Port.settled (length_settled_le _) rfl id).trans
    (calm_plain rfl rfl rfl rfl rfl rfl rfl rfl rfl rfl id ⟨_, rfl⟩)

theorem calm_refuseHead (s : State) (p : PortId) (w : RefusalReason) : Calm P s (s.refuseHead p w) := by
  unfold State.refuseHead
  split
  · exact Calm.refl s
  · exact ((calm_modPort s p _ (by simp) rfl (fun _ => countUp_le _ _)).trans (calm_latch _ _)).trans
      (calm_settle _ _)

theorem calm_issueHead (s : State) (p : PortId) (g : Option GroupId) : Calm P s (s.issueHead p g) := by
  unfold State.issueHead
  split
  · exact Calm.refl s
  · exact ((calm_handOn _ _ (classFits_request _ _ _)).trans (calm_stageHead _ _ _)).trans (calm_settle _ _)

theorem calm_holdHead (s : State) (p : PortId) (w : HoldReason) : Calm P s (s.holdHead p w) := calm_stageHead s p _

theorem calm_reholdHead (s : State) (g : GroupId) (w : HoldReason) (p : PortId) : Calm P s (s.reholdHead g w p) := by
  unfold State.reholdHead
  split
  · exact calm_holdHead _ _ _
  · exact Calm.refl s

theorem calm_releaseHead (s : State) (g : GroupId) (p : PortId) : Calm P s (s.releaseHead g p) := by
  unfold State.releaseHead
  split
  · exact calm_stageHead _ _ _
  · exact Calm.refl s

theorem calm_releaseHeads (s : State) (g : GroupId) : Calm P s (s.releaseHeads g) :=
  Calm.foldl (fun s p => calm_releaseHead s g p) _ s

/-! ### Answers on the epoch channels -/

theorem calm_answer (s : State) (p : PortId) (a : Answer) : Calm P s (s.answer p a) := calm_emit s _

theorem calm_answerWaiting (s : State) (g : GroupId) (k : WaitingKind → Bool) (a : Answer) (p : PortId) :
    Calm P s (s.answerWaiting g k a p) := by
  unfold State.answerWaiting
  split
  · exact Calm.refl s
  · split
    · exact (calm_modPort s p _ (le_refl _) rfl id).trans (calm_answer _ _ _)
    · exact Calm.refl s

theorem calm_answerAll (s : State) (g : GroupId) (k : WaitingKind → Bool) (a : Answer) :
    Calm P s (s.answerAll g k a) := Calm.foldl (fun s p => calm_answerWaiting s g k a p) _ s

theorem calm_wait (s : State) (p : PortId) (k : WaitingKind) (n : Fin 8) (g : GroupId) : Calm P s (s.wait p k n g) :=
  calm_modPort s p _ (le_refl _) rfl id

theorem calm_refuseCommand (s : State) (p : PortId) (w : CommandReason) : Calm P s (s.refuseCommand p w) :=
  calm_answer s p _

end Sys2Proof.Machine
end

