-- ==== Sys2Proof/Laws/Close.lean ====
section
/-! SUPPORT. Undo, drains and closes are calm: they move a group's runtime context and nothing else of what Calm names, and only a close moves the epoch number of its own group. -/

namespace Sys2Proof.Machine

variable {P : GroupId → Prop}

theorem atPhase_config (x : Group) (ph : Phase) (n : Option Nat) : (x.atPhase ph n).config = x.config := by
  unfold Group.atPhase; split <;> rfl

theorem atPhase_closedEpoch (x : Group) (ph : Phase) (n : Option Nat) :
    (x.atPhase ph n).closedEpoch = x.closedEpoch := by
  unfold Group.atPhase; split <;> rfl

theorem atPhase_marks (x : Group) (ph : Phase) (n : Option Nat) : (x.atPhase ph n).marks = x.marks := by
  unfold Group.atPhase; split <;> rfl

theorem atPhase_stats (x : Group) (ph : Phase) (n : Option Nat) : (x.atPhase ph n).stats = x.stats := by
  unfold Group.atPhase; split <;> rfl

theorem atPhase_journalLength (x : Group) (ph : Phase) (n : Option Nat) :
    (x.atPhase ph n).journalLength = x.journalLength := by
  unfold Group.atPhase; split <;> rfl

theorem atPhase_state (x : Group) (ph : Phase) (n : Option Nat) : (x.atPhase ph n).state = x.state := by
  unfold Group.atPhase; split <;> simp_all

theorem calm_atPhase (s : State) (g : GroupId) (ph : Phase) (n : Group → Option Nat) :
    Calm P s (s.modGroup g (fun x => x.atPhase ph (n x))) :=
  calm_modGroup s g _ (atPhase_config _ _ _) (fun _ => atPhase_closedEpoch _ _ _)
    (by simp [Group.level, atPhase_marks]) (by simp [atPhase_stats])

theorem calm_finishUndo (s : State) (g : GroupId) : Calm P s (s.finishUndo g) := by
  unfold State.finishUndo
  split
  · exact Calm.refl s
  · exact ((calm_modGroup s g _ rfl (fun _ => rfl) (by simp [Group.undone, Group.level])
      (fun h => (bounded_add h).2.2.1)).trans (calm_answerWaiting _ _ _ _ _)).trans (calm_releaseHeads _ _)

theorem calm_nextPop (s : State) (g : GroupId) : Calm P s (s.nextPop g) := by
  unfold State.nextPop
  split
  · split
    · exact (calm_atPhase s g _ (fun _ => none)).trans (calm_handHeader _ _ _ _)
    · exact calm_finishUndo _ _
  · exact (calm_atPhase s g _ (fun x => some (1 + x.journalLength))).trans (calm_handSlotRead _ _ _ _)

theorem calm_beginClear (s : State) (g : GroupId) : Calm P s (s.beginClear g) := by
  unfold State.beginClear
  split
  · exact (calm_atPhase s g _ (fun _ => none)).trans (calm_handClearing _ _ _ _)
  · exact calm_nextPop _ _

theorem calm_drainCheck (s : State) (g : GroupId) : Calm P s (s.drainCheck g) := by
  unfold State.drainCheck
  split <;> (try split) <;> first
    | exact Calm.refl s
    | exact calm_beginClear _ _
    | exact calm_handHeader _ _ _ _

theorem calm_putBackQueue (s : State) (g : GroupId) (w : HoldReason) : Calm P s (s.putBackQueue g w) :=
  (Calm.foldl (fun s p => calm_holdHead s p w) _ s).trans
    (calm_modGroup _ g _ rfl (fun _ => rfl) (le_refl _) id)

theorem calm_enterRollingBack (s : State) (g : GroupId) (c : CloseCause) : Calm P s (s.enterRollingBack g c) :=
  (((Calm.foldl (fun s p => calm_reholdHead s g .rollingBack p) _ s).trans
    (calm_modGroup _ g _ rfl (fun _ => rfl) (le_refl _) id)).trans (calm_putBackQueue _ _ _)).trans
      (calm_drainCheck _ _)

theorem calm_abortCause (s : State) (g : GroupId) (c : CloseCause) : Calm P s (s.abortCause g c) := by
  unfold State.abortCause
  split
  · exact calm_enterRollingBack _ _ _
  · exact Calm.refl s

theorem calm_openEpoch (s : State) (g : GroupId) : Calm P s (s.openEpoch g) :=
  (calm_setTable s _ (fun h => tableOk_dropGroup h g)).trans
    (calm_modGroup _ g _ rfl (fun _ => rfl) (by simp [Group.openedEpoch, Group.level]) id)

/-- A commit point moves only its own group's epoch number. -/
theorem calm_commitPoint (s : State) (g : GroupId) (hg : P g) : Calm P s (s.commitPoint g) :=
  (((calm_setTable s _ (fun h => tableOk_dropGroup h g)).trans
    (calm_modGroup _ g _ rfl (fun h => absurd hg h) (by simp [Group.committedEpoch, Group.level])
      (fun h => (bounded_add h).1))).trans (calm_answerAll _ _ _ _)).trans (calm_releaseHeads _ _)

theorem calm_latchRollback (s : State) (g : GroupId) (c : CloseCause) : Calm P s (s.latchRollback g c) := by
  unfold State.latchRollback
  split
  · exact calm_latch _ _
  · exact Calm.refl s

/-- The close of a rollback moves only its own group's epoch number. -/
theorem calm_rollbackClose (s : State) (g : GroupId) (hg : P g) : Calm P s (s.rollbackClose g) :=
  (((calm_modGroup s g _ rfl (fun h => absurd hg h) (by simp [Group.rolledBackEpoch, Group.level])
    (fun h => (bounded_add h).2.1)).trans (calm_answerAll _ _ _ _)).trans (calm_latchRollback _ _ _)).trans
      (calm_releaseHeads _ _)

end Sys2Proof.Machine
end

