-- ==== Sys2Proof/Laws/Journal.lean ====
section
/-! SUPPORT. The journal path is calm: steps, reservations, overflow, holds, waiting lists and the ends of steps keep the tracking table's form and capacity and leave everything else that Calm names alone. -/

namespace Sys2Proof.Machine

variable {P : GroupId → Prop}

/-- A reservation is decided only for a block that has an entry or when the table has room (R33). -/
theorem room_of_reserve {s : State} {g : GroupId} {b : Block} (h : s.startDecision g b = .reserve) :
    (findEntry s.table b).isNone → s.table.length < tableCapacity := by
  intro hn
  unfold State.startDecision at h
  split at h
  · cases h
  · split at h
    · cases h
    · next hc =>
      unfold State.capacityCheck at hc
      split at hc
      · cases hc
      · split at hc
        · cases hc
        · next hno => simp only [hn, true_and, not_or, not_le] at hno; exact hno.1

theorem calm_reserve (s : State) (g : GroupId) (p : PortId) (h : s.startDecision g (s.headBlock p) = .reserve) :
    Calm P s (s.reserve g p) :=
  (((calm_setTable s _ (fun ht => tableOk_stage ht g _ _ (room_of_reserve h))).trans
    (calm_modGroup _ g _ rfl (fun _ => rfl) (le_refl _) id)).trans (calm_stageHead _ _ _)).trans
      (calm_handOn _ _ (classFits_own _ _ _ _ _ _ _ (by decide)))

theorem calm_headLeaves (s : State) (g : GroupId) : Calm P s (s.modGroup g Group.headLeaves) :=
  calm_modGroup s g _ rfl (fun _ => rfl) (le_refl _) id

theorem calm_refuseOverflow (s : State) (g : GroupId) (p : PortId) (o : Overflow) :
    Calm P s (s.refuseOverflow g p o) :=
  (calm_modGroup s g _ rfl (fun _ => rfl) (le_refl _) (fun h => (bounded_add h).2.2.2.2.1)).trans
    (calm_refuseHead _ _ _)

theorem calm_beginHold (s : State) (g : GroupId) (p : PortId) (o : Overflow) : Calm P s (s.beginHold g p o) :=
  ((calm_modGroup s g _ rfl (fun _ => rfl) (le_refl _) id).trans (calm_holdHead _ _ _)).trans
    (calm_plain rfl rfl rfl rfl rfl rfl rfl rfl rfl rfl id ⟨[], (List.append_nil _).symm⟩)

theorem calm_runQueue (s : State) (g : GroupId) (q : List PortId) : Calm P s (s.runQueue g q) := by
  induction q generalizing s with
  | nil => exact Calm.refl s
  | cons p q ih =>
    unfold State.runQueue
    split
    · split
      · exact ((calm_headLeaves _ _).trans (calm_issueHead _ _ _)).trans (ih _)
      · next h => exact calm_reserve s g p h
      · split
        · exact (calm_refuseOverflow _ _ _ _).trans (ih _)
        · exact calm_beginHold _ _ _ _
        · exact (calm_refuseOverflow _ _ _ _).trans (calm_abortCause _ _ _)
    · exact Calm.refl s

theorem calm_startHeads (s : State) (g : GroupId) : Calm P s (s.startHeads g) := calm_runQueue s g _

theorem calm_enqueue (s : State) (g : GroupId) (p : PortId) : Calm P s (s.enqueue g p) :=
  (calm_stageHead _ _ _).trans (calm_modGroup _ g _ rfl (fun _ => rfl) (le_refl _) id)

theorem calm_joinQueue (s : State) (g : GroupId) (p : PortId) : Calm P s (s.joinQueue g p) := by
  unfold State.joinQueue
  split
  · exact (calm_enqueue _ _ _).trans (calm_startHeads _ _)
  · exact calm_enqueue _ _ _

theorem calm_joinWaiting (s : State) (p : PortId) : Calm P s (s.joinWaiting p) :=
  (calm_setTable s _ (fun h => tableOk_joinWaiters h _ _)).trans (calm_stageHead _ _ _)

/-- The judgement is calm where the joining of the queue is. -/
theorem calm_judgeTo {s joined : State} (g : GroupId) (p : PortId) (h : Calm P s joined) : Calm P s (s.judgeTo g p joined) := by
  unfold State.judgeTo
  split
  · exact h
  · split
    · exact calm_joinWaiting _ _
    · split
      · exact calm_issueHead _ _ _
      · exact h

theorem calm_judge (s : State) (g : GroupId) (p : PortId) : Calm P s (s.judge g p) :=
  calm_judgeTo g p (calm_joinQueue s g p)

theorem calm_retakeHead (s : State) (g : GroupId) : Calm P s (s.retakeHead g) := by
  unfold State.retakeHead
  split
  · split
    · exact ((calm_headLeaves _ _).trans (calm_issueHead _ _ _)).trans (calm_startHeads _ _)
    · next h => exact calm_reserve _ _ _ h
    · exact (calm_modGroup _ g _ rfl (fun _ => rfl) (le_refl _) id).trans (calm_holdHead _ _ _)
  · exact Calm.refl s

theorem calm_retakeAll (s : State) : Calm P s s.retakeAll := Calm.foldl calm_retakeHead _ s

/-- The release of one write is calm where the joining of the queue is. -/
theorem calm_releaseTo {s joined : State} (g : GroupId) (p : PortId) (h : Calm P s joined) :
    Calm P s (s.releaseTo g p joined) := by
  unfold State.releaseTo
  split <;> first
    | exact calm_judgeTo _ _ h
    | exact calm_holdHead _ _ _
    | exact calm_stageHead _ _ _

theorem calm_releaseWaiters (s : State) (g : GroupId) (ps : List PortId) : Calm P s (s.releaseWaiters g ps) :=
  Calm.foldl (fun s p => calm_releaseTo g p (calm_joinQueue s g p)) _ s

theorem calm_queueWaiters (s : State) (g : GroupId) (ps : List PortId) : Calm P s (s.queueWaiters g ps) :=
  Calm.foldl (fun s p => calm_releaseTo g p (calm_enqueue s g p)) _ s

theorem calm_putBackStepWrite (s : State) (g : GroupId) (o : Option PortId) (w : HoldReason) :
    Calm P s (s.putBackStepWrite g o w) := by
  unfold State.putBackStepWrite
  split
  · exact Calm.refl s
  · exact (calm_modGroup _ g _ rfl (fun _ => rfl) (le_refl _) id).trans (calm_holdHead _ _ _)

theorem calm_settleStepWrite (s : State) (g : GroupId) (o : Option PortId) : Calm P s (s.settleStepWrite g o) := by
  unfold State.settleStepWrite
  split <;> first
    | exact calm_putBackStepWrite _ _ _ _
    | exact calm_startHeads _ _

theorem calm_recordAcknowledged (s : State) (g : GroupId) (st : JournalStep) :
    Calm P s (s.recordAcknowledged g st) :=
  (((calm_setTable s _ (fun h => tableOk_acknowledgeEntry h _ _)).trans
    (calm_modGroup _ g _ rfl (fun _ => rfl) (le_refl _) (fun h => (bounded_add h).2.2.2.1))).trans
      (calm_settleStepWrite _ _ _)).trans ((calm_releaseWaiters _ _ _).trans (calm_drainCheck _ _))

theorem calm_refuseStepWrite (s : State) (g : GroupId) (o : Option PortId) : Calm P s (s.refuseStepWrite g o) := by
  unfold State.refuseStepWrite
  split
  · exact Calm.refl s
  · exact (calm_modGroup _ g _ rfl (fun _ => rfl) (le_refl _) id).trans (calm_refuseHead _ _ _)

theorem calm_afterFailure (s : State) (g : GroupId) (ps : List PortId) : Calm P s (s.afterFailure g ps) :=
  (calm_queueWaiters _ _ _).trans (calm_startHeads _ _)

theorem calm_shareFreed (s : State) (g : GroupId) (ps : List PortId) : Calm P s (s.shareFreed g ps) := by
  unfold State.shareFreed
  split
  · exact ((calm_drawn s).trans (calm_retakeAll _)).trans (calm_afterFailure _ _ _)
  · exact ((calm_drawn s).trans (calm_afterFailure _ _ _)).trans (calm_retakeAll _)

theorem calm_endFailedStep (s : State) (g : GroupId) (st : JournalStep) : Calm P s (s.endFailedStep g st) :=
  ((calm_setTable s _ (fun h => tableOk_failEntry h _ _)).trans
    (calm_modGroup _ g _ rfl (fun _ => rfl) (le_refl _) id)).trans (calm_refuseStepWrite _ _ _)

theorem calm_shareAfterFailure (s : State) (g : GroupId) (st : JournalStep) (ps : List PortId) :
    Calm P s (s.shareAfterFailure g st ps) := by
  unfold State.shareAfterFailure
  split
  · exact calm_afterFailure _ _ _
  · split
    · exact calm_shareFreed _ _ _
    · exact (calm_afterFailure _ _ _).trans (calm_retakeAll _)

theorem calm_stepFailed (s : State) (g : GroupId) (st : JournalStep) : Calm P s (s.stepFailed g st) :=
  ((calm_endFailedStep _ _ _).trans (calm_shareAfterFailure _ _ _ _)).trans (calm_drainCheck _ _)

theorem calm_expireHold (s : State) (g : GroupId) (p : PortId) (h : Hold) : Calm P s (s.expireHold g p h) :=
  ((calm_modGroup _ g _ rfl (fun _ => rfl) (le_refl _) (fun hb => (bounded_add hb).2.2.2.2.2)).trans
    (calm_refuseHead _ _ _)).trans (calm_startHeads _ _)

/-! ### Classification and entry to FAULTED -/

theorem calm_autoOpen (s : State) (g : GroupId) (p : PortId) : Calm P s (s.autoOpen g p) := by
  unfold State.autoOpen
  split
  · split
    · exact calm_refuseHead _ _ _
    · exact (calm_openEpoch _ _).trans (calm_judge _ _ _)
  · exact calm_refuseHead _ _ _

theorem calm_admit (s : State) (g : GroupId) (p : PortId) (k : AccessKind) : Calm P s (s.admission g p k) := by
  unfold State.admission
  split <;> (try split) <;> first
    | exact calm_refuseHead _ _ _
    | exact calm_issueHead _ _ _
    | exact calm_holdHead _ _ _
    | exact calm_judge _ _ _
    | exact calm_autoOpen _ _ _

theorem calm_classify (s : State) (p : PortId) : Calm P s (s.classify p) := by
  unfold State.classify
  split
  · exact Calm.refl s
  · split
    · exact (calm_setHeadClass _ _ _ _).trans (calm_refuseHead _ _ _)
    · exact (calm_setHeadClass _ _ _ _).trans (calm_issueHead _ _ _)
    · exact (calm_setHeadClass _ _ _ _).trans (calm_admit _ _ _ _)

theorem classFits_orphanedByFault (g : GroupId) (x : Txn) (h : x.classFits) : (x.orphanedByFault g).classFits := by
  unfold Txn.orphanedByFault
  split
  · exact h
  · exact h

theorem calm_enterFaulted (s : State) (g : GroupId) (f : FaultRecord) : Calm P s (s.enterFaulted g f) :=
  ((((((calm_setTable s _ (fun h => tableOk_dropGroup h g)).trans
    (calm_modGroup _ g _ rfl (fun _ => rfl) (by simp [Group.intoFaulted, Group.level]) id)).trans
      (calm_mapTxns _ _ (classFits_orphanedByFault g))).trans (calm_latch _ _)).trans (Calm.foldl calm_classify _ _)).trans
        (calm_answerAll _ _ _ _)).trans (calm_retakeAll _)

theorem calm_faultNow (s : State) (g : GroupId) (k : FaultKind) (n : Option Nat) (b : Option Block) :
    Calm P s (s.faultNow g k n b) := calm_enterFaulted _ _ _

end Sys2Proof.Machine
end

