-- ==== Sys2Proof/Laws/Commands.lean ====
section
/-! SUPPORT. Every command that is calm, by its meaning: it answers a next state that is calm after the state it was given. -/

namespace Sys2Proof.Machine

variable {P : GroupId → Prop}

/-- The outcome is a next state that is calm after `s`. -/
def CalmNext (P : GroupId → Prop) (s : State) (o : Host.Outcome State Fault Refusal) : Prop :=
  ∃ t, o = .next t ∧ Calm P s t

theorem CalmNext.stay (s : State) : CalmNext P s (.next s) := ⟨s, rfl, Calm.refl s⟩

theorem CalmNext.of {s t : State} (h : Calm P s t) : CalmNext P s (.next t) := ⟨t, rfl, h⟩

/-- The state a command answers when it is known to be calm. -/
theorem CalmNext.elim {s t : State} {o : Host.Outcome State Fault Refusal} (h : CalmNext P s o) (ht : o = .next t) :
    Calm P s t := by
  obtain ⟨u, hu, hc⟩ := h
  rw [ht] at hu
  cases hu
  exact hc

/-! ### Ports, triggers and channels -/

theorem calm_execClassification (p : PortId) (s : State) : CalmNext P s (execClassification p s) := by
  unfold execClassification
  split
  · exact .of ((calm_tick s).trans (calm_classify _ _))
  · exact .stay s

theorem calm_execHoldExpiry (g : GroupId) (s : State) : CalmNext P s (execHoldExpiry g s) := by
  unfold execHoldExpiry
  split
  · exact .of ((calm_tick s).trans (calm_expireHold _ _ _ _))
  · exact .stay s

theorem calm_execVoteTimeout (g : GroupId) (s : State) : CalmNext P s (execVoteTimeout g s) := by
  unfold execVoteTimeout
  split
  · exact .of ((calm_tick s).trans (calm_enterRollingBack _ _ _))
  · exact .stay s

theorem calm_takeCommand (s : State) (p : PortId) {f : GroupId → State → State} (hf : ∀ g s, Calm P s (f g s)) :
    Calm P s (s.takeCommand p f) := by
  unfold State.takeCommand
  split
  · split
    · exact calm_refuseCommand _ _ _
    · split
      · exact calm_refuseCommand _ _ _
      · exact hf _ _
  · exact Calm.refl s

theorem calm_begin (s : State) (g : GroupId) (p : PortId) : Calm P s (s.begin g p) := by
  unfold State.begin
  split <;> (try unfold State.beginClosed) <;> (try split) <;> first
    | exact calm_answer _ _ _
    | exact calm_refuseCommand _ _ _
    | exact (calm_openEpoch _ _).trans (calm_answer _ _ _)

theorem calm_execBegin (p : PortId) (a : Fin 8) (s : State) : CalmNext P s (execBegin p a s) :=
  .of (calm_takeCommand s p (fun g s => calm_begin s g p))

theorem calm_enterUnwinding (s : State) (g : GroupId) (p : PortId) (m : Fin 8) :
    Calm P s (s.enterUnwinding g p m) :=
  (((calm_wait _ _ _ _ _).trans (calm_modGroup _ g _ rfl (fun _ => rfl) (le_refl _) id)).trans
    (calm_putBackQueue _ _ _)).trans (calm_drainCheck _ _)

theorem calm_undo (s : State) (g : GroupId) (p : PortId) (m : Fin 8) : Calm P s (s.undo g p m) := by
  unfold State.undo
  split <;> (try unfold State.undoOpen) <;> (try split) <;> first
    | exact calm_refuseCommand _ _ _
    | exact calm_enterUnwinding _ _ _ _

theorem calm_execUndo (p : PortId) (m : Fin 8) (s : State) : CalmNext P s (execUndo p m s) :=
  .of ((calm_tick s).trans (calm_takeCommand _ p (fun g s => calm_undo s g p m)))

theorem calm_holdForCommit (s : State) (g : GroupId) : Calm P s (s.holdForCommit g) := by
  unfold State.holdForCommit
  split
  · exact calm_holdHead _ _ _
  · exact Calm.refl s

theorem calm_enterCommitting (s : State) (g : GroupId) : Calm P s (s.enterCommitting g) :=
  (((calm_holdForCommit _ _).trans (calm_modGroup _ g _ rfl (fun _ => rfl) (le_refl _) id)).trans
    (calm_startHeads _ _)).trans (calm_drainCheck _ _)

theorem calm_voted (s : State) (g : GroupId) (p : PortId) : Calm P s (s.modGroup g (fun x => x.voted p)) := by
  refine calm_modGroup s g _ ?_ (fun _ => ?_) ?_ ?_ <;> unfold Group.voted <;> split <;> first | rfl | exact id

theorem calm_takeVote (s : State) (g : GroupId) (p : PortId) (a : Fin 8) : Calm P s (s.takeVote g p a) := by
  unfold State.takeVote
  refine ((calm_wait s p .voteCommit a g).trans (calm_voted _ g p)).trans ?_
  unfold State.commitIfComplete
  split
  · exact calm_enterCommitting _ _
  · exact Calm.refl _

theorem calm_voteCommit (s : State) (g : GroupId) (p : PortId) (a : Fin 8) : Calm P s (s.voteCommit g p a) := by
  unfold State.voteCommit
  split <;> first
    | exact calm_takeVote _ _ _ _
    | exact calm_refuseCommand _ _ _

theorem calm_execVoteCommit (p : PortId) (a : Fin 8) (s : State) : CalmNext P s (execVoteCommit p a s) :=
  .of ((calm_tick s).trans (calm_takeCommand _ p (fun g s => calm_voteCommit s g p a)))

theorem calm_voteAbort (s : State) (g : GroupId) (p : PortId) (a : Fin 8) : Calm P s (s.voteAbort g p a) := by
  unfold State.voteAbort
  split <;> first
    | exact (calm_wait _ _ _ _ _).trans (calm_enterRollingBack _ _ _)
    | exact calm_wait _ _ _ _ _
    | exact calm_refuseCommand _ _ _

theorem calm_execVoteAbort (p : PortId) (a : Fin 8) (s : State) : CalmNext P s (execVoteAbort p a s) :=
  .of ((calm_tick s).trans (calm_takeCommand _ p (fun g s => calm_voteAbort s g p a)))

theorem calm_execQuery (p : PortId) (a : Fin 8) (s : State) : CalmNext P s (execQuery p a s) :=
  .of (calm_takeCommand s p (fun _ s => calm_answer s p _))

theorem calm_execUnknownCommand (p : PortId) (c : Fin 2) (a : Fin 8) (s : State) :
    CalmNext P s (execUnknownCommand p c a s) := by
  unfold execUnknownCommand
  split
  · exact .of (calm_refuseCommand _ _ _)
  · exact .stay s

/-! ### The memory port -/

/-- The taking of an answer is calm when its body is, for the transaction that stands in the place. -/
theorem calm_takeAnswer (s : State) (i : PlaceId) (w : Txn → Bool) (f : Txn → State → State)
    (hf : ∀ x, s.mem.places[i] = some x → ∀ u, Calm P u (f x u)) : CalmNext P s (s.takeAnswer i w f) := by
  unfold State.takeAnswer
  split
  · next x hx =>
    split
    · exact .of (((calm_tick s).trans (calm_freePlace _ _)).trans (hf x hx _))
    · exact .stay s
  · exact .stay s

/-- The taking of an answer to a transaction of a group's own is calm when both its courses are, for that group. -/
theorem calm_takeOwn (s : State) (i : PlaceId) (a : MemAnswer) (w : Role → Bool)
    (f : GroupId → Role → List Byte → State → State) (e : GroupId → Role → State → State)
    (hf : ∀ x, s.mem.places[i] = some x → ∀ g, x.ownGroup = some g → ∀ r d u, Calm P u (f g r d u))
    (he : ∀ g r u, Calm P u (e g r u)) : CalmNext P s (s.takeOwn i a w f e) := by
  refine calm_takeAnswer s i _ _ (fun x hx u => ?_)
  split
  · exact Calm.refl u
  · next g d hg => exact hf x hx g hg _ _ u
  · exact he _ _ u

theorem calm_countAnswered (s : State) (g : Option GroupId) : Calm P s (s.countAnswered g) := by
  unfold State.countAnswered
  split
  · exact Calm.refl s
  · exact calm_drainCheck _ _

theorem calm_requesterAnswered (s : State) (x : Txn) (a : MemAnswer) : Calm P s (s.requesterAnswered x a) := by
  unfold State.requesterAnswered
  split
  · exact ((calm_modPort s _ _ (by simp [keepAnswer]) rfl id).trans (calm_settle _ _)).trans (calm_countAnswered _ _)
  · exact Calm.refl s

theorem calm_execRequesterAnswer (i : PlaceId) (a : MemAnswer) (s : State) :
    CalmNext P s (execRequesterAnswer i a s) :=
  calm_takeAnswer s i _ _ (fun x _ u => calm_requesterAnswered u x a)

theorem calm_execOrphanedAnswer (i : PlaceId) (a : MemAnswer) (s : State) : CalmNext P s (execOrphanedAnswer i a s) :=
  calm_takeAnswer s i _ _ (fun _ _ u => calm_countAnswered u _)

/-! ### Journal steps -/

theorem calm_writeRecord (s : State) (g : GroupId) (d : List Byte) : Calm P s (s.writeRecord g d) := by
  unfold State.writeRecord
  split
  · exact Calm.refl s
  · exact calm_handSlotWrite _ _ _ _ _ _ (by decide)

theorem calm_failStep (s : State) (g : GroupId) : Calm P s (s.failStep g) := by
  unfold State.failStep
  split
  · exact Calm.refl s
  · exact calm_stepFailed _ _ _

theorem calm_finishRecord (s : State) (g : GroupId) : Calm P s (s.finishRecord g) := by
  unfold State.finishRecord
  split
  · exact Calm.refl s
  · exact calm_recordAcknowledged _ _ _

theorem calm_execOldBlockRead (i : PlaceId) (a : MemAnswer) (s : State) : CalmNext P s (execOldBlockRead i a s) :=
  calm_takeOwn s i a _ _ _ (fun _ _ g _ _ d u => calm_writeRecord u g d) (fun g _ u => calm_failStep u g)

theorem calm_execRecordWrite (i : PlaceId) (a : MemAnswer) (s : State) : CalmNext P s (execRecordWrite i a s) :=
  calm_takeOwn s i a _ _ _ (fun _ _ g _ _ _ u => calm_finishRecord u g) (fun g _ u => calm_failStep u g)

/-! ### Undo, rollback and commit -/

theorem calm_execClearPhaseWrite (i : PlaceId) (a : MemAnswer) (s : State) :
    CalmNext P s (execClearPhaseWrite i a s) :=
  calm_takeOwn s i a _ _ _ (fun _ _ g _ _ _ u => calm_nextPop u g) (fun _ _ _ => calm_faultNow _ _ _ _ _)

theorem calm_slotRead (s : State) (g : GroupId) (d : List Byte) : Calm P s (s.slotRead g d) := by
  unfold State.slotRead
  split
  · split
    · exact calm_finishUndo _ _
    · exact calm_handRestore _ _ _ _ _
  · exact calm_faultNow _ _ _ _ _

theorem calm_execRecordRead (i : PlaceId) (a : MemAnswer) (s : State) : CalmNext P s (execRecordRead i a s) :=
  calm_takeOwn s i a _ _ _ (fun _ _ g _ _ d u => calm_slotRead u g d) (fun _ _ _ => calm_faultNow _ _ _ _ _)

theorem calm_clearPopped (s : State) (g : GroupId) (r : Role) : Calm P s (s.clearPopped g r) := by
  unfold State.clearPopped
  split
  · exact calm_handClearing _ _ _ _
  · exact Calm.refl s

theorem calm_execRestoreWrite (i : PlaceId) (a : MemAnswer) (s : State) : CalmNext P s (execRestoreWrite i a s) :=
  calm_takeOwn s i a _ _ _ (fun _ _ g _ r _ u => calm_clearPopped u g r) (fun _ _ _ => calm_faultNow _ _ _ _ _)

theorem calm_popped (s : State) (g : GroupId) : Calm P s (s.modGroup g Group.popped) :=
  calm_modGroup s g _ (atPhase_config _ _ _) (fun _ => atPhase_closedEpoch _ _ _)
    (by simp [Group.popped, Group.level, atPhase_marks]) (by simp [Group.popped, atPhase_stats])

theorem calm_popDone (s : State) (g : GroupId) (r : Role) : Calm P s (s.popDone g r) := by
  unfold State.popDone
  split
  · exact (((calm_setTable s _ (fun h => tableOk_popEntry h _ _)).trans (calm_popped _ _)).trans
      (calm_nextPop _ _)).trans (calm_retakeAll _)
  · exact Calm.refl s

theorem calm_execPopComplete (i : PlaceId) (a : MemAnswer) (s : State) : CalmNext P s (execPopComplete i a s) :=
  calm_takeOwn s i a _ _ _ (fun _ _ g _ r _ u => calm_popDone u g r) (fun _ _ _ => calm_faultNow _ _ _ _ _)

/-- A commit header's answer moves at most the epoch number of the group whose header it was. -/
theorem calm_execCommitHeaderWrite (i : PlaceId) (a : MemAnswer) (s : State)
    (hP : ∀ x, s.mem.places[i] = some x → ∀ g, x.ownGroup = some g → P g) :
    CalmNext P s (execCommitHeaderWrite i a s) :=
  calm_takeOwn s i a _ _ _
    (fun x hx g hg _ _ u => (calm_commitPoint u g (hP x hx g hg)).trans (calm_retakeAll _))
    (fun _ _ _ => calm_faultNow _ _ _ _ _)

/-- A closing header's answer moves at most the epoch number of the group whose header it was. -/
theorem calm_execRollbackHeaderWrite (i : PlaceId) (a : MemAnswer) (s : State)
    (hP : ∀ x, s.mem.places[i] = some x → ∀ g, x.ownGroup = some g → P g) :
    CalmNext P s (execRollbackHeaderWrite i a s) :=
  calm_takeOwn s i a _ _ _
    (fun x hx g hg _ _ u => (calm_rollbackClose u g (hP x hx g hg)).trans (calm_retakeAll _))
    (fun _ _ _ => calm_faultNow _ _ _ _ _)

/-! ### FORMAT and RECOVER -/

theorem calm_beginFormat (s : State) (g : GroupId) : Calm P s (s.beginFormat g) :=
  (calm_modGroup s g _ rfl (fun _ => rfl) (le_refl _) id).trans (calm_handClearing _ _ _ _)

theorem calm_beginRecover (s : State) (g : GroupId) : Calm P s (s.beginRecover g) :=
  (calm_modGroup s g _ rfl (fun _ => rfl) (le_refl _) id).trans (calm_handSlotRead _ _ _ _)

theorem calm_handFormatHeader (s : State) (g : GroupId) (c : Copy) : Calm P s (s.handFormatHeader g c) :=
  calm_handSlotWrite _ _ _ _ _ _ (by decide)

theorem calm_formatCleared (s : State) (g : GroupId) (r : Role) : Calm P s (s.formatCleared g r) := by
  unfold State.formatCleared
  split
  · split
    · exact calm_handClearing _ _ _ _
    · exact calm_handFormatHeader _ _ _
  · exact Calm.refl s

theorem calm_formatFailed (s : State) (g : GroupId) (r : Role) : Calm P s (s.formatFailed g r) :=
  (calm_modGroup s g _ rfl (fun _ => rfl) (le_refl _) id).trans (calm_enterFaulted _ _ _)

theorem calm_execFormatClearingWrite (i : PlaceId) (a : MemAnswer) (s : State) :
    CalmNext P s (execFormatClearingWrite i a s) :=
  calm_takeOwn s i a _ _ _ (fun _ _ g _ r _ u => calm_formatCleared u g r) (fun g r u => calm_formatFailed u g r)

/-- The end of a format sets its own group's epoch number. -/
theorem calm_formatHeaderDone (s : State) (g : GroupId) (r : Role) (hg : P g) :
    Calm P s (s.formatHeaderDone g r) := by
  unfold State.formatHeaderDone
  split
  · exact calm_handFormatHeader _ _ _
  · exact (calm_modGroup s g _ rfl (fun h => absurd hg h) (le_refl _) id).trans (calm_latch _ _)
  · exact Calm.refl s

theorem calm_execFormatHeaderWrite (i : PlaceId) (a : MemAnswer) (s : State)
    (hP : ∀ x, s.mem.places[i] = some x → ∀ g, x.ownGroup = some g → P g) :
    CalmNext P s (execFormatHeaderWrite i a s) :=
  calm_takeOwn s i a _ _ _ (fun x hx g hg r _ u => calm_formatHeaderDone u g r (hP x hx g hg))
    (fun g r u => calm_formatFailed u g r)

theorem calm_endRecovery (s : State) (g : GroupId) (st : GroupState) (r : RecoveryResult) :
    Calm P s (s.endRecovery g st r) :=
  (calm_modGroup s g _ rfl (fun _ => rfl) (le_refl _) id).trans (calm_latch _ _)

theorem calm_recoveryFailed (s : State) (g : GroupId) (f : FaultRecord) : Calm P s (s.recoveryFailed g f) :=
  (calm_modGroup s g _ rfl (fun _ => rfl) (le_refl _) id).trans (calm_enterFaulted _ _ _)

/-- The choice of a header sets its own group's epoch number. -/
theorem calm_choose (s : State) (g : GroupId) (j : CopyJudgement) (hg : P g) : Calm P s (s.choose g j) := by
  unfold State.choose
  split
  · exact (calm_modGroup s g _ rfl (fun h => absurd hg h) (le_refl _) id).trans (calm_handSlotRead _ _ _ _)
  · exact calm_endRecovery _ _ _ _
  · exact calm_endRecovery _ _ _ _

theorem calm_headerWasRead (s : State) (g : GroupId) (r : Role) (d : List Byte) (hg : P g) :
    Calm P s (s.headerWasRead g r d) := by
  unfold State.headerWasRead
  split
  · exact (calm_modGroup s g _ rfl (fun _ => rfl) (le_refl _) id).trans (calm_handSlotRead _ _ _ _)
  · exact calm_choose _ _ _ hg
  · exact Calm.refl s

theorem calm_execHeaderRead (i : PlaceId) (a : MemAnswer) (s : State)
    (hP : ∀ x, s.mem.places[i] = some x → ∀ g, x.ownGroup = some g → P g) : CalmNext P s (execHeaderRead i a s) :=
  calm_takeOwn s i a _ _ _ (fun x hx g hg r d u => calm_headerWasRead u g r d (hP x hx g hg))
    (fun _ _ _ => calm_recoveryFailed _ _ _)

theorem calm_endScan (s : State) (g : GroupId) : Calm P s (s.endScan g) := by
  unfold State.endScan
  split
  · exact calm_endRecovery _ _ _ _
  · exact (calm_modGroup s g _ rfl (fun _ => rfl) (le_refl _) id).trans (calm_handSlotRead _ _ _ _)

theorem calm_slotScanned (s : State) (g : GroupId) (d : List Byte) : Calm P s (s.slotScanned g d) := by
  unfold State.slotScanned
  split
  · unfold State.countRecord
    split
    · exact (calm_modGroup s g _ rfl (fun _ => rfl) (le_refl _) id).trans (calm_handSlotRead _ _ _ _)
    · exact (calm_modGroup s g _ rfl (fun _ => rfl) (le_refl _) id).trans (calm_endScan _ _)
  · exact calm_endScan _ _

theorem calm_execScanRead (i : PlaceId) (a : MemAnswer) (s : State) : CalmNext P s (execScanRead i a s) :=
  calm_takeOwn s i a _ _ _ (fun _ _ g _ _ d u => calm_slotScanned u g d) (fun _ _ _ => calm_recoveryFailed _ _ _)

theorem calm_slotReplayed (s : State) (g : GroupId) (d : List Byte) : Calm P s (s.slotReplayed g d) := by
  unfold State.slotReplayed
  split
  · exact calm_handRestore _ _ _ _ _
  · exact calm_recoveryFailed _ _ _

theorem calm_execReplayRead (i : PlaceId) (a : MemAnswer) (s : State) : CalmNext P s (execReplayRead i a s) :=
  calm_takeOwn s i a _ _ _ (fun _ _ g _ _ d u => calm_slotReplayed u g d) (fun _ _ _ => calm_recoveryFailed _ _ _)

theorem calm_recordRestored (s : State) (g : GroupId) : Calm P s (s.recordRestored g) := by
  unfold State.recordRestored
  refine (calm_modGroup s g (fun x => { x with journalLength := x.journalLength - 1 }) rfl (fun _ => rfl)
    (le_refl _) id).trans ?_
  unfold State.afterRestore
  split
  · exact calm_handHeader _ _ _ _
  · exact calm_handSlotRead _ _ _ _

theorem calm_execRecoveryRestoreWrite (i : PlaceId) (a : MemAnswer) (s : State) :
    CalmNext P s (execRecoveryRestoreWrite i a s) :=
  calm_takeOwn s i a _ _ _ (fun _ _ g _ _ _ u => calm_recordRestored u g) (fun _ _ _ => calm_recoveryFailed _ _ _)

/-- The end of a replay moves its own group's epoch number. -/
theorem calm_recoveryClosed (s : State) (g : GroupId) (hg : P g) : Calm P s (s.recoveryClosed g) :=
  (calm_modGroup s g _ rfl (fun h => absurd hg h) (le_refl _) id).trans (calm_endRecovery _ _ _ _)

theorem calm_execRecoveryHeaderWrite (i : PlaceId) (a : MemAnswer) (s : State)
    (hP : ∀ x, s.mem.places[i] = some x → ∀ g, x.ownGroup = some g → P g) :
    CalmNext P s (execRecoveryHeaderWrite i a s) :=
  calm_takeOwn s i a _ _ _ (fun x hx g hg _ _ u => calm_recoveryClosed u g (hP x hx g hg))
    (fun _ _ _ => calm_recoveryFailed _ _ _)

end Sys2Proof.Machine
end

