-- ==== Sys2Proof/Laws/Keeps.lean ====
section
/-! SUPPORT. The relation Keeps: the sound forms of Safety.lean that hold before a command hold after it. Every calm command keeps them; the commands that are not calm (a mark, an accepted request, the triggers, the resets, the configuration writes and the activations) keep them each for its own reason. -/

namespace Sys2Proof.Machine

/-- Whichever of the sound forms holds of `s` holds of `t`. -/
structure Keeps (s t : State) : Prop where
  table : tableOk s.table → tableOk t.table
  queues : s.queuesFit → t.queuesFit
  levels : s.levelsFit → t.levelsFit
  sets : s.setsDisjoint → t.setsDisjoint
  counters : s.countersFit → t.countersFit
  classes : s.classesSound → t.classesSound

theorem Keeps.refl (s : State) : Keeps s s := ⟨id, id, id, id, id, id⟩

theorem Keeps.trans {s t u : State} (h : Keeps s t) (k : Keeps t u) : Keeps s u :=
  ⟨fun x => k.table (h.table x), fun x => k.queues (h.queues x), fun x => k.levels (h.levels x),
    fun x => k.sets (h.sets x), fun x => k.counters (h.counters x), fun x => k.classes (h.classes x)⟩

/-- What is calm keeps the sound forms. -/
theorem Calm.keeps {P : GroupId → Prop} {s t : State} (h : Calm P s t) : Keeps s t where
  table := h.table
  queues hq p := (h.queue p).trans (hq p)
  levels hl g := (h.level g).trans (hl g)
  sets hs p g k hg hk := by
    rw [h.config] at hg hk
    exact hs p g k hg hk
  counters hc := ⟨fun g => h.stats g (hc.1 g), fun p => h.refusals p (hc.2.1 p), fun n => by
    have : t.trigger n = s.trigger n := by unfold State.trigger; rw [h.triggers]
    rw [this]; exact hc.2.2 n⟩
  classes := h.classes

/-- Two states that agree on the table, the ports, the groups and the triggers keep the sound forms. -/
theorem keeps_plain {s t : State} (ht : t.table = s.table) (hp : t.ports = s.ports) (hg : t.groups = s.groups)
    (hn : t.triggers = s.triggers) (hc : s.classesSound → t.classesSound) : Keeps s t where
  table h := by rwa [ht]
  queues h p := by simpa [State.port, hp] using h p
  levels h g := by simpa [State.group, hg] using h g
  sets h p g k h1 h2 := h p g k (by simpa [State.group, hg] using h1) (by simpa [State.group, hg] using h2)
  counters h := ⟨fun g => by simpa [State.group, hg] using h.1 g, fun p => by simpa [State.port, hp] using h.2.1 p,
    fun n => by simpa [State.trigger, hn] using h.2.2 n⟩
  classes := hc

/-- The outcome is a next state that keeps the sound forms. -/
def KeepsNext (s : State) (o : Host.Outcome State Fault Refusal) : Prop := ∃ t, o = .next t ∧ Keeps s t

theorem KeepsNext.stay (s : State) : KeepsNext s (.next s) := ⟨s, rfl, Keeps.refl s⟩

theorem KeepsNext.of {s t : State} (h : Keeps s t) : KeepsNext s (.next t) := ⟨t, rfl, h⟩

theorem CalmNext.keeps {P : GroupId → Prop} {s : State} {o : Host.Outcome State Fault Refusal}
    (h : CalmNext P s o) : KeepsNext s o := by
  obtain ⟨t, ht, hc⟩ := h
  exact ⟨t, ht, hc.keeps⟩

theorem mem_of_presented {m : MemPort} {src : Source} {x : Txn} (h : m.presented src = some x) : x ∈ m.waiting := by
  unfold MemPort.presented at h
  exact List.mem_of_find?_eq_some (Option.filter_eq_some_iff.1 h).1

theorem earlier_mem {P : Txn → Prop} {a b : Option Txn} (ha : ∀ x ∈ a, P x) (hb : ∀ x ∈ b, P x) :
    ∀ x ∈ earlier a b, P x := by
  unfold earlier
  split
  · exact hb
  · exact ha
  · split
    · exact hb
    · exact ha

theorem mem_of_winner {m : MemPort} {c : TxnClass} {x : Txn} (h : m.winner c = some x) : x ∈ m.waiting := by
  have hp : ∀ g, ∀ y ∈ m.presentedOf c g, y ∈ m.waiting := fun g y hy =>
    mem_of_presented (Option.filter_eq_some_iff.1 hy).1
  have hn : ∀ y ∈ (none : Option Txn), y ∈ m.waiting := fun y hy => by cases hy
  exact earlier_mem (earlier_mem (earlier_mem (earlier_mem hn (hp 0)) (hp 1)) (hp 2)) (hp 3) x h

/-- What a place is granted was waiting. -/
theorem mem_of_grantChoice {s : State} {i : PlaceId} {x : Txn} (h : s.grantChoice i = some x) : x ∈ s.mem.waiting := by
  unfold State.grantChoice at h
  split at h
  · cases h
  · unfold MemPort.choice at h
    split at h
    · next hw => rw [← Option.some.inj h]; exact mem_of_winner hw
    · split at h
      · next hw => rw [← Option.some.inj h]; exact mem_of_winner hw
      · obtain ⟨p, -, hp⟩ := Option.bind_eq_some_iff.1 h
        exact mem_of_presented hp

theorem classes_granted (s : State) (i : PlaceId) (x : Txn) (hx : x ∈ s.mem.waiting) (e : Emission) (h : s.classesSound) :
    ({ s with mem := s.mem.granted i x }.emit e).classesSound := by
  rw [classesSound_iff] at h ⊢
  refine ⟨fun y hy => h.1 y (List.mem_of_mem_eraseP hy), fun j y hy => ?_⟩
  have hy' : (s.mem.places.set i (some x))[j] = some y := hy
  rw [Fin.getElem_fin, Vector.getElem_set] at hy'
  split at hy'
  · rw [← Option.some.inj hy']; exact h.1 x hx
  · exact h.2 j y hy'

theorem keeps_execGrant (i : PlaceId) (s : State) : KeepsNext s (execGrant i s) := by
  unfold execGrant
  split
  · next x hx => exact .of (keeps_plain rfl rfl rfl rfl (classes_granted s i x (mem_of_grantChoice hx) _))
  · exact .stay s

/-! ### Pieces -/

/-- One group changed, its configuration kept. -/
theorem keeps_modGroup (s : State) (g : GroupId) (f : Group → Group)
    (hc : (f (s.group g)).config.participants = (s.group g).config.participants)
    (hl : (s.group g).level ≤ levelLimit → (f (s.group g)).level ≤ levelLimit)
    (hs : (s.group g).stats.bounded → (f (s.group g)).stats.bounded) : Keeps s (s.modGroup g f) where
  table := id
  queues h := h
  levels h k := by
    rw [State.modGroup_group]
    split
    · exact hl (h g)
    · exact h k
  sets h p a b ha hb := by
    have key : ∀ k, ((s.modGroup g f).group k).config.participants = (s.group k).config.participants := by
      intro k; rw [State.modGroup_group]; split <;> simp_all
    rw [key] at ha hb
    exact h p a b ha hb
  counters h := ⟨fun k => by rw [State.modGroup_group]; split <;> [exact hs (h.1 g); exact h.1 k], h.2.1, h.2.2⟩
  classes h := h

/-- One port changed. -/
theorem keeps_modPort (s : State) (p : PortId) (f : Port → Port)
    (hq : (s.port p).queue.length ≤ queuePlaces → (f (s.port p)).queue.length ≤ queuePlaces)
    (hr : (s.port p).refusalCount ≤ countLimit → (f (s.port p)).refusalCount ≤ countLimit) :
    Keeps s (s.modPort p f) where
  table := id
  queues h k := by rw [State.modPort_port]; split <;> [exact hq (h p); exact h k]
  levels h := h
  sets h := h
  counters h := ⟨h.1, fun k => by rw [State.modPort_port]; split <;> [exact hr (h.2.1 p); exact h.2.1 k], h.2.2⟩
  classes h := h

/-- One trigger input changed. -/
theorem keeps_modTrigger (s : State) (n : TrigId) (f : Trigger → Trigger)
    (hc : (s.trigger n).count ≤ countLimit → (f (s.trigger n)).count ≤ countLimit) : Keeps s (s.modTrigger n f) where
  table := id
  queues h := h
  levels h := h
  sets h := h
  counters h := ⟨h.1, h.2.1, fun m => by rw [State.modTrigger_trigger]; split <;> [exact hc (h.2.2 n); exact h.2.2 m]⟩
  classes h := h

/-! ### Commands -/

theorem keeps_execRequestAccept (p : PortId) (r : BusRequest) (s : State) : KeepsNext s (execRequestAccept p r s) := by
  unfold execRequestAccept
  split
  · next h =>
    refine .of ((keeps_modPort s p _ (fun _ => ?_) id).trans (calm_settle (P := fun _ => True) _ _).keeps)
    have : (s.port p).queue.length < queuePlaces := by
      simp only [State.accepts, Bool.and_eq_true, decide_eq_true_eq] at h
      exact h.2
    simpa using this
  · exact .stay s

theorem keeps_execPrstDeassert (p : PortId) (s : State) : KeepsNext s (execPrstDeassert p s) :=
  .of (keeps_modPort s p _ id id)

theorem keeps_mark (s : State) (g : GroupId) (p : PortId) : Keeps s (s.mark g p) := by
  unfold State.mark
  split
  · unfold State.pushMark
    split
    · next h =>
      refine (keeps_modGroup s g _ rfl (fun _ => ?_) id).trans (calm_answer (P := fun _ => True) _ _ _).keeps
      simpa [Group.level] using h
    · exact (calm_refuseCommand (P := fun _ => True) _ _ _).keeps
  · exact (calm_refuseCommand (P := fun _ => True) _ _ _).keeps
  · exact (calm_refuseCommand (P := fun _ => True) _ _ _).keeps
  · exact (calm_refuseCommand (P := fun _ => True) _ _ _).keeps

theorem keeps_execMark (p : PortId) (a : Fin 8) (s : State) : KeepsNext s (execMark p a s) := by
  refine .of ?_
  unfold State.takeCommand
  split
  · split
    · exact (calm_refuseCommand (P := fun _ => True) _ _ _).keeps
    · split
      · exact (calm_refuseCommand (P := fun _ => True) _ _ _).keeps
      · exact keeps_mark _ _ _
  · exact Keeps.refl s

theorem calm_triggerGroups {P : GroupId → Prop} (s : State) (n : TrigId) (gs : List GroupId) :
    Calm P s (s.triggerGroups n gs) := Calm.foldl (fun s g => calm_abortCause s g (.trigger n)) gs s

theorem keeps_execTriggerEvent (n : TrigId) (s : State) : KeepsNext s (execTriggerEvent n s) := by
  unfold execTriggerEvent
  split
  · exact .of ((calm_tick (P := fun _ => True) s).keeps.trans
      ((keeps_modTrigger _ n _ (fun _ => countUp_le _ _)).trans
        ((calm_latch (P := fun _ => True) _ _).trans (calm_triggerGroups _ _ _)).keeps))
  · exact .stay s

theorem keeps_execTriggerInputLow (n : TrigId) (s : State) : KeepsNext s (execTriggerInputLow n s) :=
  .of (keeps_modTrigger s n _ id)

/-! ### Resets -/

theorem stats_reset_bounded : Stats.reset.bounded := by simp [Stats.bounded, Stats.reset]

theorem keeps_deviceReset (s : State) : Keeps s s.deviceReset where
  table _ := tableOk_nil
  queues _ p := by simp [State.deviceReset, State.port, Port.atReset, Port.reset]
  levels _ g := by simp [State.deviceReset, State.group, Group.reset, Group.level]
  sets _ p g k hg _ := by
    revert hg
    simp [State.deviceReset, State.group, Group.reset, GroupConfig.reset, FourSet.empty]
  counters _ := ⟨fun g => by simpa [State.deviceReset, State.group, Group.reset] using stats_reset_bounded,
    fun p => by simp [State.deviceReset, State.port, Port.atReset, Port.reset],
    fun n => by simp [State.deviceReset, State.trigger, Trigger.reset]⟩
  classes _ := by
    have hh : MemPort.reset.held = [] := by decide
    intro x hx
    have hx' : x ∈ MemPort.reset.held := hx
    rw [hh] at hx'
    cases hx'

theorem keeps_execPowerOn (s : State) : KeepsNext s (execPowerOn s) := .of (keeps_deviceReset s)

theorem keeps_execResetNAssert (s : State) : KeepsNext s (execResetNAssert s) :=
  .of ((keeps_deviceReset s).trans (keeps_plain rfl rfl rfl rfl id))

theorem setLevels_count (ts : Four Trigger) (l : Four Bool) (n : TrigId) :
    ((setLevels ts l).get n).count = (ts.get n).count := by fin_cases n <;> rfl

theorem keeps_execResetNDeassert (l : Four Bool) (s : State) : KeepsNext s (execResetNDeassert l s) := by
  unfold execResetNDeassert
  split
  · refine .of ⟨id, fun h => h, fun h => h, fun h => h, fun h => ⟨h.1, h.2.1, fun n => ?_⟩, fun h => h⟩
    have := h.2.2 n
    simp only [State.trigger, setLevels_count] at this ⊢
    exact this
  · exact .stay s

theorem classFits_orphanedByPort (p : PortId) (x : Txn) (h : x.classFits) : (x.orphanedByPort p).classFits := by
  unfold Txn.orphanedByPort
  split
  · exact h
  · exact h

theorem keeps_flushPort (s : State) (p : PortId) : Keeps s (s.flushPort p) := by
  refine (keeps_modPort s p Port.flushed (by simp [Port.flushed]) (by simp [Port.flushed])).trans ?_
  refine ⟨fun h => tableOk_leaveWaiters h p, fun h => h, fun h g => ?_, fun h q g k hg hk => ?_,
    fun h => ⟨fun g => ?_, h.2.1, h.2.2⟩, fun h => classes_mapTxns _ _ (classFits_orphanedByPort p) h⟩
  · simpa [State.flushPort, State.group, State.mapTxns, Group.level, Group.leftBy] using h g
  · refine h q g k ?_ ?_
    · simpa [State.flushPort, State.group, State.mapTxns, Group.leftBy] using hg
    · simpa [State.flushPort, State.group, State.mapTxns, Group.leftBy] using hk
  · simpa [State.flushPort, State.group, State.mapTxns, Group.leftBy] using h.1 g

theorem calm_startEach {P : GroupId → Prop} (s : State) (gs : List GroupId) : Calm P s (s.startEach gs) :=
  Calm.foldl calm_startHeads _ s

theorem calm_drainAll {P : GroupId → Prop} (s : State) : Calm P s s.drainAll := Calm.foldl calm_drainCheck _ s

theorem calm_portAbort {P : GroupId → Prop} (s : State) (p : PortId) : Calm P s (s.portAbort p) := by
  unfold State.portAbort
  split
  · exact Calm.refl s
  · exact calm_abortCause _ _ _

theorem keeps_portReset (s : State) (p : PortId) : Keeps s (s.portReset p) :=
  (keeps_flushPort s p).trans
    (((calm_startEach (P := fun _ => True) _ _).trans (calm_portAbort _ p)).trans (calm_drainAll _)).keeps

theorem keeps_execPortReset (p : PortId) (s : State) : KeepsNext s (execPortReset p s) := by
  unfold execPortReset
  split
  · exact .stay s
  · exact .of ((calm_tick (P := fun _ => True) s).keeps.trans (keeps_portReset _ _))

theorem keeps_softReset (s : State) : Keeps s s.softReset where
  table _ := tableOk_nil
  queues _ p := by simp [State.softReset, State.port, Port.softReset, Port.reset]
  levels _ g := by simp [State.softReset, State.group, Group.softReset, Group.reset, Group.level]
  sets h p g k hg hk := h p g k
    (by simpa [State.softReset, State.group, Group.softReset] using hg)
    (by simpa [State.softReset, State.group, Group.softReset] using hk)
  counters h := ⟨fun g => by
      simpa [State.softReset, State.group, Group.softReset, Group.reset] using stats_reset_bounded,
    fun p => by simp [State.softReset, State.port, Port.softReset, Port.reset],
    fun n => by simp [State.softReset, State.trigger, Trigger.softReset]⟩
  classes h := classes_mapTxns s Txn.softReset (fun _ hx => hx) h

/-! ### The management port -/

theorem keeps_modMgmt (s : State) (f : Mgmt → Mgmt) : Keeps s (s.modMgmt f) := keeps_plain rfl rfl rfl rfl id

theorem keeps_writeShadow (s : State) (i : EntryId) (w : Span) : Keeps s (s.writeShadow i w).1 := by
  unfold State.writeShadow
  split
  · exact Keeps.refl s
  · split
    · exact Keeps.refl s
    · exact keeps_plain rfl rfl rfl rfl id

/-- A configured group keeps its counters and marks. -/
theorem configured_rest (x : Group) (w : Span) :
    (x.configured w).marks = x.marks ∧ (x.configured w).stats = x.stats
      ∧ (x.configured w).config = x.config.written w := by
  unfold Group.configured
  split <;> exact ⟨rfl, rfl, rfl⟩

/-- A write whose checks pass takes no port that another group's set holds. -/
theorem noConflict_of_configFault {s : State} {g : GroupId} {w : Span} (h : s.configFault g w = none) :
    w.touchesSet = true → s.setConflict g ((s.group g).config.written w).participants = false := by
  intro hw
  unfold State.configFault at h
  repeat' split at h
  all_goals first
    | (simp at h; done)
    | next hn _ => rw [Bool.eq_false_iff]; intro hc; exact hn (by simp [hw, hc])

/-- The participant set that a write leaves (R4): the one written, or the old one. -/
theorem written_participants (c : GroupConfig) (w : Span) (h : w.touchesSet = false) :
    (c.written w).participants = c.participants := by
  have : w.value 12 1 = none := by
    unfold Span.value
    unfold Span.touchesSet at h
    simp [h]
  simp [GroupConfig.written, Span.pick, this]

theorem keeps_writeConfig (s : State) (g : GroupId) (w : Span) : Keeps s (s.writeConfig g w).1 := by
  unfold State.writeConfig
  split
  · exact Keeps.refl s
  · next hf =>
    refine ⟨id, fun h => h, fun h k => ?_, fun h p a b ha hb => ?_, fun h => ⟨fun k => ?_, h.2.1, h.2.2⟩, fun h => h⟩
    · rw [State.modGroup_group]
      split
      · unfold Group.level; rw [(configured_rest _ _).1]; exact h g
      · exact h k
    · have new : ∀ k, k ≠ g → (((s.group g).config.written w).participants.get p = true →
          (s.group k).config.participants.get p = true → False) := by
        intro k hk hn ho
        by_cases hold : (s.group g).config.participants.get p = true
        · exact hk (h p k g ho hold)
        · cases hw : w.touchesSet with
          | false => rw [written_participants _ _ hw] at hn; exact hold hn
          | true =>
            have hc := noConflict_of_configFault hf hw
            unfold State.setConflict State.takenElsewhere othersOf at hc
            rw [List.any_eq_false] at hc
            refine hc p (by fin_cases p <;> decide) ?_
            simp only [Bool.and_eq_true, Bool.not_eq_true', List.any_eq_true]
            refine ⟨⟨hn, by simpa using hold⟩, k, ?_, ho⟩
            simp only [List.mem_filter, bne_iff_ne, ne_eq, hk, not_false_eq_true, and_true]
            fin_cases k <;> decide
      by_cases hag : a = g <;> by_cases hbg : b = g
      · rw [hag, hbg]
      · exfalso
        subst hag
        simp only [State.modGroup_group, if_true, if_neg hbg, (configured_rest _ _).2.2] at ha hb
        exact new b hbg ha hb
      · exfalso
        subst hbg
        simp only [State.modGroup_group, if_true, if_neg hag, (configured_rest _ _).2.2] at ha hb
        exact new a hag hb ha
      · simp only [State.modGroup_group, if_neg hag, if_neg hbg] at ha hb
        exact h p a b ha hb
    · rw [State.modGroup_group]
      split
      · rw [(configured_rest _ _).2.1]; exact h.1 g
      · exact h.1 k

theorem keeps_writeObject (s : State) (o : Writable) (w : Span) : Keeps s (s.writeObject o w).1 := by
  unfold State.writeObject
  split
  · exact keeps_writeShadow _ _ _
  · exact keeps_writeConfig _ _ _
  · unfold State.writeTrigger
    split
    · exact keeps_modTrigger s _ (fun t => t.written w) id
    · exact Keeps.refl s
  · unfold State.writeMask
    split
    · exact keeps_plain rfl rfl rfl rfl id
    · exact Keeps.refl s

theorem keeps_activate (s : State) : Keeps s s.activate.1 := by
  unfold State.activate
  split
  · exact Keeps.refl s
  · split
    · exact Keeps.refl s
    · split <;> exact keeps_plain rfl rfl rfl rfl id

theorem keeps_cancel (s : State) : Keeps s s.cancel.1 := by
  unfold State.cancel
  split
  · exact keeps_plain rfl rfl rfl rfl id
  · exact Keeps.refl s

theorem calm_format {P : GroupId → Prop} (s : State) (g : GroupId) : Calm P s (s.format g).1 := by
  unfold State.format
  split
  · exact calm_beginFormat _ _
  · exact Calm.refl s

theorem calm_recover {P : GroupId → Prop} (s : State) (g : GroupId) : Calm P s (s.recover g).1 := by
  unfold State.recover
  split
  · exact calm_beginRecover _ _
  · exact Calm.refl s

theorem calm_forceAbort {P : GroupId → Prop} (s : State) (g : GroupId) : Calm P s (s.forceAbort g).1 := by
  unfold State.forceAbort
  split
  · exact calm_enterRollingBack _ _ _
  · split <;> exact Calm.refl s

theorem calm_clearFault {P : GroupId → Prop} (s : State) (g : GroupId) : Calm P s (s.clearFault g).1 := by
  unfold State.clearFault
  split
  · exact calm_modGroup s g (fun x => { x with state := .unverified }) rfl (fun _ => rfl) (le_refl _) id
  · exact Calm.refl s

theorem calm_clearRefusal {P : GroupId → Prop} (s : State) (p : PortId) : Calm P s (s.clearRefusal p).1 :=
  calm_modPort s p (fun x => { x with refusal := none, refusalCount := 0 }) (le_refl _) rfl (fun _ => Nat.zero_le _)

theorem calm_clearStats {P : GroupId → Prop} (s : State) (g : GroupId) : Calm P s (s.clearStats g).1 :=
  calm_modGroup s g (fun x => { x with stats := Stats.reset }) rfl (fun _ => rfl) (le_refl _) (fun _ => stats_reset_bounded)

theorem calm_readObject {P : GroupId → Prop} (s : State) (o : Object) (a n : Nat) : Calm P s (s.readObject o a n).1 :=
  (calm_drawn s).trans (calm_drawn _)

theorem keeps_carryOut (s : State) (d : Decision) : Keeps s (s.carryOut d).1 := by
  unfold State.carryOut
  split
  · exact Keeps.refl s
  · exact Keeps.refl s
  · next o a n => exact (calm_readObject (P := fun _ => True) s o a n).keeps
  · exact keeps_writeObject _ _ _
  · exact keeps_activate s
  · exact keeps_cancel s
  · exact (calm_format (P := fun _ => True) _ _).keeps
  · exact (calm_recover (P := fun _ => True) _ _).keeps
  · exact (calm_forceAbort (P := fun _ => True) _ _).keeps
  · exact (calm_clearFault (P := fun _ => True) _ _).keeps
  · exact (calm_clearRefusal (P := fun _ => True) _ _).keeps
  · exact keeps_plain rfl rfl rfl rfl id
  · exact (calm_clearStats (P := fun _ => True) _ _).keeps
  · exact keeps_softReset s

theorem keeps_decideAs (s : State) (d : Decision) : Keeps s (s.decideAs d) :=
  (keeps_carryOut s d).trans (keeps_modMgmt _ _)

theorem keeps_decideRow (s : State) (row : Decision → Bool) : KeepsNext s (s.decideRow row) := by
  unfold State.decideRow
  split
  · exact .stay s
  · split
    · exact .of ((calm_tick (P := fun _ => True) s).keeps.trans (keeps_decideAs _ _))
    · exact .stay s

theorem keeps_requestFrame (s : State) (bytes : List Byte) (c : Bool) : Keeps s (s.requestFrame bytes c) := by
  have h1 : Keeps s s.tick.decideHeld := by
    refine (calm_tick (P := fun _ => True) s).keeps.trans ?_
    unfold State.decideHeld
    split
    · exact Keeps.refl _
    · exact keeps_decideAs _ _
  have h2 : Keeps s.tick.decideHeld (s.tick.decideHeld.holdRequest bytes c) := by
    unfold State.holdRequest
    split
    · exact Keeps.refl _
    · exact keeps_modMgmt _ _
  exact (h1.trans h2).trans (keeps_plain rfl rfl rfl rfl id)

@[simp] theorem staleBytes_length (n draws : Nat) (m : List Byte) : (staleBytes n draws m).length = n + 1 := by
  simp [staleBytes]

/-- A byte of a stale FETCH frame has a 1 wherever RESET_N was asserted while its bit was clocked (R171). -/
theorem staleBytes_inReset {n draws i : Nat} {m : List Byte} {k x : Byte} (hm : m[i]? = some k)
    (hx : (staleBytes n draws m)[i + 1]? = some x) : x &&& k = k := by
  have hi : i < n := by
    have := (List.getElem?_eq_some_iff.mp hx).1
    simpa using this
  have : x = k ||| Config.staleByte draws i := by
    simpa [staleBytes, List.getElem?_range hi, hm] using hx.symm
  subst this
  exact BitVec.eq_of_getLsbD_eq fun j hj => by simp; cases k.getLsbD j <;> simp

theorem calm_staleFetch {P : GroupId → Prop} (s : State) (n : Nat) (m : List Byte) : Calm P s (s.staleFetch n m) :=
  (calm_drawn s).trans (calm_emit _ _)

theorem calm_staleFrame {P : GroupId → Prop} (s : State) (bytes m : List Byte) :
    Calm P s (s.staleFrame bytes m) := by
  unfold State.staleFrame
  split
  · exact Calm.refl s
  · split
    · exact calm_staleFetch _ _ _
    · exact calm_emit _ _

theorem keeps_execRequestFrame (bytes : List Byte) (c : Bool) (span : FrameSpan) (s : State) :
    KeepsNext s (execRequestFrame bytes c span s) := by
  unfold execRequestFrame
  split
  · exact .of (calm_staleFrame (P := fun _ => True) s bytes _).keeps
  · split
    · exact .of (keeps_plain rfl rfl rfl rfl id)
    · refine .of ?_
      unfold State.frame
      split
      · exact Keeps.refl s
      · split
        · exact keeps_plain rfl rfl rfl rfl id
        · exact keeps_requestFrame _ _ _

theorem keeps_execFetch (more : List Byte) (span : FrameSpan) (s : State) :
    KeepsNext s (execFetch more span s) := by
  unfold execFetch
  split
  · exact .of (calm_staleFetch (P := fun _ => True) s _ _).keeps
  · split
    · exact .of (keeps_plain rfl rfl rfl rfl id)
    · exact .of (keeps_plain rfl rfl rfl rfl id)

theorem keeps_execSoftResetResponse (s : State) : KeepsNext s (execSoftResetResponse s) := by
  unfold execSoftResetResponse
  split
  · exact .of (keeps_modMgmt _ _)
  · exact .stay s

theorem keeps_execMapActivationComplete (s : State) : KeepsNext s (execMapActivationComplete s) := by
  unfold execMapActivationComplete
  split
  · exact .of (keeps_plain rfl rfl rfl rfl id)
  · exact .stay s

end Sys2Proof.Machine
end

