-- ==== Sys2Proof/Laws/Media.lean ====
section
/-! SUPPORT. Laws of the slot formats (05, R88 to R91): the bytes of a number give the number back, a field reads what stands at its place, and a sealed slot has a good check. -/

namespace Sys2Proof.Machine

@[simp] theorem leBytes_length (n v : Nat) : (leBytes n v).length = n := by
  induction n generalizing v with
  | zero => rfl
  | succ n ih => simp [leBytes, ih]

theorem leNat_leBytes (n v : Nat) : leNat (leBytes n v) = v % 256 ^ n := by
  induction n generalizing v with
  | zero => simp [leBytes, leNat, Nat.mod_one]
  | succ n ih =>
    simp only [leBytes, leNat, ih, BitVec.toNat_ofNat]
    rw [show (256 : Nat) ^ (n + 1) = 256 * 256 ^ n by rw [Nat.pow_succ, Nat.mul_comm], Nat.mod_mul]

/-- A little-endian field reads the number written at its place. -/
theorem fieldAt_append (pre post : List Byte) (n v off : Nat) (h : off = pre.length) :
    fieldAt (pre ++ (leBytes n v ++ post)) off n = v % 256 ^ n := by
  subst h
  unfold fieldAt
  rw [List.drop_left, List.take_append_of_le_length (by simp), List.take_of_length_le (by simp), leNat_leBytes]

theorem sealSlot_length (b : List Byte) (h : b.length = 124) : (sealSlot b).length = 128 := by
  simp [sealSlot, h]

/-- The check of a slot that the block composed is good (R90). -/
theorem checkGood_sealSlot (b : List Byte) (h : b.length = 124) : checkGood (sealSlot b) = true := by
  unfold checkGood sealSlot
  rw [List.take_append_of_le_length (by omega), List.take_of_length_le (by omega)]
  have hf := fieldAt_append b [] 4 (checkValue b).toNat 124 h.symm
  rw [List.append_nil] at hf
  rw [hf]
  have := (checkValue b).isLt
  simp; omega

theorem recordSlot_length (g : GroupId) (st : JournalStep) (contents : List Byte) (h : contents.length = 64) :
    (recordSlot g st contents).length = 128 :=
  sealSlot_length _ (by simp [zeroBytes, h])

theorem headerSlot_length (g : GroupId) (c : Copy) (x : HeaderState) (e : Epoch) (n : Nat) :
    (headerSlot g c x e n).length = 128 :=
  sealSlot_length _ (by simp [zeroBytes])

theorem checkGood_recordSlot (g : GroupId) (st : JournalStep) (contents : List Byte) (h : contents.length = 64) :
    checkGood (recordSlot g st contents) = true :=
  checkGood_sealSlot _ (by simp [zeroBytes, h])

theorem checkGood_headerSlot (g : GroupId) (c : Copy) (x : HeaderState) (e : Epoch) (n : Nat) :
    checkGood (headerSlot g c x e n) = true :=
  checkGood_sealSlot _ (by simp [zeroBytes])

/-- Data of the size asked for is taken as it is. -/
theorem fitBytes_of_length (n : Nat) (b : List Byte) (h : b.length = n) : fitBytes n b = b := by
  unfold fitBytes
  rw [List.take_append_of_le_length (by omega), List.take_of_length_le (by omega)]

end Sys2Proof.Machine
end

