-- ==== Sys2Proof/Tests/Slice0.lean ====
section
/-! SUPPORT. The model's own tests: what WellFormed refuses, check values and worked examples of the spec, one step on a small state, and for every statement with hypotheses a state and operands that meet them. -/

namespace Sys2Proof.Tests

set_option Elab.async false

open Sys2Proof.Machine

/-! ### Helpers -/

/-- A group of RP0 and RP1, OPEN in epoch 5, with 16 slots at byte 0x10000 (blocks 0x400 to 0x41F). -/
def openGroup : Group :=
  { Group.reset with
    config := { GroupConfig.reset with
      base := 0x10000, slots := 16, participants := { at0 := true, at1 := true, at2 := false, at3 := false },
      voteWindow := 5, autoOpen := true, quota := 8 }
    state := .opened
    closedEpoch := 4
    effectiveQuota := 8 }

/-- A domain of blocks 0 to 99 in which every port may read and write. -/
def domain (k : DomainKind) : DomainEntry :=
  { valid := true, base := 0, limit := 99, kind := k, group := some 0, grants := Four.const .readWrite }

/-- The domain map with that one active entry. -/
def mapOf (d : DomainEntry) : DomainMap :=
  { shadow := Vector.replicate 16 DomainEntry.reset, active := (Vector.replicate 16 DomainEntry.reset).set 0 d,
    pending := false }

/-- The reset machine with group G0 as given and a JOURNALED domain of G0. -/
def withGroup (x : Group) : State :=
  { State.reset with groups := State.reset.groups.set 0 x, map := mapOf (domain .journaled) }

/-- A request of 8 bytes to block 1. -/
def request (k : AccessKind) (st : Stage) : Request :=
  { kind := k, addr := 64, size := 8, data := if k = .write then List.replicate 8 7#8 else [], tag := 0, stage := st }

/-- The state with these requests at RP0. -/
def atPort (s : State) (q : List Request) : State := s.setPort 0 { s.port 0 with queue := q, nextTag := 1 }

/-- The machine whose RP0 has one head in classifying before group G0 as given. -/
def heading (x : Group) (k : AccessKind) : State := atPort (withGroup x) [request k .classifying]

/-- The state with a transaction of G0's own in place 0. -/
def placing (s : State) (role : Role) (size : Nat) : State :=
  { s with mem := { s.mem with places := s.mem.places.set 0 (some (ownOf 0 .restore .read 0x10000 size [] role)) } }

/-- The state whose held request is this frame, with its checksum and the CFG_EN sample. -/
def holding (s : State) (bytes : List Byte) (en : Bool) : State :=
  { s with mgmt := { held := some { bytes := bytes ++ [frameChecksum bytes], cfgEn := en, response := none },
                     resetting := false } }

/-- The state of a next outcome, the same state otherwise. -/
def after (c : Instr) (s : State) : State :=
  match exec c s with
  | .next t => t
  | .fault _ => s
  | .refused _ => s

/-- A tracking entry of G0's block 1. -/
def entry (durable staged : Option Nat) : TrackEntry :=
  { block := 1, group := 0, durable := durable, staged := staged, waiters := [] }

/-- A step of RP0's write to block 1. -/
def stepOf (level : Nat) (prior : Option Nat) : JournalStep :=
  { owner := some 0, block := 1, level := level, prior := prior, slot := 2, sequence := 1, epoch := 5 }

/-! ### WellFormed: an ill-formed term for each check -/

theorem test_wf_request_size_0 : (Instr.requestAccept 0 { kind := .read, addr := 0, size := 0, data := [] }).wf = false := by
  decide

theorem test_wf_request_size_129 :
    (Instr.requestAccept 0 { kind := .read, addr := 0, size := 129, data := [] }).wf = false := by decide

theorem test_wf_read_with_data :
    (Instr.requestAccept 0 { kind := .read, addr := 0, size := 1, data := [1#8] }).wf = false := by decide

theorem test_wf_write_short_of_data :
    (Instr.requestAccept 0 { kind := .write, addr := 0, size := 2, data := [1#8] }).wf = false := by decide

theorem test_wf_answer_of_129_bytes : (Instr.scanRead 0 (.ok (List.replicate 129 0#8))).wf = false := by decide +kernel

theorem test_wf_empty_request_frame : (Instr.requestFrame [] true .whole).wf = false := by decide

theorem test_wf_request_frame_of_fetch_byte : (Instr.requestFrame [0#8] true .whole).wf = false := by decide

/-- R171: a stale frame has one mask for each byte after its first. -/
theorem test_wf_stale_masks : (Instr.fetch [0#8, 0#8] (.stale [0xFF#8])).wf = false
    ∧ (Instr.requestFrame [1#8, 2#8] true (.stale [])).wf = false
    ∧ (Instr.fetch [0#8] (.stale [0xFF#8])).wf = true := by decide

theorem test_wf_accepts : (Instr.requestAccept 0 { kind := .write, addr := 0, size := 2, data := [1#8, 2#8] }).wf = true
    ∧ (Instr.requestFrame [1#8] true .whole).wf = true ∧ (Instr.scanRead 0 .error).wf = true := by decide

/-! ### Check values and worked examples of the spec -/

/-- 00_scope, Check value: the nine ASCII bytes 123456789 give 0xE3069283. -/
theorem test_check_value :
    checkValue [0x31#8, 0x32#8, 0x33#8, 0x34#8, 0x35#8, 0x36#8, 0x37#8, 0x38#8, 0x39#8] = 0xE3069283#32 := by
  decide +kernel

/-- 11, Example: the checksum of a READ of all of GROUP_STATUS[2] is 0x78. -/
theorem test_frame_checksum : frameChecksum [0x01#8, 0x46#8, 0x00#8, 0x00#8, 0x40#8] = 0x78#8 := by decide

/-- 11, Example: that frame is a READ of 64 bytes; with byte 4 at 0x41 it is a BAD_FRAME, with another checksum a BAD_CHECKSUM. -/
theorem test_status_frame :
    decideFrame [0x01#8, 0x46#8, 0#8, 0#8, 0x40#8, 0x78#8] false = .read (.groupStatus 2) 0 64
      ∧ decideFrame [0x01#8, 0x46#8, 0#8, 0#8, 0x41#8, 0x78#8] false = .refuse .badFrame
      ∧ decideFrame [0x01#8, 0x46#8, 0#8, 0#8, 0x40#8, 0x79#8] false = .refuse .badChecksum := by decide +kernel

/-- 05, Example: from copy A of epoch 54 and copy B of epoch 55 the recovery chooses B. -/
theorem test_header_choice : chooseHeader (.valid 54#32) (.valid 55#32) = .chosen .b 55#32
    ∧ chooseHeader (.valid 7#32) (.valid 7#32) = .chosen .a 7#32 ∧ copyFor 56#32 = .a := by decide

/-- 05, R88: a record slot, byte by byte before the old contents. -/
theorem test_record_slot :
    (recordSlot 2 { stepOf 1 (some 0) with sequence := 4, epoch := 56 } (List.replicate 64 9#8)).take 16
        = [0xA5#8, 2#8, 1#8, 0#8, 56#8, 0#8, 0#8, 0#8, 4#8, 0#8, 0#8, 0#8, 1#8, 0#8, 0#8, 0#8] := by decide +kernel

/-- 06, Example, entries D0 to D2 and G0's area. -/
def exampleMap : DomainMap :=
  { shadow := Vector.replicate 16 DomainEntry.reset
    active := (((Vector.replicate 16 DomainEntry.reset).set 0
        { valid := true, base := 0, limit := 0x00FFFFF, kind := .passing, group := none, grants := Four.const .readWrite }).set 1
        { valid := true, base := 0x0100000, limit := 0x010FFFF, kind := .guarded, group := none,
          grants := { at0 := .readWrite, at1 := .read, at2 := .noAccess, at3 := .read } }).set 2
        { valid := true, base := 0x0200000, limit := 0x020FFFF, kind := .journaled, group := some 0,
          grants := { at0 := .readWrite, at1 := .readWrite, at2 := .read, at3 := .noAccess } }
    pending := false }

/-- 06, Example: the state it starts from. -/
def exampleState : State :=
  { State.reset with
    map := exampleMap
    groups := State.reset.groups.set 0 { Group.reset with
      state := .opened
      closedEpoch := 7
      config := { GroupConfig.reset with
        base := 0x09000000, slots := 1026, participants := { at0 := true, at1 := false, at2 := false, at3 := false } } } }

/-- A request of the example to a block. -/
def exampleRequest (k : AccessKind) (b size : Nat) : Request :=
  { kind := k, addr := BitVec.ofNat 36 (64 * b), size := size, data := [], tag := 0, stage := .classifying }

/-- 06, Example: the outcomes of its nine requests. -/
theorem test_classification_example :
    exampleState.verdict 1 (exampleRequest .write 0x0000100 8) = .pass (some 0)
      ∧ exampleState.verdict 2 (exampleRequest .read 0x0100010 4) = .refuse .noGrant (some 1) none
      ∧ exampleState.verdict 0 (exampleRequest .write 0x0100010 16) = .refuse .readOnly (some 1) none
      ∧ exampleState.verdict 3 (exampleRequest .read 0x0100020 64) = .pass (some 1)
      ∧ exampleState.verdict 1 (exampleRequest .write 0x0200040 8) = .refuse .notParticipant (some 2) (some 0)
      ∧ exampleState.verdict 2 (exampleRequest .read 0x0200040 8) = .handOver 2 0
      ∧ exampleState.verdict 0 (exampleRequest .write 0x0200040 8) = .handOver 2 0
      ∧ exampleState.verdict 3 (exampleRequest .read 0x0240010 8) = .refuse .journalArea none none
      ∧ exampleState.verdict 3 (exampleRequest .write 0x3000000 2) = .pass none := by decide +kernel

/-! ### One step of each command -/

theorem test_powerOn : (after .powerOn (withGroup openGroup)).group 0 = Group.reset := by decide +kernel

theorem test_resetNAssert : (after .resetNAssert (holding State.reset [0x3F#8, 0#8, 0#8, 0#8, 0#8] true)).resetPin = true
    ∧ (after .resetNAssert (holding State.reset [0x3F#8, 0#8, 0#8, 0#8, 0#8] true)).mgmt = Mgmt.reset := by
  decide +kernel

theorem test_resetNDeassert : ((after (.resetNDeassert { at0 := false, at1 := true, at2 := false, at3 := false })
      { State.reset with resetPin := true }).trigger 1).level = true := by decide +kernel

theorem test_portReset : ((after (.portReset 0) (withGroup openGroup)).group 0).state = .rollingBack
    ∧ ((after (.portReset 0) (withGroup openGroup)).group 0).lastClose = .portReset 0
    ∧ ((after (.portReset 2) (withGroup openGroup)).group 0).state = .opened := by decide +kernel

theorem test_prstDeassert : ((after (.prstDeassert 3) (after (.portReset 3) State.reset)).port 3).resetPin = false := by
  decide +kernel

theorem test_triggerEvent_saturates :
    ((after (.triggerEvent 2) (State.reset.modTrigger 2 (fun t => { t with count := 65535 }))).trigger 2).count = 65535 := by
  decide +kernel

theorem test_triggerEvent_rolls_back :
    ((after (.triggerEvent 1) ((withGroup openGroup).modTrigger 1
      (fun t => { t with action := .rollback, mask := Four.const true }))).group 0).lastClose = .trigger 1 := by decide +kernel

theorem test_triggerInputLow :
    ((after (.triggerInputLow 2) (State.reset.modTrigger 2 (fun t => { t with level := true }))).trigger 2).level = false := by
  decide +kernel

theorem test_requestAccept_eighth :
    ((after (.requestAccept 0 { kind := .read, addr := 0, size := 1, data := [] })
      (atPort State.reset (List.replicate 7 (request .read (.issued none))))).port 0).queue.length = 8 := by decide +kernel

theorem test_requestAccept_ninth :
    ((after (.requestAccept 0 { kind := .read, addr := 0, size := 1, data := [] })
      (atPort State.reset (List.replicate 8 (request .read (.issued none))))).port 0).queue.length = 8 := by decide +kernel

theorem test_classification_journals :
    ((after (.classification 0) (heading openGroup .write)).group 0).step = some (stepOf 0 none)
      ∧ ((after (.classification 0) (heading openGroup .write)).mem.waiting.map (fun x => (x.role, x.addr, x.size)))
        = [(.oldBlockRead, 64, 64)] := by decide +kernel

theorem test_beginEpoch : (after (.beginEpoch 1 0) (withGroup { openGroup with state := .closed })).emitted
    = [.answer 1 (.beginDone 5 true)] := by decide +kernel

theorem test_beginEpoch_limit :
    (after (.beginEpoch 1 0) (withGroup { openGroup with state := .closed, closedEpoch := 0xFFFFFFFE })).emitted
      = [.answer 1 (.refused .epochLimit)] := by decide +kernel

theorem test_mark_seventh : (after (.mark 0 0) (withGroup { openGroup with marks := List.replicate 6 1 })).emitted
    = [.answer 0 (.markDone 7)] := by decide +kernel

theorem test_mark_eighth : (after (.mark 0 0) (withGroup { openGroup with marks := List.replicate 7 1 })).emitted
    = [.answer 0 (.refused .markLimit)] := by decide +kernel

theorem test_undo : ((after (.undo 0 1) (withGroup { openGroup with marks := [1] })).group 0).state = .unwinding
    ∧ ((after (.undo 0 1) (withGroup { openGroup with marks := [1] })).mem.waiting.map (fun x => (x.role, x.addr)))
      = [(.clearPhase, 0x10100)] := by decide +kernel

theorem test_undo_no_such_mark : (after (.undo 0 2) (withGroup { openGroup with marks := [1] })).emitted
    = [.answer 0 (.refused .noSuchMark)] := by decide +kernel

theorem test_voteCommit_first : ((after (.voteCommit 0 0) (withGroup openGroup)).group 0).state = .voting
    ∧ ((after (.voteCommit 0 0) (withGroup openGroup)).group 0).voteTimer = some 500 := by decide +kernel

theorem test_voteCommit_last :
    ((after (.voteCommit 1 0) (after (.voteCommit 0 0) (withGroup openGroup))).group 0).state = .committing
      ∧ ((after (.voteCommit 1 0) (after (.voteCommit 0 0) (withGroup openGroup))).mem.waiting.map (fun x => (x.role, x.addr)))
        = [(.commitHeader, 0x10080)] := by decide +kernel

theorem test_voteAbort : ((after (.voteAbort 1 0) (withGroup openGroup)).group 0).lastClose = .voteAbort 1
    ∧ (after (.voteAbort 1 0) (withGroup openGroup)).emitted = [] := by decide +kernel

theorem test_query_no_group : (after (.query 2 0) (withGroup openGroup)).emitted = [.answer 2 (.refused .noGroup)] := by
  decide +kernel

/-- 08, Example, event 3. -/
theorem test_query :
    (after (.query 1 0) (withGroup { openGroup with closedEpoch := 200, marks := [0], journalLength := 5 })).emitted
      = [.answer 1 (.queryDone { group := 0, state := .opened, epoch := 201, level := 1, journalLength := 5,
                                 voteSet := FourSet.empty, marks := [0] })] := by decide +kernel

theorem test_unknownCommand : (after (.unknownCommand 2 1 0) State.reset).emitted
    = [.answer 2 (.refused .unknownCommand)] := by decide +kernel

theorem test_grant : (after (.grant 3) (after (.voteAbort 1 0) (withGroup openGroup))).emitted
    = [.memory 3 .write 0x10100 128 (List.replicate 128 0#8)] := by decide +kernel

/-- The block a requester transaction of the head of RP0 stands in place 0. -/
def requesting (k : AccessKind) : State :=
  { atPort State.reset [request k (.issued none)] with
    mem := { MemPort.reset with places := MemPort.reset.places.set 0 (some ((request k .classifying).txn 0 none)) } }

theorem test_requesterAnswer_read : (after (.requesterAnswer 0 (.ok (List.replicate 8 3#8))) (requesting .read)).emitted
    = [.response 0 .ok (List.replicate 8 3#8)] := by decide +kernel

theorem test_requesterAnswer_error : (after (.requesterAnswer 0 .error) (requesting .read)).emitted
    = [.response 0 .error (List.replicate 8 0#8)] := by decide +kernel

/-- The write of RP0 is in the journal queue of G0 with its step running. -/
def stepping (x : Group) (level : Nat) : State :=
  { atPort (withGroup { x with queue := [0], step := some (stepOf level none) }) [request .write .inQueue] with
    table := [entry none (some level)] }

theorem test_oldBlockRead :
    (after (.oldBlockRead 0 (.ok (List.replicate 64 9#8))) (placing (stepping openGroup 0) .oldBlockRead 64)).mem.waiting.map
      (fun x => (x.role, x.addr, x.data.length)) = [(.recordWrite, 0x10100, 128)] := by decide +kernel

theorem test_oldBlockRead_error :
    ((after (.oldBlockRead 0 .error) (placing (stepping openGroup 0) .oldBlockRead 64)).port 0).refusal.map
        (fun x => x.reason) = some .memoryError
      ∧ (after (.oldBlockRead 0 .error) (placing (stepping openGroup 0) .oldBlockRead 64)).table = [] := by decide +kernel

theorem test_recordWrite :
    ((after (.recordWrite 0 (.ok [])) (placing (stepping openGroup 0) .recordWrite 128)).group 0).journalLength = 1
      ∧ (after (.recordWrite 0 (.ok [])) (placing (stepping openGroup 0) .recordWrite 128)).table = [entry (some 0) none] := by
  decide +kernel

/-- G0 in UNWINDING to mark 1 in a phase. -/
def unwinding (ph : Phase) (slot : Option Nat) (length : Nat) : Group :=
  { openGroup with state := .unwinding, marks := [1], journalLength := length,
                   unwind := some { target := 1, port := 0, phase := ph, slot := slot } }

/-- G0 in ROLLING_BACK in a phase. -/
def rolling (ph : Phase) (slot : Option Nat) (length : Nat) : Group :=
  { openGroup with state := .rollingBack, lastClose := .management, journalLength := length,
                   rollback := some { cause := .management, phase := ph, slot := slot } }

theorem test_clearPhaseWrite :
    (after (.clearPhaseWrite 0 (.ok [])) (placing (withGroup (unwinding .clear none 2)) .clearPhase 128)).mem.waiting.map
      (fun x => (x.role, x.addr)) = [(.popRead, 0x10180)] := by decide +kernel

/-- The record of G0's epoch 5 with a sequence, level and prior level. -/
def record (n level : Nat) (prior : Option Nat) : List Byte :=
  recordSlot 0 { stepOf level prior with sequence := n } (List.replicate 64 9#8)

theorem record_fits (n l : Nat) (q : Option Nat) : fitBytes 128 (record n l q) = record n l q :=
  fitBytes_of_length 128 _ (recordSlot_length _ _ _ List.length_replicate)

theorem record_good (n l : Nat) (q : Option Nat) : checkGood (record n l q) = true :=
  checkGood_recordSlot _ _ _ List.length_replicate

/-- 05, R90: such a record matches its own epoch and sequence. -/
theorem record_matches : matchesRecord 0 5 2 (fitBytes 128 (record 2 1 (some 0))) = true
    ∧ matchesRecord 0 5 1 (fitBytes 128 (record 1 0 none)) = true := by
  constructor
  · rw [record_fits]; unfold matchesRecord; rw [record_good]; decide +kernel
  · rw [record_fits]; unfold matchesRecord; rw [record_good]; decide +kernel

theorem test_recordRead_corrupt :
    ((after (.recordRead 0 (.ok (List.replicate 128 0#8))) (placing (withGroup (unwinding .pop (some 3) 2)) .popRead 128)).group
      0).fault = { kind := .recordCorrupt, epoch := 5, slot := some 3, block := none } := by decide +kernel

theorem test_restoreWrite :
    (after (.restoreWrite 0 (.ok [])) (placing (withGroup (unwinding .pop (some 3) 2)) (.popRestore 1 (some 0)) 64)).mem.waiting.map
      (fun x => (x.role, x.addr)) = [(.popClear 1 (some 0), 0x10180)] := by decide +kernel

/-- The pop of a record with no prior level has reached its clearing write. -/
def popping (x : Group) : State :=
  { placing (withGroup x) (.popClear 1 none) 128 with table := [entry (some 0) none] }

theorem test_popComplete : ((after (.popComplete 0 (.ok [])) (popping (rolling .pop (some 3) 2))).group 0).journalLength = 1
    ∧ (after (.popComplete 0 (.ok [])) (popping (rolling .pop (some 3) 2))).table = [] := by decide +kernel

theorem test_popComplete_last :
    (after (.popComplete 0 (.ok [])) (popping (rolling .pop (some 2) 1))).mem.waiting.map (fun x => (x.role, x.addr))
      = [(.rollbackHeader, 0x10080)] := by decide +kernel

theorem test_commitHeaderWrite :
    ((after (.commitHeaderWrite 0 (.ok [])) (placing (withGroup { openGroup with state := .committing }) .commitHeader
      128)).group 0).closedEpoch = 5 := by decide +kernel

theorem test_commitHeaderWrite_error :
    ((after (.commitHeaderWrite 0 .error) (placing (withGroup { openGroup with state := .committing }) .commitHeader
      128)).group 0).fault = { kind := .headerWrite, epoch := 5, slot := some 1, block := none } := by decide +kernel

theorem test_rollbackHeaderWrite :
    ((after (.rollbackHeaderWrite 0 (.ok [])) (placing (withGroup (rolling .header none 0)) .rollbackHeader 128)).group
        0).state = .closed
      ∧ (after (.rollbackHeaderWrite 0 (.ok [])) (placing (withGroup (rolling .header none 0)) .rollbackHeader
        128)).isLatched (.autoRollback 0) = true := by decide +kernel

theorem test_formatClearingWrite :
    (after (.formatClearingWrite 0 (.ok [])) (placing (withGroup { openGroup with state := .formatting }) (.formatClear 2)
      128)).mem.waiting.map (fun x => (x.role, x.addr)) = [(.formatHeader .a, 0x10000)] := by decide +kernel

theorem test_formatHeaderWrite :
    ((after (.formatHeaderWrite 0 (.ok [])) (placing (withGroup { openGroup with state := .formatting }) (.formatHeader .b)
      128)).group 0).closedEpoch = 0 := by decide +kernel

/-- G0 in RECOVERING with what it has found. -/
def recovering (length : Nat) (x : RecoveryContext) : Group :=
  { openGroup with state := .recovering, journalLength := length, recovery := some x }

/-- Nothing found yet but a valid copy A of epoch 4. -/
def foundA : RecoveryContext := { judgedA := .valid 4, chosen := some .a, named := 4, found := none }

theorem test_headerRead_chooses_a :
    ((after (.headerRead 0 (.ok (List.replicate 128 0#8)))
      (placing (withGroup (recovering 0 { foundA with judgedA := .valid 3 })) (.headerRead .b) 128)).group 0).closedEpoch = 3 := by
  decide +kernel

theorem test_headerRead_mismatch :
    ((after (.headerRead 0 (.ok (List.replicate 128 0#8)))
      (placing (withGroup (recovering 0 { foundA with judgedA := .otherSize })) (.headerRead .b) 128)).group
        0).recoveryResult.outcome = .areaMismatch := by decide +kernel

theorem test_scanRead_clean :
    ((after (.scanRead 0 (.ok (List.replicate 128 0#8))) (placing (withGroup (recovering 0 foundA)) .scanRead 128)).group
      0).recoveryResult.outcome = .clean := by decide +kernel

theorem test_replayRead_changed :
    ((after (.replayRead 0 (.ok (List.replicate 128 0#8)))
      (placing (withGroup (recovering 2 { foundA with found := some 2 })) .replayRead 128)).group 0).fault
        = { kind := .recoveryRead, epoch := 5, slot := some 3, block := none } := by decide +kernel

theorem test_recoveryRestoreWrite :
    (after (.recoveryRestoreWrite 0 (.ok [])) (placing (withGroup (recovering 1 { foundA with found := some 2 }))
      (.recoveryRestore 1) 64)).mem.waiting.map (fun x => (x.role, x.addr)) = [(.recoveryHeader, 0x10080)] := by
  decide +kernel

theorem test_recoveryHeaderWrite :
    ((after (.recoveryHeaderWrite 0 (.ok [])) (placing (withGroup (recovering 0 { foundA with found := some 2 }))
      .recoveryHeader 128)).group 0).recoveryResult
        = { copy := some .a, closedFound := 4, found := 2, replayed := 2, outcome := .replayed } := by decide +kernel

theorem test_orphanedAnswer :
    (after (.orphanedAnswer 0 .error) { requesting .read with
      mem := { MemPort.reset with
        places := MemPort.reset.places.set 0
          (some { (request .read .classifying).txn 0 none with orphan := .byPortReset }) } }).mem = MemPort.reset := by
  decide +kernel

/-- The head of G0's journal queue is held. -/
def held (o : Overflow) : State :=
  atPort (withGroup { openGroup with queue := [0], hold := some { reason := o, timer := 1000, since := 0 } })
    [request .write (.held (.overflow o))]

theorem test_holdExpiry : ((after (.holdExpiry 0) (held .trackFull)).port 0).refusal.map (fun x => x.reason) = some .trackFull
    ∧ ((after (.holdExpiry 0) (held .trackFull)).group 0).stats.holdExpiries = 1 := by decide +kernel

theorem test_voteTimeout :
    ((after (.voteTimeout 0) (withGroup { openGroup with state := .voting, voteTimer := some 500 })).group 0).lastClose
      = .voteTimeout := by decide +kernel

theorem test_mapActivationComplete :
    (after .mapActivationComplete { State.reset with map := { DomainMap.reset with pending := true } }).alerts.latched
      = 0x100000#21 := by decide +kernel

theorem test_requestFrame : (after (.requestFrame [1#8, 0x7F#8, 0#8, 0#8, 8#8, 0#8] true .whole) State.reset).mgmt.held
    = some { bytes := [1#8, 0x7F#8, 0#8, 0#8, 8#8, 0#8], cfgEn := true, response := none } := by decide +kernel

theorem test_fetch_unknown : (after (.fetch [0#8, 0#8, 0#8, 0#8] .whole) State.reset).emitted
    = [.mso [0xFF#8, 0x12#8, 0#8, 0xED#8, 0xFF#8]] := by decide +kernel

/-- The response to the held request after a command. -/
def responseAfter (c : Instr) (s : State) : Option Response := (after c s).mgmt.held.bind (fun h => h.response)

/-- 11, layout of IDENT: vendor 0x0E5C, part 0x113A, revision 1. -/
theorem test_read_ident : responseAfter .read (holding State.reset [1#8, 0x7F#8, 0#8, 0#8, 8#8] false)
    = some { status := .ok, data := [0x5C#8, 0x0E#8, 0x3A#8, 0x11#8, 1#8, 0#8, 0#8, 0#8] } := by decide +kernel

theorem test_domainShadowWrite :
    (after .domainShadowWrite (holding State.reset [2#8, 0x1F#8, 0#8, 0#8, 2#8, 1#8, 2#8] true)).map.shadow[15]
      = { DomainEntry.reset with valid := true, kind := .journaled } := by decide +kernel

theorem test_journalAreaWrite :
    ((after .journalAreaWrite (holding State.reset [2#8, 0x43#8, 8#8, 0#8, 4#8, 3#8, 0#8, 0#8, 0#8] true)).group 3).state
      = .unverified := by decide +kernel

theorem test_journalAreaWrite_open :
    responseAfter .journalAreaWrite (holding (withGroup openGroup) [2#8, 0x40#8, 8#8, 0#8, 4#8, 3#8, 0#8, 0#8, 0#8] true)
      = some { status := .state, data := [] } := by decide +kernel

theorem test_participantSetWrite_conflict :
    responseAfter .participantSetWrite (holding (withGroup openGroup) [2#8, 0x41#8, 12#8, 0#8, 1#8, 6#8] true)
      = some { status := .conflict, data := [] } := by decide +kernel

theorem test_participantSetWrite :
    ((after .participantSetWrite (holding State.reset [2#8, 0x41#8, 12#8, 0#8, 1#8, 6#8] true)).group 1).config.participants
      = { at0 := false, at1 := true, at2 := true, at3 := false } := by decide +kernel

theorem test_policyWrite :
    ((after .policyWrite (holding (withGroup openGroup) [2#8, 0x40#8, 13#8, 0#8, 1#8, 2#8] true)).group 0).config.policy
      = .abort := by decide +kernel

theorem test_triggerConfigWrite :
    ((after .triggerConfigWrite (holding State.reset [2#8, 0x62#8, 0#8, 0#8, 2#8, 2#8, 5#8] true)).trigger 2).mask
      = { at0 := true, at1 := false, at2 := true, at3 := false } := by decide +kernel

theorem test_alertMaskWrite :
    (after .alertMaskWrite (holding State.reset [2#8, 0x70#8, 4#8, 0#8, 3#8, 1#8, 0#8, 0x10#8] true)).alerts.mask
      = 0x100001#21 := by decide +kernel

theorem test_activateMap :
    responseAfter .activateMap (holding State.reset [0x10#8, 0#8, 0#8, 0#8, 0#8] true) = some { status := .ok, data := [] }
      ∧ responseAfter .activateMap (holding (withGroup openGroup) [0x10#8, 0#8, 0#8, 0#8, 0#8] true)
        = some { status := .accepted, data := [] } := by decide +kernel

/-- 11, R176: a JOURNALED shadow entry D3 without a group is refused INVALID_ENTRY with its number and 0xFF. -/
theorem test_activateMap_invalid :
    responseAfter .activateMap (holding { State.reset with map := { DomainMap.reset with
        shadow := DomainMap.reset.shadow.set 3 { domain .journaled with group := none } } } [0x10#8, 0#8, 0#8, 0#8, 0#8] true)
      = some { status := .invalidEntry, data := [3#8, 0xFF#8] } := by decide +kernel

theorem test_cancelMap : responseAfter .cancelMap (holding State.reset [0x11#8, 0#8, 0#8, 0#8, 0#8] false)
    = some { status := .state, data := [] } := by decide +kernel

theorem test_format :
    (after .format (holding (withGroup { openGroup with state := .unverified }) [0x20#8, 0#8, 0#8, 0#8, 0#8]
      true)).mem.waiting.map (fun x => (x.role, x.addr)) = [(.formatClear 15, 0x10780)] := by decide +kernel

theorem test_recover :
    (after .recover (holding (withGroup { openGroup with state := .unverified }) [0x21#8, 0#8, 0#8, 0#8, 0#8]
      false)).mem.waiting.map (fun x => (x.role, x.addr)) = [(.headerRead .a, 0x10000)] := by decide +kernel

theorem test_forceAbort :
    ((after .forceAbort (holding (withGroup openGroup) [0x22#8, 0#8, 0#8, 0#8, 0#8] false)).group 0).lastClose
      = .management := by decide +kernel

theorem test_clearFault :
    ((after .clearFault (holding (withGroup { openGroup with state := .faulted }) [0x23#8, 0#8, 0#8, 0#8, 0#8] false)).group
      0).state = .unverified := by decide +kernel

theorem test_clearRefusal :
    ((after .clearRefusal (holding (after (.holdExpiry 0) (held .trackFull)) [0x30#8, 0#8, 0#8, 0#8, 0#8] false)).port
      0).refusal = none := by decide +kernel

theorem test_clearAlerts :
    (after .clearAlerts (holding { State.reset with alerts := { latched := 0x100003, mask := 0 } }
      [0x31#8, 0#8, 0#8, 0#8, 3#8, 1#8, 0#8, 0x10#8] false)).alerts.latched = 2#21 := by decide +kernel

theorem test_clearStats :
    ((after .clearStats (holding (withGroup { openGroup with stats := { Stats.reset with undos := 9 } })
      [0x32#8, 0#8, 0#8, 0#8, 0#8] false)).group 0).stats = Stats.reset := by decide +kernel

theorem test_softReset :
    ((after .softReset (holding (withGroup openGroup) [0x3F#8, 0#8, 0#8, 0#8, 0#8] true)).group 0).state = .unverified
      ∧ responseAfter .softReset (holding (withGroup openGroup) [0x3F#8, 0#8, 0#8, 0#8, 0#8] true) = none := by
  decide +kernel

theorem test_softResetResponse :
    responseAfter .softResetResponse (after .softReset (holding State.reset [0x3F#8, 0#8, 0#8, 0#8, 0#8] true))
      = some { status := .ok, data := [] } := by decide +kernel

theorem test_refusedRequest_locked :
    responseAfter .refusedRequest (holding State.reset [0x3F#8, 0#8, 0#8, 0#8, 0#8] false)
      = some { status := .locked, data := [] } := by decide +kernel

/-! ### Witnesses: the hypotheses of each statement are met -/

/-- The state with a command in front, and what a step of it answers. -/
def queued (c : Instr) (s : State) : State := { s with pending := [c] }

/-- The state of a step's next outcome. -/
def stepped (s : State) : State :=
  match step s with
  | .next t => t
  | .fault _ => s
  | .refused _ => s

theorem witness_StepRunsTheFrontCommand : State.reset.pending = [] := rfl

/-- A tracking table of `n` entries of G1, none of block 1. -/
def manyEntries (n : Nat) : List TrackEntry :=
  (List.range n).map (fun k => { block := BitVec.ofNat 30 (2 + k), group := 1, durable := some 0, staged := none, waiters := [] })

theorem manyEntries_length (n : Nat) : (manyEntries n).length = n := by
  unfold manyEntries; rw [List.length_map, List.length_range]

theorem manyEntries_sorted (n : Nat) (hn : n ≤ 1024) : (manyEntries n).Pairwise (fun x y => x.block < y.block) := by
  unfold manyEntries
  rw [List.pairwise_map, List.pairwise_iff_getElem]
  intro i j hi hj hij
  simp only [List.length_range] at hi hj
  simp only [List.getElem_range, BitVec.lt_def, BitVec.toNat_ofNat]
  omega

/-- The reset machine with a tracking table, and a command in front. -/
def tabled (l : List TrackEntry) : State := queued (.grant 0) { State.reset with table := l }

theorem tabled_sound (l : List TrackEntry) (h : l.Pairwise (fun x y => x.block < y.block)) (hl : l.length ≤ 1024) :
    (tabled l).tableSorted ∧ (tabled l).tableFits ∧ ∃ t, step (tabled l) = .next t := ⟨h, hl, _, rfl⟩

theorem witness_TrackingTableKeepsItsForm :
    (tabled (manyEntries 1024)).tableSorted ∧ (tabled (manyEntries 1024)).tableFits
      ∧ ∃ t, step (tabled (manyEntries 1024)) = .next t :=
  tabled_sound _ (manyEntries_sorted 1024 (Nat.le_refl _)) (Nat.le_of_eq (manyEntries_length 1024))

theorem witness_BoundsHoldThroughEveryStep :
    let s := queued (.mark 0 0) (atPort (withGroup { openGroup with
      marks := List.replicate 7 1, stats := { Stats.reset with undos := 4294967295 } })
      (List.replicate 8 (request .read (.issued none))))
    step s = .next (stepped s) ∧ s.queuesFit ∧ s.levelsFit ∧ s.countersFit := by
  refine ⟨rfl, ?_, ?_, ?_, ?_, ?_⟩
  · unfold State.queuesFit; decide +kernel
  · unfold State.levelsFit; decide +kernel
  · unfold Stats.bounded; decide +kernel
  · decide +kernel
  · decide +kernel

theorem witness_ParticipantSetsStayDisjoint :
    let s := queued .participantSetWrite (holding (withGroup openGroup) [2#8, 0x41#8, 12#8, 0#8, 1#8, 12#8] true)
    s.setsDisjoint ∧ step s = .next (stepped s) := by
  refine ⟨?_, rfl⟩
  unfold State.setsDisjoint; decide +kernel

theorem witness_ActiveMapLawHolds :
    let s := queued .activateMap (holding (withGroup openGroup) [0x10#8, 0#8, 0#8, 0#8, 0#8] true)
    s.mapLawful ∧ step s = .next (stepped s) := by
  refine ⟨⟨?_, ?_, ?_, ?_⟩, rfl⟩ <;> decide +kernel

theorem witness_EpochAndConfigMoveOnlyAtTheirEvents :
    let s := placing (withGroup { openGroup with state := .committing }) .commitHeader 128
    exec (.commitHeaderWrite 0 (.ok [])) s = .next (after (.commitHeaderWrite 0 (.ok [])) s)
      ∧ setsEpoch (.commitHeaderWrite 0 (.ok [])) = false ∧ setsConfig (.commitHeaderWrite 0 (.ok [])) = false
      ∧ setsActiveMap (.commitHeaderWrite 0 (.ok [])) = false := ⟨rfl, rfl, rfl, rfl⟩

theorem witness_PowerOnGivesGroupDefaults :
    Instr.resetNAssert = .powerOn ∨ Instr.resetNAssert = .resetNAssert := Or.inr rfl

theorem witness_PowerOnEmptiesTheDevice : Instr.powerOn = .powerOn ∨ Instr.powerOn = .resetNAssert := Or.inl rfl

theorem witness_MemoryPortForgetsAtReset :
    (Instr.powerOn = .powerOn ∨ Instr.powerOn = .resetNAssert)
      ∧ { requesting .read with resetPin := true }.resetPin = true
      ∧ Instr.requesterAnswer 0 .error ∈ answersOf 0 .error ∧ Instr.orphanedAnswer 15 (.ok []) ∈ answersOf 15 (.ok []) := by
  decide +kernel

theorem witness_TriggerLevelsFollowTheInputs :
    { State.reset with resetPin := true }.resetPin = true
      ∧ ((State.reset.modTrigger 3 (fun t => { t with level := true })).trigger 3).level = true
      ∧ State.reset.resetPin = false ∧ (State.reset.trigger 3).level = false
      ∧ exec (.grant 0) State.reset = .next (after (.grant 0) State.reset) ∧ setsLevel 0 (.triggerEvent 1) = false
      ∧ exec (.triggerEvent 1) State.reset = .next (after (.triggerEvent 1) State.reset) :=
  ⟨rfl, rfl, rfl, rfl, rfl, rfl, rfl⟩

theorem witness_PortResetFlushesItsPort : ((stepping openGroup 0).port 0).resetPin = false := rfl

/-- The writes of RP0 and RP1 to block 1 stand in the queue of G0 as given, RP0's ahead. -/
def pair (x : Group) : State :=
  let s := atPort (withGroup { x with queue := [0, 1] }) [request .write .inQueue]
  s.setPort 1 { s.port 1 with queue := [request .write .inQueue], nextTag := 1 }

/-- The hold of a head for a reason. -/
def holdOf (o : Overflow) : Hold := { reason := o, timer := 1000, since := 0 }

/-- Block 1 has room in a group without entries, with a free slot and a quota. -/
theorem pair_hasRoom (x : Group) (h : x.journalLength < x.config.slots - 2) (hq : 0 < x.effectiveQuota) :
    (pair x).hasRoom 0 1 :=
  ⟨h, fun e he => absurd he (by simp [pair, atPort, withGroup, State.setPort, State.reset]), (by decide : 0 < 1024), hq⟩

theorem witness_PortResetAbortsItsGroup (st : GroupState) (ho : Option Hold) (own : JournalStep) :
    (let s := withGroup { openGroup with state := st, hold := ho };
      (s.port 1).resetPin = false ∧ s.groupOf 1 = some 0 ∧ (s.group 0).hold = ho ∧ (s.group 0).state = st
        ∧ (s.group 0).queue.head? ≠ some 1)
      ∧ (let s := pair { openGroup with state := st, step := some own };
        (s.port 0).resetPin = false ∧ s.groupOf 0 = some 0 ∧ (s.group 0).state = st
          ∧ (s.group 0).queue.head? = some 0 ∧ (s.group 0).step ≠ none)
      ∧ (let s := pair { openGroup with state := st, hold := ho };
        (s.port 0).resetPin = false ∧ s.groupOf 0 = some 0 ∧ (s.group 0).state = st ∧ (s.group 0).hold = ho
          ∧ (s.group 0).queue = [0, 1] ∧ (s.group 0).queue.head? = some 0 ∧ (0 : PortId) ≠ 1 ∧ (s.group 0).step = none
          ∧ (∀ k : GroupId, k ≠ 0 → (0 : PortId) ∉ (s.group k).queue)
          ∧ s.head 1 = some (request .write .inQueue) ∧ s.hasRoom 0 (blockOf (request .write .inQueue).addr)) :=
  ⟨⟨rfl, rfl, rfl, rfl, by show ([] : List PortId).head? ≠ some 1; decide⟩,
    ⟨rfl, rfl, rfl, rfl, Option.some_ne_none _⟩,
    ⟨rfl, rfl, rfl, rfl, rfl, rfl, by decide, rfl,
      fun k hk => by fin_cases k; exacts [absurd rfl hk, List.not_mem_nil, List.not_mem_nil, List.not_mem_nil], rfl,
      pair_hasRoom _ (by decide : 0 < 16 - 2) (by decide : 0 < 8)⟩⟩

theorem witness_TriggerEventActsAsConfigured (a : TriggerAction) (m : FourSet) (st : GroupState) :
    let s := (withGroup { openGroup with state := st }).modTrigger 1 (fun t => { t with action := a, mask := m })
    s.resetPin = false ∧ (s.trigger 1).level = false ∧ (s.trigger 1).action = a ∧ (s.trigger 1).mask = m
      ∧ (s.group 0).state = st := ⟨rfl, rfl, rfl, rfl, rfl⟩

theorem witness_AcceptedRequestJoinsItsQueue :
    (∀ q ∈ [[], List.replicate 7 (request .read (.issued none)), [request .read .classifying, request .read .waiting]],
      (atPort State.reset q).resetPin = false ∧ (atPort State.reset q).mgmt.resetting = false
        ∧ ((atPort State.reset q).port 0).resetPin = false ∧ ((atPort State.reset q).port 0).queue.length < 8
        ∧ (∀ x ∈ ((atPort State.reset q).port 0).queue,
            x.stage ≠ .waiting ∨ ((atPort State.reset q).head 0).any (fun h => h.stage != .waiting) = true)
        ∧ ∀ x ∈ ((atPort State.reset q).port 0).queue.head?, x.response = none)
      ∧ { State.reset with resetPin := true }.resetPin = true
      ∧ (after .softReset (holding State.reset [0x3F#8, 0#8, 0#8, 0#8, 0#8] true)).mgmt.resetting = true
      ∧ ((after (.portReset 0) State.reset).port 0).resetPin = true
      ∧ 8 ≤ ((atPort State.reset (List.replicate 8 (request .read (.issued none)))).port 0).queue.length := by
  decide +kernel

/-- The state with this request as the only one, and in classifying, at a port. -/
def asking (s : State) (p : PortId) (r : Request) : State :=
  s.setPort p { s.port p with queue := [r], nextTag := 1 }

/-- A request in classifying. -/
def ask (k : AccessKind) (a size : Nat) : Request :=
  { kind := k, addr := BitVec.ofNat 36 a, size := size, data := [], tag := 0, stage := .classifying }

theorem classifying_asking (s : State) (p : PortId) (k : AccessKind) (a n : Nat) :
    (asking s p (ask k a n)).classifying p (ask k a n) := by
  have h : ((asking s p (ask k a n)).port p).queue = [ask k a n] := by
    unfold asking State.port State.setPort; rw [Four.get_set_self]
  unfold State.classifying State.head
  rw [h]
  exact ⟨rfl, rfl⟩

/-- The machine with G0 as given and one active domain D0 of blocks 0 to 99. -/
def mapped (x : Group) (d : DomainEntry) : State := { withGroup x with map := mapOf d }

theorem witness_ClassificationRefusesInOrder :
    (∀ s p k a n, (asking s p (ask k a n)).classifying p (ask k a n))
      ∧ ¬((ask .read 64 3).size ∈ [1, 2, 4, 8, 16, 32, 64] ∧ (ask .read 64 3).addr.toNat % (ask .read 64 3).size = 0)
      ∧ ¬((ask .read 63 2).size ∈ [1, 2, 4, 8, 16, 32, 64] ∧ (ask .read 63 2).addr.toNat % (ask .read 63 2).size = 0)
      ∧ (∀ a ∈ [0x10000, 0x107FF], let s := withGroup openGroup; let r := ask .read a 1
          (r.size ∈ [1, 2, 4, 8, 16, 32, 64] ∧ r.addr.toNat % r.size = 0)
            ∧ (s.group 0).config.slots ≠ 0 ∧ (s.group 0).config.base.toNat ≤ 64 * (r.addr.toNat / 64)
            ∧ 64 * (r.addr.toNat / 64) < (s.group 0).config.base.toNat + 128 * (s.group 0).config.slots)
      ∧ (∀ a ∈ [0, 99 * 64 + 63], ∀ k ∈ [DomainKind.passing, .guarded, .journaled], ∀ x ∈ [Grant.noAccess, .read, .readWrite],
          let s := mapped openGroup { domain k with grants := Four.const x }; let r := ask .write a 1
          s.inJournalArea (blockOf r.addr) = false ∧ s.domainOf (blockOf r.addr) = some 0
            ∧ s.map.active[(0 : EntryId)].grants.get 2 = x ∧ s.map.active[(0 : EntryId)].kind = k
            ∧ s.map.active[(0 : EntryId)].group = some 0 ∧ (s.group 0).config.participants.get 2 = false) :=
  ⟨classifying_asking, by decide +kernel, by decide +kernel, by decide +kernel, by decide +kernel⟩

/-- RP0's head, refused for its size, stands between older issued requests and one that waits. -/
def between (older : List Request) : State :=
  atPort State.reset (older ++ [{ ask .read 64 3 with tag := 5 }, { request .read .waiting with tag := 6 }])

theorem witness_RefusedRequestIsAnsweredInTurn :
    ∀ older ∈ [[], [request .read (.issued none)],
        [request .read (.issued none), request .write .answered, request .write (.issued (some .error))]],
      (between older).classifying 0 { ask .read 64 3 with tag := 5 }
        ∧ (between older).queueAround 0 older { ask .read 64 3 with tag := 5 } [{ request .read .waiting with tag := 6 }]
        ∧ (between older).verdict 0 { ask .read 64 3 with tag := 5 } = .refuse .malformed none none := by
  intro older h
  refine ⟨?_, ⟨by revert older; decide +kernel, fun x hx => ?_, by revert older; decide +kernel, by decide +kernel⟩,
    by revert older; decide +kernel⟩
  · revert older; unfold State.classifying; decide +kernel
  · have : ∀ y ∈ older, y.stage = .answered ∨ y.stage = .issued none ∨ y.stage = .issued (some .error) := by
      clear hx; revert older; decide +kernel
    exact (this x hx).imp id (fun h => h.elim (fun h => ⟨_, h⟩) (fun h => ⟨_, h⟩))

theorem witness_PassThroughIsIssuedUnchanged :
    (∀ s p k a n, (asking s p (ask k a n)).classifying p (ask k a n))
      ∧ (let s := mapped openGroup (domain .passing); let r := ask .write (100 * 64) 64
          r.wellFormed = true ∧ s.inJournalArea (blockOf r.addr) = false ∧ s.domainOf (blockOf r.addr) = none)
      ∧ (let s := mapped openGroup (domain .passing); let r := ask .write (99 * 64) 64
          s.domainOf (blockOf r.addr) = some 0 ∧ (s.map.active[(0 : EntryId)].grants.get 3).permits .write = true)
      ∧ (let s := mapped openGroup (domain .guarded); let r := ask .read 0 1
          s.domainOf (blockOf r.addr) = some 0 ∧ (s.map.active[(0 : EntryId)].grants.get 3).permits .read = true)
      ∧ (∀ st ∈ [GroupState.closed, .opened, .voting, .committing],
          let s := withGroup { openGroup with state := st }; let r := ask .read 64 8
          r.wellFormed = true ∧ s.inJournalArea (blockOf r.addr) = false ∧ s.domainOf (blockOf r.addr) = some 0
            ∧ (s.map.active[(0 : EntryId)].grants.get 3).permits .read = true
            ∧ s.map.active[(0 : EntryId)].kind = .journaled ∧ s.map.active[(0 : EntryId)].group = some 0
            ∧ (s.group 0).state = st) :=
  ⟨classifying_asking, by decide +kernel, by decide +kernel, by decide +kernel, by decide +kernel⟩

/-- RP0's head reaches the admission of G0 in every state of the group. -/
theorem heading_reaches (st : GroupState) (k : AccessKind) (x : Group) (hx : x.config = openGroup.config) :
    (heading { x with state := st } k).classifying 0 (request k .classifying)
      ∧ (heading { x with state := st } k).reaches 0 (request k .classifying) 0 0 := by
  obtain ⟨c⟩ := x
  subst hx
  refine ⟨⟨rfl, rfl⟩, ?_, ?_, ?_, ?_, rfl, rfl, fun _ => rfl⟩ <;> cases k <;> rfl

theorem witness_AdmissionFollowsTheGroupState (st : GroupState) (k : AccessKind) (auto : Bool) (v : FourSet) (c : Epoch)
    (pend : Bool) :
    let x := { openGroup with state := st, voteSet := v, closedEpoch := c, config := { openGroup.config with autoOpen := auto } }
    let s := { heading x k with map := { (heading x k).map with pending := pend } }
    s.classifying 0 (request k .classifying) ∧ s.reaches 0 (request k .classifying) 0 0 ∧ (s.group 0).state = st
      ∧ (s.group 0).config.autoOpen = auto ∧ s.map.pending = pend ∧ (s.group 0).closedEpoch = c
      ∧ (s.group 0).voteSet.get 0 = v.at0 := by
  refine ⟨⟨rfl, rfl⟩, ⟨?_, ?_, ?_, ?_, rfl, rfl, fun _ => rfl⟩, rfl, rfl, rfl, rfl, rfl⟩ <;> cases k <;> rfl

theorem witness_WriteOpensTheEpochByAutoOpen :
    let x := { openGroup with state := .closed, closedEpoch := 0xFFFFFFFD
                              config := { openGroup.config with slots := 3, quota := 1 } }
    let s := { heading x .write with table := manyEntries 1023 }
    s.classifying 0 (request .write .classifying) ∧ s.reaches 0 (request .write .classifying) 0 0
      ∧ (s.group 0).state = .closed ∧ (s.group 0).config.autoOpen = true ∧ s.map.pending = false
      ∧ (s.group 0).closedEpoch.toNat ≤ 0xFFFFFFFD ∧ 3 ≤ (s.group 0).config.slots ∧ 1 ≤ (s.group 0).config.quota
      ∧ (∀ e ∈ s.table, e.block ≠ blockOf (request .write .classifying).addr) ∧ s.table.length < 1024 := by
  refine ⟨⟨rfl, rfl⟩, ⟨by decide +kernel, by decide +kernel, by decide +kernel, by decide +kernel, rfl, rfl, fun _ => rfl⟩,
    rfl, rfl, rfl, by decide +kernel, by decide +kernel, by decide +kernel, by decide +kernel, by decide +kernel⟩

/-- The write of RP0 before G0 as given, with a tracking table. -/
def writing (x : Group) (l : List TrackEntry) : State := { heading x .write with table := l }

/-- It reaches the admission of G0, whatever the group's context is. -/
theorem writing_reaches (x : Group) (l : List TrackEntry) (hx : x.config = openGroup.config) :
    (writing x l).classifying 0 (request .write .classifying)
      ∧ (writing x l).reaches 0 (request .write .classifying) 0 0 := by
  obtain ⟨c⟩ := x
  subst hx
  exact ⟨⟨rfl, rfl⟩, rfl, rfl, rfl, rfl, rfl, rfl, fun _ => rfl⟩

theorem witness_JournalPathFollowsTheEntry :
    (∀ st l, (writing { openGroup with state := st } l).classifying 0 (request .write .classifying)
        ∧ (writing { openGroup with state := st } l).reaches 0 (request .write .classifying) 0 0
        ∧ ((writing { openGroup with state := st } l).group 0).state = st
        ∧ ((writing { openGroup with state := st } l).group 0).voteSet.get 0 = false)
      ∧ (findEntry [entry (some 0) none] 1 = some (entry (some 0) none) ∧ openGroup.level = 0)
      ∧ (findEntry [entry none (some 0)] 1 = some (entry none (some 0)))
      ∧ (findEntry [entry (some 1) none] 1 = some (entry (some 1) none))
      ∧ findEntry (manyEntries 3) 1 = none
      ∧ ((writing { openGroup with queue := [1] } []).group 0).queue ≠ []
      ∧ blockOf (request .write .classifying).addr = 1 :=
  ⟨fun st l => ⟨(writing_reaches _ l rfl).1, (writing_reaches _ l rfl).2, rfl, rfl⟩, by decide +kernel⟩

theorem witness_ReservationFixesTheRecord :
    (∀ l, ∀ n ≤ 13, let s := writing { openGroup with journalLength := n, marks := [1] } l
        s.classifying 0 (request .write .classifying) ∧ s.reaches 0 (request .write .classifying) 0 0
          ∧ (s.group 0).state = .opened ∧ (s.group 0).queue = [] ∧ (s.group 0).step = none ∧ (s.group 0).hold = none
          ∧ (s.group 0).journalLength < (s.group 0).config.slots - 2)
      ∧ (let s := writing openGroup (manyEntries 1023);
          findEntry s.table 1 = none ∧ s.table.length < 1024 ∧ s.entriesOf 0 < (s.group 0).effectiveQuota)
      ∧ (let s := writing { openGroup with marks := [1] } [entry (some 0) none];
          findEntry s.table 1 = some (entry (some 0) none) ∧ (entry (some 0) none).staged = none
            ∧ (entry (some 0) none).durable ≠ some (s.group 0).level) := by
  refine ⟨fun l n hn => ⟨(writing_reaches _ l rfl).1, (writing_reaches _ l rfl).2, rfl, rfl, rfl, rfl, ?_⟩, ?_, ?_⟩
  · show n < 16 - 2
    omega
  · decide +kernel
  · decide +kernel

theorem manyEntries_block (n : Nat) (hn : n ≤ 1024) : ∀ e ∈ manyEntries n, e.block ≠ 1 := by
  unfold manyEntries
  simp only [List.mem_map, List.mem_range]
  rintro e ⟨k, hk, rfl⟩ h
  have h2 : (2 + k) % 2 ^ 30 = 1 := by simpa using congrArg BitVec.toNat h
  omega

theorem witness_OverflowFollowsThePolicy (o : Policy) (st : GroupState) (h : Hold) :
    ((∀ e ∈ manyEntries 1024, e.block ≠ 1) ∧ 1024 ≤ (manyEntries 1024).length)
      ∧ (∀ n k l, let s := writing { openGroup with
            state := st, journalLength := n, effectiveQuota := k, marks := [1],
            config := { openGroup.config with policy := o } } l
        s.classifying 0 (request .write .classifying) ∧ s.reaches 0 (request .write .classifying) 0 0
          ∧ (s.group 0).state = st ∧ (s.group 0).voteSet.get 0 = false ∧ (s.group 0).queue = [] ∧ (s.group 0).step = none
          ∧ (s.group 0).hold = none ∧ (s.group 0).config.policy = o
          ∧ (n = 14 → l = [] → s.meetsOverflow 0 1 .journalFull)
          ∧ (n = 14 → l = [entry (some 0) none] → s.meetsOverflow 0 1 .journalFull)
          ∧ (n = 13 → k = 0 → l = [] → s.meetsOverflow 0 1 .trackFull)
          ∧ (n = 13 → (∀ e ∈ l, e.block ≠ 1) → 1024 ≤ l.length → s.meetsOverflow 0 1 .trackFull))
      ∧ (∀ n k, let s := pair { openGroup with
            state := st, hold := some h, journalLength := n, effectiveQuota := k, voteSet := FourSet.empty.set 1 true }
        s.commands 0 0 ∧ (s.group 0).state = st ∧ (s.group 0).voteSet.set 0 true = (s.group 0).config.participants
          ∧ (s.group 0).hold = some h ∧ (s.group 0).step = none ∧ (s.group 0).queue = [0, 1]
          ∧ s.head 0 = some (request .write .inQueue) ∧ s.head 1 = some (request .write .inQueue)
          ∧ (n = 14 → s.meetsOverflow 0 (blockOf (request .write .inQueue).addr) .journalFull)
          ∧ (n = 13 → k = 0 → s.meetsOverflow 0 (blockOf (request .write .inQueue).addr) .trackFull)) := by
  refine ⟨⟨manyEntries_block 1024 (Nat.le_refl _), Nat.le_of_eq (manyEntries_length 1024).symm⟩,
    fun n k l => ⟨⟨rfl, rfl⟩, ⟨rfl, rfl, rfl, rfl, rfl, rfl, fun _ => rfl⟩, rfl, rfl, rfl, rfl, rfl, rfl, ?_, ?_, ?_, ?_⟩,
    fun n k => ⟨⟨⟨rfl, rfl, rfl, rfl⟩, rfl⟩, rfl, rfl, rfl, rfl, rfl, rfl, rfl, ?_, ?_⟩⟩
  · rintro rfl rfl
    exact Or.inl ⟨rfl, Nat.le_refl 14, Or.inl fun e he => absurd he List.not_mem_nil⟩
  · rintro rfl rfl
    exact Or.inl ⟨rfl, Nat.le_refl 14, Or.inr ⟨entry (some 0) none, rfl, rfl, by show some 0 ≠ some 1; decide⟩⟩
  · rintro rfl rfl rfl
    exact Or.inr ⟨rfl, (by decide : 13 < 16 - 2), fun e he => absurd he List.not_mem_nil, Or.inr (Nat.zero_le _)⟩
  · rintro rfl hb hl
    exact Or.inr ⟨rfl, (by decide : 13 < 16 - 2), hb, Or.inl hl⟩
  · rintro rfl
    exact Or.inl ⟨rfl, Nat.le_refl 14, Or.inl fun e he => absurd he List.not_mem_nil⟩
  · rintro rfl rfl
    exact Or.inr ⟨rfl, (by decide : 13 < 16 - 2), fun e he => absurd he List.not_mem_nil, Or.inr (Nat.zero_le _)⟩

theorem witness_ChannelTestsComeFirst :
    (Instr.query 2 7 ∈ channelCommands 2 7 ∧ Instr.beginEpoch 2 0 ∈ channelCommands 2 0)
      ∧ ((after (.portReset 2) State.reset).port 2).resetPin = true
      ∧ { State.reset with resetPin := true }.resetPin = true
      ∧ (after .softReset (holding State.reset [0x3F#8, 0#8, 0#8, 0#8, 0#8] true)).mgmt.resetting = true
      ∧ (let s := after (.voteCommit 0 0) (withGroup openGroup);
          (s.port 0).resetPin = false ∧ s.resetPin = false ∧ s.mgmt.resetting = false ∧ (s.port 0).channel ≠ none)
      ∧ (let s := withGroup openGroup;
          (s.port 2).resetPin = false ∧ s.resetPin = false ∧ s.mgmt.resetting = false ∧ (s.port 2).channel = none
            ∧ ∀ g : GroupId, (s.group g).config.participants.get 2 = false) := by decide +kernel

/-- The channels of RP0 and RP1 command G0, whatever its context is. -/
theorem withGroup_commands (x : Group) (hx : x.config.participants = openGroup.config.participants) :
    (withGroup x).commands 0 0 ∧ (withGroup x).commands 1 0 := by
  obtain ⟨⟨b, n, q⟩⟩ := x
  subst hx
  exact ⟨⟨⟨rfl, rfl, rfl, rfl⟩, rfl⟩, ⟨⟨rfl, rfl, rfl, rfl⟩, rfl⟩⟩

theorem witness_BeginFollowsTheGroupState (st : GroupState) (c : Epoch) (pend : Bool) :
    let s := { withGroup { openGroup with state := st, closedEpoch := c } with
               map := { (withGroup openGroup).map with pending := pend } }
    s.commands 0 0 ∧ (s.group 0).state = st ∧ (s.group 0).closedEpoch = c ∧ s.map.pending = pend :=
  ⟨⟨⟨rfl, rfl, rfl, rfl⟩, rfl⟩, rfl, rfl, rfl⟩

theorem witness_MarkFollowsTheGroupState (st : GroupState) (n : Nat) :
    let s := withGroup { openGroup with state := st, marks := List.replicate n 1 }
    s.commands 0 0 ∧ (s.group 0).state = st ∧ (s.group 0).marks.length = n :=
  ⟨⟨⟨rfl, rfl, rfl, rfl⟩, rfl⟩, rfl, List.length_replicate⟩

theorem witness_QueryAnswersTheContext (x : Group) (hx : x.config.participants = openGroup.config.participants) :
    (withGroup x).commands 1 0 := (withGroup_commands x hx).2

theorem witness_UndoFollowsTheGroupState (st : GroupState) (k : Nat) (len : Nat) (own : Option JournalStep) :
    let s := withGroup { openGroup with state := st, marks := List.replicate k 1, journalLength := len, step := own }
    s.commands 0 0 ∧ 3 ≤ (s.group 0).config.slots ∧ (s.group 0).state = st ∧ (s.group 0).marks.length = k
      ∧ (s.group 0).journalLength = len ∧ (s.group 0).step = own ∧ s.writesUnanswered 0 = false
      ∧ (s.group 0).config.slots - 2 = 14 :=
  ⟨⟨⟨rfl, rfl, rfl, rfl⟩, rfl⟩, (by decide : 3 ≤ 16), rfl, List.length_replicate, rfl, rfl, rfl, rfl⟩

/-- 03, R54 and R61: an UNDO puts the queued writes whose step has not started back, held by UNWINDING, and a rollback out of UNWINDING holds them by ROLLING_BACK. -/
theorem test_put_back_heads : ∀ own ∈ [none, some (stepOf 0 none)],
    let s := (pair { openGroup with marks := [0], step := own }).modPort 1 (fun x => { x with headGroup := some 0 })
    let t := after (.undo 0 1) s
    let u := after (.voteAbort 1 0) t
    (s.commands 0 0 ∧ (s.group 0).queue = [0, 1])
      ∧ (t.group 0).queue = (own.bind (fun x => x.owner)).toList ∧ t.headStage 1 = some (.held .unwinding)
      ∧ t.headStage 0 = some (if own = none then .held .unwinding else .inQueue)
      ∧ (t.port 1).headGroup = some 0 ∧ u.headStage 1 = some (.held .rollingBack) := by
  unfold State.commands State.hears; decide +kernel

theorem witness_VoteCommitFollowsTheGroupState (st : GroupState) (own : Option JournalStep) (h : Hold) (q : List PortId) :
    (let s := withGroup { openGroup with state := st, step := own };
      s.commands 0 0 ∧ (s.group 0).state = st ∧ (s.group 0).step = own
        ∧ (s.group 0).voteSet.set 0 true ≠ (s.group 0).config.participants)
      ∧ (let s := withGroup { openGroup with state := st, step := own, queue := q, voteSet := FourSet.empty.set 1 true };
        s.commands 0 0 ∧ (s.group 0).state = st ∧ (s.group 0).step = own
          ∧ (s.group 0).voteSet.set 0 true = (s.group 0).config.participants ∧ (s.group 0).queue = q
          ∧ (s.group 0).hold = none)
      ∧ (let x := { openGroup with state := st, hold := some h, voteSet := FourSet.empty.set 1 true };
        (let s := atPort (withGroup { x with queue := [0] }) [request .write .inQueue];
          s.commands 0 0 ∧ (s.group 0).state = st ∧ (s.group 0).voteSet.set 0 true = (s.group 0).config.participants
            ∧ (s.group 0).hold = some h ∧ (s.group 0).step = none ∧ (s.group 0).queue = 0 :: []
            ∧ s.head 0 = some (request .write .inQueue) ∧ (0 : PortId) ∉ ([] : List PortId))
          ∧ ((pair x).commands 0 0 ∧ ((pair x).group 0).state = st
            ∧ ((pair x).group 0).voteSet.set 0 true = ((pair x).group 0).config.participants
            ∧ ((pair x).group 0).hold = some h ∧ ((pair x).group 0).step = none ∧ ((pair x).group 0).queue = 0 :: [1]
            ∧ (pair x).head 0 = some (request .write .inQueue) ∧ (0 : PortId) ∉ [(1 : PortId)]
            ∧ (pair x).head 1 = some (request .write .inQueue)
            ∧ (pair x).hasRoom 0 (blockOf (request .write .inQueue).addr))) :=
  ⟨⟨⟨⟨rfl, rfl, rfl, rfl⟩, rfl⟩, rfl, rfl, by show FourSet.empty.set 0 true ≠ openGroup.config.participants; decide⟩,
    ⟨⟨⟨rfl, rfl, rfl, rfl⟩, rfl⟩, rfl, rfl, rfl, rfl, rfl⟩,
    ⟨⟨⟨rfl, rfl, rfl, rfl⟩, rfl⟩, rfl, rfl, rfl, rfl, rfl, rfl, by decide⟩,
    ⟨⟨rfl, rfl, rfl, rfl⟩, rfl⟩, rfl, rfl, rfl, rfl, rfl, rfl, by decide, rfl,
    pair_hasRoom _ (by decide : 0 < 16 - 2) (by decide : 0 < 8)⟩

theorem witness_AbortCausesEnterRollingBack (st : GroupState) (tm : Option Nat) :
    (let s := withGroup { openGroup with state := st, voteTimer := tm };
      s.commands 1 0 ∧ (s.group 0).state = st ∧ (s.group 0).voteTimer = tm)
      ∧ (let s := holding (withGroup { openGroup with state := st }) [0x22#8, 0#8, 0#8, 0#8, 0#8] false;
        s.awaits (.forceAbort 0) ∧ (s.group 0).state = st) :=
  ⟨⟨⟨⟨rfl, rfl, rfl, rfl⟩, rfl⟩, rfl, rfl⟩, ⟨rfl, _, rfl, rfl, by decide +kernel⟩, rfl⟩

/-- G0 in a state, with an undo context, a step and a vote window. -/
def aborting (st : GroupState) (ph : Phase) (slot : Option Nat) (len : Nat) (own : Option JournalStep) : Group :=
  { unwinding ph slot len with state := st, step := own, voteTimer := some 500 }

/-- TRIG1 acts on every group with ROLLBACK. -/
def armed (s : State) : State := s.modTrigger 1 (fun t => { t with action := .rollback, mask := Four.const true })

theorem witness_RollbackBeginsWithTheDrain (st : GroupState) (ph : Phase) (slot : Option Nat) (len : Nat)
    (own : Option JournalStep) :
    (let s := withGroup (aborting st ph slot len own);
      s.abortsBy 0 (.voteAbort 0 0) (.voteAbort 0) s.tick
        ∧ (st = .voting → s.abortsBy 0 (.voteTimeout 0) .voteTimeout s.tick)
        ∧ (holding s [0x22#8, 0#8, 0#8, 0#8, 0#8] false).abortsBy 0 .forceAbort .management
            (holding s [0x22#8, 0#8, 0#8, 0#8, 0#8] false).tick
        ∧ (armed s).abortsBy 0 (.triggerEvent 1) (.trigger 1) (armed s).tick
        ∧ s.abortsBy 0 (.portReset 0) (.portReset 0) (s.tick.mapTxns (Txn.orphanedByPort 0))
        ∧ (s.group 0).state = st ∧ 3 ≤ (s.group 0).config.slots ∧ (s.group 0).step = own ∧ s.writesUnanswered 0 = false
        ∧ (s.group 0).journalLength = len ∧ (s.group 0).config.slots - 2 = 14
        ∧ (s.group 0).unwind = some { target := 1, port := 0, phase := ph, slot := slot }
        ∧ (st = .unwinding → (s.group 0).phase = some ph ∧ (s.group 0).popSlot = slot))
      ∧ (st = .opened ∨ st = .voting →
        let s := writing { aborting st ph slot 14 none with config := { openGroup.config with policy := .abort } } [];
        s.abortsBy 0 (.classification 0) .overflow s.tick ∧ (s.group 0).state = st ∧ 3 ≤ (s.group 0).config.slots)
      ∧ (st ≠ .unwinding → let s := armed { State.reset with groups := Four.const (aborting st ph slot len own) };
        s.resetPin = false ∧ (s.trigger 1).level = false ∧ (s.trigger 1).action = .rollback
          ∧ ∀ g, (s.trigger 1).mask.get g = true ∧ (s.group g).state ≠ .unwinding ∧ 3 ≤ (s.group g).config.slots) := by
  have others : ∀ j : GroupId, j ≠ 0 → (withGroup (aborting st ph slot len own)).group j = Group.reset := by
    intro j hj; fin_cases j <;> first | rfl | exact absurd rfl hj
  refine ⟨⟨Or.inl ⟨rfl, 0, 0, rfl, rfl, ⟨rfl, rfl, rfl, rfl⟩, rfl⟩, ?_, ?_, ?_, ?_, rfl, (by decide : 3 ≤ 16), rfl, rfl, rfl, rfl,
    rfl, ?_⟩, ?_, ?_⟩
  · rintro rfl
    exact Or.inr (Or.inl ⟨rfl, rfl, rfl, rfl, Option.some_ne_none _⟩)
  · exact Or.inr (Or.inr (Or.inl ⟨rfl, rfl, rfl, rfl, _, rfl, rfl, by decide +kernel⟩))
  · refine Or.inr (Or.inr (Or.inr (Or.inl ⟨rfl, 1, rfl, rfl, rfl, rfl, rfl, rfl, fun j hj _ => ?_⟩)))
    show ((withGroup (aborting st ph slot len own)).group j).state ∉ abortedStates
    rw [others j hj]
    decide
  · refine Or.inr (Or.inr (Or.inr (Or.inr (Or.inr ⟨0, rfl, rfl, rfl, rfl, rfl, fun k hk => ?_, fun k hk => ?_⟩))))
    · fin_cases k <;> cases hk
    · rw [others k hk]
      decide
  · rintro rfl
    exact ⟨rfl, rfl⟩
  · intro h
    refine ⟨Or.inr (Or.inr (Or.inr (Or.inr (Or.inl ⟨rfl, 0, request .write .classifying, 0, .journalFull, rfl, rfl, ⟨rfl, rfl⟩,
      ⟨rfl, rfl, rfl, rfl, rfl, rfl, fun _ => rfl⟩, rfl, h.imp id (fun h => ⟨h, rfl⟩), rfl, rfl, rfl,
      Or.inl ⟨rfl, Nat.le_refl 14, Or.inl fun e he => absurd he List.not_mem_nil⟩, rfl⟩)))), rfl, (by decide : 3 ≤ 16)⟩
  · intro h
    refine ⟨rfl, rfl, rfl, fun g => ?_⟩
    have hg : (armed { State.reset with groups := Four.const (aborting st ph slot len own) }).group g
        = aborting st ph slot len own := by fin_cases g <;> rfl
    rw [hg]
    exact ⟨by fin_cases g <;> rfl, h, (by decide : 3 ≤ 16)⟩

/-- The memory port with a write of RP0 and a clearing write of G0 waiting, and RP1's transaction in place 15. -/
def busyPort : State :=
  { State.reset with
    clock := 3
    mem := { waiting := [(request .write .classifying).txn 0 none, { ownOf 0 .restore .write 0x10100 128 [] .clearPhase with stamp := 2 },
                         { (request .read .classifying).txn 2 none with stamp := 2, addr := 0x5000 }]
             places := (Vector.replicate 16 none).set 15 (some { (request .read .classifying).txn 1 none with addr := 0x4000 })
             pointer := 1 } }

theorem busyPort_sound : busyPort.classesSound := by
  have hh : busyPort.mem.held = [(request .write .classifying).txn 0 none,
      { ownOf 0 .restore .write 0x10100 128 [] .clearPhase with stamp := 2 },
      { (request .read .classifying).txn 2 none with stamp := 2, addr := 0x5000 },
      { (request .read .classifying).txn 1 none with addr := 0x4000 }] := by decide +kernel
  intro x hx
  rw [hh] at hx
  simp only [List.mem_cons, List.not_mem_nil, or_false] at hx
  rcases hx with rfl | rfl | rfl | rfl <;> simp [Request.txn, ownOf]

theorem witness_ClassesFollowTheSources :
    (queued (.grant 0) busyPort).classesSound ∧ ∃ t, step (queued (.grant 0) busyPort) = .next t :=
  ⟨busyPort_sound, _, rfl⟩

theorem witness_ArbiterPicksByClassAndAge :
    busyPort.resetPin = false ∧ busyPort.classesSound ∧ busyPort.mem.places[(15 : PlaceId)] ≠ none
      ∧ busyPort.mem.places[(0 : PlaceId)] = none
      ∧ busyPort.mem.presents { ownOf 0 .restore .write 0x10100 128 [] .clearPhase with stamp := 2 }
      ∧ busyPort.mem.presents ((request .write .classifying).txn 0 none)
      ∧ ∀ x, ¬ State.reset.mem.presents x := by
  refine ⟨rfl, busyPort_sound, by decide +kernel, by decide +kernel, ⟨⟨[_], [_], rfl, ?_⟩, ?_, ?_⟩,
    ⟨⟨[], [_, _], rfl, by simp⟩, ?_, ?_⟩, ?_⟩
  · decide +kernel
  · have h : ∀ (j : PlaceId), ∀ y ∈ busyPort.mem.places[j],
        { ownOf 0 .restore .write 0x10100 128 [] .clearPhase with stamp := 2 }.clashes y = false := by decide +kernel
    exact fun j y hy => h j y hy
  · decide +kernel
  · have h : ∀ (j : PlaceId), ∀ y ∈ busyPort.mem.places[j],
        ((request .write .classifying).txn 0 none).clashes y = false := by decide +kernel
    exact fun j y hy => h j y hy
  · decide +kernel
  · rintro x ⟨⟨older, younger, h, -⟩, -⟩
    have : ([] : List Txn) = older ++ x :: younger := h
    cases older <;> cases this

theorem witness_RotationPassesThePorts :
    (busyPort.resetPin = false ∧ busyPort.mem.places[(3 : PlaceId)] = none
        ∧ (exec (.grant 3) busyPort = .next (after (.grant 3) busyPort))
        ∧ (after (.grant 3) busyPort).mem.places[(3 : PlaceId)]
          = some { ownOf 0 .restore .write 0x10100 128 [] .clearPhase with stamp := 2 })
      ∧ (let s := after (.grant 3) busyPort;
          s.mem.places[(4 : PlaceId)] = none ∧ exec (.grant 4) s = .next (after (.grant 4) s)
            ∧ (after (.grant 4) s).mem.places[(4 : PlaceId)]
              = some { (request .read .classifying).txn 2 none with stamp := 2, addr := 0x5000 }
            ∧ (after (.grant 4) s).mem.pointer = 2)
      ∧ setsPointer .softReset = false ∧ setsPointer (.portReset 0) = false
      ∧ (Instr.powerOn = .powerOn ∨ Instr.powerOn = .resetNAssert) :=
  ⟨⟨rfl, by decide +kernel, rfl, by decide +kernel⟩, ⟨by decide +kernel, rfl, by decide +kernel, by decide +kernel⟩, rfl, rfl,
    Or.inl rfl⟩

/-- An issued request stands behind older ones at RP0, its transaction in place 0. -/
def answering (k : AccessKind) (older : List Request) : State :=
  { atPort State.reset (older ++ [{ request k (.issued none) with tag := 9 }]) with
    mem := { MemPort.reset with places := MemPort.reset.places.set 0 (some ({ request k .classifying with tag := 9 }.txn 0 none)) } }

/-- Two requests that are ready for their turn: a refused write, and a read that the memory answered (R126). -/
def readyOnes : List Request :=
  [request .write .answered, { request .read (.issued (some (.ok (List.replicate 8 3#8)))) with tag := 1 }]

/-- What may stand behind them: nothing, a write that the memory still has, or the head. -/
def restAfterReady : List (List Request) := [[], [{ request .write (.issued none) with tag := 2 }], [request .write .classifying]]

/-- RP0's oldest request, a read in place 0, stands before them. -/
def readyBehind (rest : List Request) : State :=
  { atPort State.reset ({ request .read (.issued none) with tag := 9 } :: (readyOnes ++ rest)) with
    mem := { MemPort.reset with places := MemPort.reset.places.set 0 (some ({ request .read .classifying with tag := 9 }.txn 0 none)) } }

/-- 07, R126 and Example event 12: the answer to the oldest request gives its response and then, in queue order, those of the ready ones behind it. -/
theorem test_requesterAnswer_cascade : ∀ rest ∈ restAfterReady,
    let t := after (.requesterAnswer 0 (.ok (List.replicate 8 9#8))) (readyBehind rest)
    t.emitted = [.response 0 .ok (List.replicate 8 9#8), .response 0 .error [], .response 0 .ok (List.replicate 8 3#8)]
      ∧ (t.port 0).queue = rest := by decide +kernel

theorem witness_AnswerReachesItsRequest :
    (∀ k ∈ [AccessKind.read, .write], ∀ older ∈ [[], [request .read (.issued none)]],
      (answering k older).resetPin = false
        ∧ (answering k older).mem.places[(0 : PlaceId)] = some ({ request k .classifying with tag := 9 }.txn 0 none)
        ∧ ({ request k .classifying with tag := 9 }.txn 0 none).orphan = .live
        ∧ ((answering k older).port 0).queue = older ++ { request k (.issued none) with tag := 9 } :: []
        ∧ (∀ y ∈ older ++ [], y.tag ≠ 9) ∧ (answering k older).headStage 0 ≠ some .waiting
        ∧ ∀ y ∈ older.head?, y.readyFor 0 = none)
      ∧ (∀ rest ∈ restAfterReady, (readyBehind rest).resetPin = false
        ∧ (readyBehind rest).mem.places[(0 : PlaceId)] = some ({ request .read .classifying with tag := 9 }.txn 0 none)
        ∧ ((readyBehind rest).port 0).queue = { request .read (.issued none) with tag := 9 } :: (readyOnes ++ rest)
        ∧ (∀ y ∈ readyOnes ++ rest, y.tag ≠ 9) ∧ (readyBehind rest).headStage 0 ≠ some .waiting
        ∧ (∀ y ∈ readyOnes, y.readyFor 0 ≠ none) ∧ ∀ y ∈ rest.head?, y.readyFor 0 = none)
      ∧ ∀ st ∈ [GroupState.opened, .committing, .rollingBack, .unwinding],
        let x := { request .write .classifying with tag := 9 }.txn 0 (some 0)
        let s := { answering .write [] with
                   groups := State.reset.groups.set 0 { openGroup with state := st }
                   mem := { MemPort.reset with places := MemPort.reset.places.set 0 (some x) } }
        s.mem.places[(0 : PlaceId)] = some x ∧ x.dataGroup = some 0 ∧ (s.group 0).state = st ∧ 3 ≤ (s.group 0).config.slots := by
  decide +kernel

/-- RP0's data write of G0 in place 2, orphaned or not. -/
def dataWrite (o : Orphan) : Txn := { (request .write .classifying).txn 0 (some 0) with orphan := o }

/-- G0 as given, with that write unanswered. -/
def draining (x : Group) (o : Orphan) : State :=
  { withGroup x with mem := { MemPort.reset with places := MemPort.reset.places.set 2 (some (dataWrite o)) } }

theorem witness_OrphanedAnswerReachesNobody :
    (∀ o ∈ [Orphan.bySoftReset, .byFault, .byPortReset],
        (draining openGroup o).resetPin = false ∧ (draining openGroup o).mem.places[(2 : PlaceId)] = some (dataWrite o)
          ∧ (dataWrite o).orphan = o ∧ (dataWrite o).orphan ≠ .live ∧ (dataWrite o).dataGroup = some 0)
      ∧ (let x := { dataWrite .byPortReset with dataGroup := none };
          ({ State.reset with mem := { MemPort.reset with places := MemPort.reset.places.set 2 (some x) } }).mem.places[(2 : PlaceId)]
            = some x ∧ x.dataGroup = none ∧ x.orphan = .byPortReset)
      ∧ Instr.recordWrite 2 .error ∈ answersOf 2 .error ∧ Instr.recordWrite 2 .error ≠ .orphanedAnswer 2 .error
      ∧ ((draining openGroup .byPortReset).group 0).state ∉ [GroupState.unwinding, .rollingBack, .committing] := by
  decide +kernel

theorem witness_LastDataWriteEndsTheDrain :
    ∀ o ∈ [Orphan.live, .byPortReset],
      ∀ x ∈ [{ openGroup with state := .committing }, rolling .drain none 13, rolling .drain none 14, unwinding .drain none 13,
          unwinding .drain none 14],
        (draining x o).resetPin = false ∧ (draining x o).mem.places[(2 : PlaceId)] = some (dataWrite o)
          ∧ (dataWrite o).source = .port 0 ∧ (dataWrite o).role = .request 0 ∧ (dataWrite o).dataGroup = some 0
          ∧ (dataWrite o).orphan = o
          ∧ (∀ y ∈ (draining x o).mem.waiting, y.isDataWriteOf 0 = false ∧ y.isOwn 0 = false)
          ∧ (∀ (j : PlaceId), j ≠ 2 → ∀ y ∈ (draining x o).mem.places[j], y.isDataWriteOf 0 = false ∧ y.isOwn 0 = false)
          ∧ ((draining x o).group 0).step = none ∧ ((draining x o).group 0).queue = []
          ∧ (((draining x o).group 0).state = .committing
            ∨ (((draining x o).group 0).state ∈ [GroupState.unwinding, .rollingBack]
              ∧ ((draining x o).group 0).phase = some .drain))
          ∧ 3 ≤ ((draining x o).group 0).config.slots := by decide +kernel

/-- A transaction of G0's own, placed, is one. -/
theorem placing_ownAt (s : State) (r : Role) (n : Nat) (h : s.resetPin = false) : (placing s r n).ownAt 0 0 r n := by
  refine ⟨h, ownOf 0 .restore .read 0x10000 n [] r, ?_, rfl, rfl, rfl, rfl⟩
  show (s.mem.places.set 0 _)[0] = _
  simp

/-- A step of a write to block 1 that has left with its port, at a level and over a prior one. -/
def disowned (level : Nat) (prior : Option Nat) : JournalStep := { stepOf level prior with owner := none }

/-- A STAGED entry of G0's block 1 with a waiting list. -/
def waitedOn (durable staged : Option Nat) (ws : List PortId) : TrackEntry := { entry durable staged with waiters := ws }

/-- The step `own` runs in G0 as given, RP0 has the write of the step, if the queue `q` holds it, and the writes of RP1 and RP2 wait on the entry. -/
def awaited (x : Group) (own : JournalStep) (q : List PortId) (ws : List PortId) : State :=
  let s := atPort (withGroup { x with queue := q, step := some own }) [request .write .inQueue]
  { ((s.setPort 1 { s.port 1 with queue := [request .write .waitingOnEntry] }).setPort 2
      { s.port 2 with queue := [request .write .waitingOnEntry] }) with
    table := [waitedOn own.prior (some own.level) ws] }

theorem awaited_around (x : Group) (own : JournalStep) (q ws : List PortId) :
    (awaited x own q ws).queueAround 0 [] (request .write .inQueue) [] :=
  ⟨rfl, fun _ h => absurd h List.not_mem_nil, fun x h => absurd h (Option.some_ne_none x).symm, fun _ h => absurd h List.not_mem_nil⟩

/-- RP1's write of block 2, as a head in the queue. -/
def second : Request := { request .write .inQueue with addr := 128 }

/-- The entry of that block, DURABLE at level 0. -/
def secondEntry : TrackEntry := { entry (some 0) none with block := 2 }

/-- The step `own` runs in G0 as given, and behind RP0's write, if that is the step's, RP1's write of block 2 is next in the queue; the table holds `l` beside the step's entry. -/
def followed (x : Group) (own : JournalStep) (more : List PortId) (l : List TrackEntry) : State :=
  let s := atPort (withGroup { x with queue := own.owner.toList ++ 1 :: more, step := some own }) [request .write .inQueue]
  { s.setPort 1 { s.port 1 with queue := [second] } with table := waitedOn own.prior (some own.level) [] :: l }

/-- RP1's write takes its step up, of a block that is new or at a lower level. -/
theorem followed_takes (st : GroupState) (own : JournalStep) (ho : own ∈ [stepOf 1 (some 0), disowned 1 (some 0)])
    (more : List PortId) (l : List TrackEntry) (hl : l ∈ [[], [secondEntry]]) (n : Nat) (hn : n < 14) :
    (followed { openGroup with state := st, marks := [1] } own more l).takesStep 0 (blockOf second.addr) n
      (l.head?.bind (fun e => e.durable)) := by
  simp only [List.mem_cons, List.not_mem_nil, or_false] at ho hl
  rcases ho with rfl | rfl <;> rcases hl with rfl | rfl
  · exact ⟨hn, Or.inl ⟨rfl, rfl, (by decide : 1 < 1024), (by decide : 1 < 8)⟩⟩
  · exact ⟨hn, Or.inr ⟨secondEntry, rfl, rfl, rfl, (by decide : some 0 ≠ some 1)⟩⟩
  · exact ⟨hn, Or.inl ⟨rfl, rfl, (by decide : 1 < 1024), (by decide : 1 < 8)⟩⟩
  · exact ⟨hn, Or.inr ⟨secondEntry, rfl, rfl, rfl, (by decide : some 0 ≠ some 1)⟩⟩

theorem witness_JournalingStepRuns_next (st : GroupState) (more : List PortId) :
    ∀ own ∈ [stepOf 1 (some 0), disowned 1 (some 0)], ∀ l ∈ [[], [secondEntry]],
      let s := placing (followed { openGroup with state := st, marks := [1] } own more l) .recordWrite 128
      s.ownAt 0 0 .recordWrite 128 ∧ (s.group 0).step = some own ∧ (s.group 0).queue = own.owner.toList ++ 1 :: more
        ∧ s.noneHeld ∧ (s.group 0).state = st ∧ own.level = (s.group 0).marks.length ∧ s.tableSorted
        ∧ findEntry s.table own.block = some (waitedOn own.prior (some own.level) [])
        ∧ (∀ p, own.owner = some p → p ≠ 1 ∧ s.head p = some (request .write .inQueue)
          ∧ blockOf (request .write .inQueue).addr = own.block)
        ∧ s.head 1 = some second ∧ second.stage = .inQueue ∧ blockOf second.addr ≠ own.block
        ∧ s.takesStep 0 (blockOf second.addr) (s.group 0).journalLength (l.head?.bind (fun e => e.durable))
        ∧ s.takesStep 0 (blockOf second.addr) ((s.group 0).journalLength + 1) (l.head?.bind (fun e => e.durable)) := by
  intro own ho l hl
  refine ⟨placing_ownAt _ _ _ rfl, rfl, rfl, fun g => by fin_cases g <;> rfl, rfl, ?_, ?_, ?_, fun p hp => ?_, rfl, rfl, ?_,
    followed_takes st own ho more l hl _ (by decide : 0 < 14), followed_takes st own ho more l hl _ (by decide : 1 < 14)⟩
  · simp only [List.mem_cons, List.not_mem_nil, or_false] at ho
    rcases ho with rfl | rfl <;> rfl
  · simp only [List.mem_cons, List.not_mem_nil, or_false] at ho hl
    rcases ho with rfl | rfl <;> rcases hl with rfl | rfl <;>
      first
      | exact List.pairwise_singleton _ _
      | exact List.Pairwise.cons (by decide) (List.pairwise_singleton _ _)
  all_goals
    simp only [List.mem_cons, List.not_mem_nil, or_false] at ho
    rcases ho with rfl | rfl
  · rfl
  · rfl
  · cases hp; exact ⟨by decide, rfl, rfl⟩
  · cases hp
  · decide
  · decide

theorem witness_JournalingStepRuns :
    (∀ x l, (placing (stepping x l) .oldBlockRead 64).ownAt 0 0 .oldBlockRead 64
        ∧ (placing (stepping x l) .recordWrite 128).ownAt 0 0 .recordWrite 128
        ∧ ((stepping x l).group 0).step = some (stepOf l none) ∧ (stepOf l none).owner = some 0)
      ∧ (∀ st, ∀ l ∈ [0, 1], let s := placing (stepping { openGroup with state := st, marks := [1], journalLength := 12 } l) .recordWrite 128
          s.head 0 = some (request .write .inQueue) ∧ blockOf (request .write .inQueue).addr = (stepOf l none).block
            ∧ (s.group 0).queue = [0] ∧ (s.group 0).hold = none ∧ s.tableSorted
            ∧ findEntry s.table (stepOf l none).block = some (entry none (some l))
            ∧ (entry none (some l)).staged = some (stepOf l none).level ∧ (entry none (some l)).waiters = []
            ∧ (s.group 0).state = st ∧ (s.group 0).marks.length = 1
            ∧ (s.group 0).journalLength + 1 < (s.group 0).config.slots - 2)
      ∧ (∀ st, ∀ l ∈ [0, 1], ∀ ws ∈ [[], [1], [2, 1]],
          let s := placing (awaited { openGroup with state := st, marks := [1] } (stepOf l none) [0] ws) .recordWrite 128
          s.ownAt 0 0 .recordWrite 128 ∧ (s.group 0).step = some (stepOf l none) ∧ (stepOf l none).owner = some 0
            ∧ s.head 0 = some (request .write .inQueue) ∧ blockOf (request .write .inQueue).addr = (stepOf l none).block
            ∧ (s.group 0).queue = [0] ∧ (s.group 0).hold = none ∧ s.tableSorted
            ∧ findEntry s.table (stepOf l none).block = some (waitedOn none (some l) ws)
            ∧ (waitedOn none (some l) ws).staged = some (stepOf l none).level ∧ (waitedOn none (some l) ws).waiters = ws
            ∧ ((0 : PortId) :: ws).Nodup ∧ (s.group 0).state = st ∧ (s.group 0).marks.length = 1
            ∧ (s.group 0).journalLength + 1 < (s.group 0).config.slots - 2
            ∧ (∀ q ∈ ws, s.head q = some (request .write .waitingOnEntry))
            ∧ s.queueAround 0 [] (request .write .inQueue) [])
      ∧ (∀ st, ∀ ws ∈ [[], [1], [2, 1]], let s := placing (awaited { openGroup with state := st, marks := [1] } (disowned 1 (some 0)) [] ws) .recordWrite 128
          s.ownAt 0 0 .recordWrite 128 ∧ (s.group 0).step = some (disowned 1 (some 0)) ∧ (disowned 1 (some 0)).owner = none
            ∧ (s.group 0).queue = [] ∧ s.tableSorted ∧ findEntry s.table 1 = some (waitedOn (some 0) (some 1) ws)
            ∧ (waitedOn (some 0) (some 1) ws).waiters = ws ∧ ws.Nodup ∧ (s.group 0).state = st
            ∧ (disowned 1 (some 0)).level = (s.group 0).marks.length
            ∧ ∀ q ∈ ws, s.head q = some (request .write .waitingOnEntry)) := by
  refine ⟨fun x l => ⟨placing_ownAt _ _ _ rfl, placing_ownAt _ _ _ rfl, rfl, rfl⟩, fun st l _ => ?_,
    fun st l _ ws hw => ?_, fun st ws hw => ?_⟩
  · exact ⟨rfl, rfl, rfl, rfl, List.pairwise_singleton _ _, rfl, rfl, rfl, rfl, rfl, (by decide : 12 + 1 < 16 - 2)⟩
  · refine ⟨placing_ownAt _ _ _ rfl, rfl, rfl, rfl, rfl, rfl, rfl, List.pairwise_singleton _ _, rfl, rfl, rfl, ?_, rfl, rfl,
      (by decide : 0 + 1 < 16 - 2), ?_, awaited_around { openGroup with state := st, marks := [1] } (stepOf l none) [0] ws⟩
    · revert ws; decide
    · simp only [List.mem_cons, List.not_mem_nil, or_false] at hw
      rcases hw with rfl | rfl | rfl <;> intro q hq <;> fin_cases hq <;> rfl
  · refine ⟨placing_ownAt _ _ _ rfl, rfl, rfl, rfl, List.pairwise_singleton _ _, rfl, rfl, ?_, rfl, rfl, ?_⟩
    · revert ws; decide
    · simp only [List.mem_cons, List.not_mem_nil, or_false] at hw
      rcases hw with rfl | rfl | rfl <;> intro q hq <;> fin_cases hq <;> rfl

theorem witness_FailedStepLeavesNoRecord (st : GroupState) (q : Option Nat) :
    (let x := { openGroup with state := st, marks := [1], queue := [0], step := some (stepOf 1 q) };
      let s := { atPort (withGroup x) [request .write .inQueue] with table := [entry q (some 1)] };
      (placing s .oldBlockRead 64).ownAt 0 0 .oldBlockRead 64 ∧ (placing s .recordWrite 128).ownAt 0 0 .recordWrite 128
        ∧ (s.group 0).step = some (stepOf 1 q) ∧ (stepOf 1 q).owner = some 0 ∧ (stepOf 1 q).prior = q
        ∧ s.head 0 = some (request .write .inQueue) ∧ (s.group 0).queue = [0] ∧ s.noneHeld ∧ (s.group 0).state = st
        ∧ s.tableSorted ∧ findEntry s.table (stepOf 1 q).block = some (entry q (some 1)) ∧ (entry q (some 1)).waiters = [])
      ∧ (∀ r n, let s := placing (awaited { openGroup with state := st, marks := [1] } (disowned 1 q) [] []) r n
        s.ownAt 0 0 r n ∧ (s.group 0).step = some (disowned 1 q) ∧ (disowned 1 q).owner = none ∧ (disowned 1 q).prior = q
          ∧ (s.group 0).queue = [] ∧ s.noneHeld ∧ (s.group 0).state = st ∧ s.tableSorted
          ∧ findEntry s.table (disowned 1 q).block = some (waitedOn q (some 1) []) ∧ (waitedOn q (some 1) []).waiters = [])
      ∧ (∀ own ∈ [stepOf 1 q, disowned 1 q], ∀ r n,
        let s := placing (awaited { openGroup with state := st, marks := [1] } own own.owner.toList [2, 1]) r n
        s.ownAt 0 0 r n ∧ (s.group 0).step = some own ∧ (s.group 0).queue = own.owner.toList ∧ s.noneHeld
          ∧ (s.group 0).state = st ∧ s.tableSorted ∧ s.tableFits ∧ own.prior = q ∧ (s.group 0).marks.length = 1
          ∧ findEntry s.table own.block = some (waitedOn q (some 1) [2, 1]) ∧ (waitedOn q (some 1) [2, 1]).group = 0
          ∧ (waitedOn q (some 1) [2, 1]).waiters = 2 :: [1]
          ∧ (∀ p ∈ [(2 : PortId), 1], own.owner ≠ some p ∧ s.head p = some (request .write .waitingOnEntry))
          ∧ blockOf (request .write .waitingOnEntry).addr = own.block ∧ s.entriesOf 0 = 1 ∧ (s.group 0).effectiveQuota = 8
          ∧ (s.group 0).journalLength < (s.group 0).config.slots - 2) := by
  refine ⟨⟨placing_ownAt _ _ _ rfl, placing_ownAt _ _ _ rfl, rfl, rfl, rfl, rfl, rfl,
      fun g => by fin_cases g <;> rfl, rfl, List.pairwise_singleton _ _, rfl, rfl⟩,
    fun r n => ⟨placing_ownAt _ _ _ rfl, rfl, rfl, rfl, rfl, fun g => by fin_cases g <;> rfl, rfl, List.pairwise_singleton _ _,
      rfl, rfl⟩, fun own ho r n => ?_⟩
  simp only [List.mem_cons, List.not_mem_nil, or_false] at ho
  rcases ho with rfl | rfl <;>
  · refine ⟨placing_ownAt _ _ _ rfl, rfl, rfl, fun g => by fin_cases g <;> rfl, rfl, List.pairwise_singleton _ _,
      (by decide : 1 ≤ 1024), rfl, rfl, rfl, rfl, rfl, ?_, rfl, rfl, rfl, (by decide : 0 < 16 - 2)⟩
    intro p hp
    fin_cases hp <;> exact ⟨by simp [stepOf, disowned], rfl⟩

theorem witness_FailedStepLeavesNoRecord_next (st : GroupState) (more : List PortId) (h : (0 : PortId) ∉ 1 :: more) :
    ∀ own ∈ [stepOf 1 (some 0), disowned 1 (some 0)], ∀ l ∈ [[], [secondEntry]],
      let s := followed { openGroup with state := st, marks := [1] } own more l
      (placing s .oldBlockRead 64).stepFails 0 0 (.oldBlockRead 0 .error)
        ∧ (placing s .recordWrite 128).stepFails 0 0 (.recordWrite 0 .error)
        ∧ ∀ p, own.owner = some p → p ∉ 1 :: more := by
  intro own ho l _
  refine ⟨Or.inl ⟨placing_ownAt _ _ _ rfl, rfl⟩, Or.inr ⟨placing_ownAt _ _ _ rfl, rfl⟩, fun p hp => ?_⟩
  simp only [List.mem_cons, List.not_mem_nil, or_false] at ho
  rcases ho with rfl | rfl <;> cases hp
  exact h

/-- 02, R37: after a MEMORY_ERROR the next head of the queue starts its step, over the block's entry where it has one. -/
theorem test_oldBlockRead_error_next : ∀ l ∈ [[], [secondEntry]],
    let t := after (.oldBlockRead 0 .error) (placing (followed { openGroup with marks := [1] } (stepOf 1 (some 0)) [] l) .oldBlockRead 64)
    (t.group 0).queue = [1] ∧ (t.group 0).step.map (fun x => (x.owner, x.block.toNat, x.slot)) = some (some 1, 2, 2)
      ∧ t.mem.waiting.map (fun x => (x.role, x.addr)) = [(.oldBlockRead, 128)] ∧ (t.port 0).queue = [] := by decide +kernel

/-- 02, R27 and R39: at a failed step both waiting writes join the queue, and only then the first of them starts. -/
theorem test_recordWrite_error :
    let s := after (.recordWrite 0 .error) (placing (awaited openGroup (stepOf 0 none) [0] [2, 1]) .recordWrite 128)
    (s.group 0).queue = [2, 1] ∧ (s.group 0).step.map (fun x => x.owner) = some (some 2)
      ∧ s.table = [entry none (some 0)] ∧ s.headStage 1 = some .inQueue := by decide +kernel

/-- 07, R133: with the head of the queue removed by its port's reset, the next head starts its step, and the drain waits for it. -/
theorem test_portReset_next_head :
    let s := after (.portReset 0) (pair { openGroup with hold := some (holdOf .journalFull) })
    (s.group 0).state = .rollingBack ∧ (s.group 0).step.map (fun x => x.owner) = some (some 1)
      ∧ (s.group 0).rollback.map (fun x => x.phase) = some .drain := by decide +kernel

theorem witness_StepEndEndsTheDrain :
    (∀ s i n, ∀ r ∈ [Role.oldBlockRead, .recordWrite], s.resetPin = false → i = 0 → (placing s r n).ownAt i 0 r n)
      ∧ (∀ len, ∀ x ∈ [unwinding .drain none len, rolling .drain none len, { openGroup with state := .committing }],
          ∀ own ∈ [stepOf 0 none, disowned 0 (some 0)], ∀ ws : List PortId, ∀ r n,
          let s := placing (awaited x own own.owner.toList ws) r n;
          s.resetPin = false ∧ (s.group 0).step = some own ∧ (s.group 0).queue = own.owner.toList ∧ s.noneHeld ∧ s.tableSorted
            ∧ findEntry s.table own.block = some (waitedOn own.prior (some 0) ws) ∧ (s.group 0).state = x.state
            ∧ (x.state = .committing ∨ (s.group 0).phase = some .drain) ∧ 3 ≤ (s.group 0).config.slots
            ∧ (waitedOn own.prior (some 0) ws).waiters = ws
            ∧ ∀ q ∈ [(1 : PortId), 2], own.owner ≠ some q ∧ s.head q = some (request .write .waitingOnEntry))
      ∧ (let s := placing (awaited { openGroup with state := .committing, marks := [1], journalLength := 13 } (stepOf 0 none) [0] [])
            .recordWrite 128;
          s.head 0 = some (request .write .inQueue) ∧ blockOf (request .write .inQueue).addr = (stepOf 0 none).block
            ∧ (s.group 0).queue = [0] ∧ (s.group 0).hold = none ∧ (s.group 0).state = .committing ∧ s.tableSorted
            ∧ (stepOf 0 none).level ≠ (s.group 0).marks.length
            ∧ (s.group 0).config.slots - 2 ≤ (s.group 0).journalLength + 1) := by
  refine ⟨fun s i n r _ h hi => ?_, fun len x hx own ho ws r n => ?_,
    rfl, rfl, rfl, rfl, rfl, List.pairwise_singleton _ _, (by decide : 0 ≠ 1), Nat.le_refl 14⟩
  · subst hi
    exact placing_ownAt s r n h
  · simp only [List.mem_cons, List.not_mem_nil, or_false] at hx ho
    rcases hx with rfl | rfl | rfl <;> rcases ho with rfl | rfl <;>
      exact ⟨rfl, rfl, rfl, fun g => by fin_cases g <;> rfl, List.pairwise_singleton _ _, rfl, rfl,
        by first | exact Or.inr rfl | exact Or.inl rfl, (by decide : 3 ≤ 16), rfl,
        fun q hq => by fin_cases hq <;> exact ⟨by decide, rfl⟩⟩

/-- RP0's held head stands before RP1's write of block 2 in the queue of G0 as given. -/
def heldBefore (x : Group) (o : Overflow) (more : List PortId) (l : List TrackEntry) : State :=
  let s := atPort (withGroup { x with queue := 0 :: 1 :: more, hold := some (holdOf o) }) [request .write (.held (.overflow o))]
  { s.setPort 1 { s.port 1 with queue := [second] } with table := l }

theorem witness_HoldExpiryRefusesTheHead (o : Overflow) :
    (((held o).group 0).hold = some { reason := o, timer := 1000, since := 0 } ∧ ((held o).group 0).queue = [0]
        ∧ (held o).head 0 = some (request .write (.held (.overflow o))))
      ∧ (∀ x more l, (0 : PortId) ∉ 1 :: more → x.step = none → let s := heldBefore x o more l
          (s.group 0).hold = some (holdOf o) ∧ (s.group 0).queue = 0 :: 1 :: more ∧ (0 : PortId) ∉ 1 :: more
            ∧ (s.group 0).step = none ∧ (s.group 0).state = x.state ∧ (s.group 0).config.policy = x.config.policy
            ∧ s.head 0 = some (request .write (.held (.overflow o))) ∧ s.head 1 = some second ∧ second.stage = .inQueue)
      ∧ ((heldBefore { openGroup with journalLength := 13 } o [] []).takesStep 0 (blockOf second.addr) 13 none
        ∧ (heldBefore { openGroup with marks := [1] } o [] [secondEntry]).takesStep 0 (blockOf second.addr) 0 (some 0))
      ∧ findEntry (heldBefore openGroup o [] [secondEntry]).table (blockOf second.addr) = some secondEntry
      ∧ (secondEntry.staged = none
        ∧ secondEntry.durable = some ((heldBefore openGroup o [] [secondEntry]).group 0).marks.length)
      ∧ (∀ p, (heldBefore { openGroup with config := { openGroup.config with policy := p }, journalLength := 14 } o [] []).meetsOverflow
          0 (blockOf second.addr) .journalFull)
      ∧ (∀ p, (heldBefore { openGroup with config := { openGroup.config with policy := p }, effectiveQuota := 0 } o [] []).meetsOverflow
          0 (blockOf second.addr) .trackFull)
      ∧ ((withGroup openGroup).group 0).hold = none := by
  refine ⟨⟨rfl, rfl, rfl⟩, fun x more l h hs => ⟨rfl, rfl, h, hs, rfl, rfl, rfl, rfl, rfl⟩,
    ⟨⟨(by decide : 13 < 14), Or.inl ⟨rfl, rfl, (by decide : 0 < 1024), (by decide : 0 < 8)⟩⟩,
      ⟨(by decide : 0 < 14), Or.inr ⟨secondEntry, rfl, rfl, rfl, (by decide : some 0 ≠ some 1)⟩⟩⟩, rfl, ⟨rfl, rfl⟩,
    fun p => Or.inl ⟨rfl, Nat.le_refl 14, Or.inl fun e he => absurd he List.not_mem_nil⟩,
    fun p => Or.inr ⟨rfl, (by decide : 0 < 14), fun e he => absurd he List.not_mem_nil, Or.inr (Nat.le_refl 0)⟩, rfl⟩

/-- 02, R42: at the expiry of a hold the head is refused and the next one starts its step. -/
theorem test_holdExpiry_next :
    let t := after (.holdExpiry 0) (heldBefore openGroup .journalFull [] [])
    (t.port 0).refusal.map (fun x => x.reason) = some .journalFull ∧ (t.group 0).hold = none ∧ (t.group 0).queue = [1]
      ∧ (t.group 0).step.map (fun x => (x.owner, x.block.toNat)) = some (some 1, 2) := by decide +kernel

theorem noneHeld_withGroup (x : Group) (h : x.hold = none) : (withGroup x).noneHeld := by
  intro g; fin_cases g
  · exact h
  · rfl
  · rfl
  · rfl

theorem witness_PopRunsReadRestoreClear :
    (∀ x r n, (placing (withGroup x) r n).ownAt 0 0 r n ∧ ((placing (withGroup x) r n).group 0) = x)
      ∧ (∀ n, (rolling .clear none n).phase = some .clear ∧ (rolling .clear none n).journalLength = n
          ∧ (unwinding .clear none n).phase = some .clear)
      ∧ (matchesRecord 0 (openGroup.closedEpoch + 1) 2 (fitBytes 128 (record 2 1 (some 0))) = true
          ∧ (rolling .pop (some 3) 2).state = .rollingBack
          ∧ (unwinding .pop (some 3) 2).unwind = some { target := 1, port := 0, phase := .pop, slot := some 3 }
          ∧ 1 ≤ recordLevel (fitBytes 128 (record 2 1 (some 0))))
      ∧ (rolling .pop (some 3) 2).popSlot = some 3
      ∧ (∀ n, let s := popping (rolling .pop (some (1 + n)) n)
          s.ownAt 0 0 (.popClear 1 none) 128 ∧ (s.group 0).phase = some .pop ∧ s.noneHeld ∧ s.tableSorted
            ∧ (s.group 0).journalLength = n ∧ (s.group 0).state = .rollingBack) := by
  refine ⟨fun x r n => ⟨placing_ownAt _ _ _ rfl, rfl⟩, fun n => ⟨rfl, rfl, rfl⟩, ⟨record_matches.1, rfl, rfl, ?_⟩, rfl,
    fun n => ⟨placing_ownAt { (withGroup _) with table := [entry (some 0) none] } _ _ rfl, rfl, noneHeld_withGroup _ rfl,
      List.pairwise_singleton _ _, rfl, rfl⟩⟩
  rw [record_fits]; decide +kernel

/-- G0 pops the record that made the first entry of a full table while RP2's write of block 7000 is held in G1. -/
def starving (l : List TrackEntry) : State :=
  placing { State.reset with
    groups := (State.reset.groups.set 0 (rolling .pop (some 3) 2)).set 1 { openGroup with
      queue := [2], hold := some { reason := .trackFull, timer := 1000, since := 4 } }
    ports := State.reset.ports.set 2 { Port.reset with
      queue := [{ request .write (.held (.overflow .trackFull)) with addr := 448000 }] }
    table := entry (some 0) none :: l } (.popClear 1 none) 128

/-- The head that is held there. -/
def starved : Request := { request .write (.held (.overflow .trackFull)) with addr := 448000 }

theorem starving_sound (l : List TrackEntry) (h : (entry (some 0) none :: l).Pairwise (fun x y => x.block < y.block))
    (hl : l.length = 1023) (hb : ∀ x ∈ entry (some 0) none :: l, x.block ≠ blockOf starved.addr) :
    (starving l).ownAt 0 0 (.popClear 1 none) 128 ∧ ((starving l).group 0).phase = some .pop
      ∧ 2 ≤ ((starving l).group 0).journalLength ∧ (starving l).tableSorted ∧ (starving l).table.length = 1024
      ∧ findEntry (starving l).table 1 = some (entry (some 0) none) ∧ (entry (some 0) none).group = 0
      ∧ ((starving l).group 1).hold = some { reason := .trackFull, timer := 1000, since := 4 }
      ∧ (∀ j : GroupId, j ≠ 1 → ((starving l).group j).hold = none)
      ∧ ((starving l).group 1).queue = [2] ∧ (starving l).head 2 = some starved
      ∧ (∀ j : GroupId, j ≠ 1 → 2 ∉ ((starving l).group j).queue)
      ∧ (∀ x ∈ (starving l).table, x.block ≠ blockOf starved.addr)
      ∧ ((starving l).group 1).journalLength < ((starving l).group 1).config.slots - 2 := by
  refine ⟨placing_ownAt { State.reset with groups := _, ports := _, table := _ } _ _ rfl, rfl, Nat.le_refl 2, h,
    congrArg Nat.succ hl, rfl, rfl, rfl, ?_, rfl, rfl, ?_, hb, (by decide : 0 < 16 - 2)⟩
  · intro j hj; fin_cases j
    · rfl
    · exact absurd rfl hj
    · rfl
    · rfl
  · intro j hj; fin_cases j
    · exact List.not_mem_nil
    · exact absurd rfl hj
    · exact List.not_mem_nil
    · exact List.not_mem_nil

/-- The head's group holds 7 of its 8 entries, the others are G3's: none of block 7000. -/
def starvingTable : List TrackEntry :=
  ((manyEntries 1023).map (fun e => { e with group := if e.block < 9 then 1 else 3 }))

theorem starvingTable_sorted : (entry (some 0) none :: starvingTable).Pairwise (fun x y => x.block < y.block) := by
  refine List.Pairwise.cons ?_ ?_
  · decide +kernel
  · unfold starvingTable
    rw [List.pairwise_map]
    exact manyEntries_sorted 1023 (by omega)

theorem starvingTable_length : starvingTable.length = 1023 := by
  unfold starvingTable; rw [List.length_map, manyEntries_length]

theorem witness_FreedEntryServesTheOldestHold :
    (starving starvingTable).ownAt 0 0 (.popClear 1 none) 128 ∧ (starving starvingTable).tableSorted
      ∧ (starving starvingTable).table.length = 1024 ∧ (starving starvingTable).head 2 = some starved
      ∧ (∀ x ∈ (starving starvingTable).table, x.block ≠ blockOf starved.addr)
      ∧ (starving starvingTable).entriesOf 1 < ((starving starvingTable).group 1).effectiveQuota := by
  obtain ⟨h1, -, -, h2, h3, -, -, -, -, -, h4, -, h5, -⟩ := starving_sound starvingTable starvingTable_sorted
    starvingTable_length (by decide +kernel)
  exact ⟨h1, h2, h3, h4, h5, by decide +kernel⟩

/-- RP0's UNDO to mark 1 waits on its channel while G0 unwinds. -/
def undoing (ph : Phase) (n : Nat) : State :=
  (withGroup (unwinding ph (some (1 + n)) n)).modPort 0 (fun x => { x with channel := some { kind := .undo, arg := 1, group := 0 } })

theorem witness_UndoFinishesAtItsMark :
    (∀ ph n r k, let s := placing (undoing ph n) r k
        (s.group 0).state = .unwinding
          ∧ (s.group 0).unwind = some { target := 1, port := 0, phase := ph, slot := some (1 + n) } ∧ s.noneHeld
          ∧ (s.port 0).channel = some { kind := .undo, arg := 1, group := 0 } ∧ s.ownAt 0 0 r k
          ∧ (s.group 0).journalLength = n)
      ∧ matchesRecord 0 (openGroup.closedEpoch + 1) 1 (fitBytes 128 (record 1 0 none)) = true
      ∧ recordLevel (fitBytes 128 (record 1 0 none)) < 1 := by
  refine ⟨fun ph n r k => ⟨rfl, rfl, fun g => by fin_cases g <;> rfl, rfl, placing_ownAt _ _ _ rfl, rfl⟩,
    record_matches.2, ?_⟩
  rw [record_fits]; decide +kernel

theorem witness_ClosesEndTheEpoch (c : CloseCause) (v : FourSet) :
    let s := withGroup { openGroup with state := .rollingBack, lastClose := c, voteSet := v }
    s.noneHeld ∧ (placing s .commitHeader 128).ownAt 0 0 .commitHeader 128
      ∧ (placing s .rollbackHeader 128).ownAt 0 0 .rollbackHeader 128 ∧ (s.group 0).lastClose = c :=
  ⟨noneHeld_withGroup _ rfl, placing_ownAt _ _ _ rfl, placing_ownAt _ _ _ rfl, rfl⟩

theorem witness_FormatRunsToClosed (st : GroupState) (n : Nat) (y : Copy) :
    (let s := holding (withGroup { openGroup with state := st }) [0x20#8, 0#8, 0#8, 0#8, 0#8] true;
        s.awaits (.format 0) ∧ (s.group 0).state = st)
      ∧ (placing (withGroup { openGroup with state := .formatting }) (.formatClear n) 128).ownAt 0 0 (.formatClear n) 128
      ∧ (placing (withGroup { openGroup with state := .formatting }) (.formatHeader y) 128).ownAt 0 0 (.formatHeader y) 128 :=
  ⟨⟨⟨rfl, _, rfl, rfl, by decide +kernel⟩, rfl⟩, placing_ownAt _ _ _ rfl, placing_ownAt _ _ _ rfl⟩

/-- A header slot of G0 is judged as it was written (05, R97). -/
theorem header_judged : judgeHeader 0 .b 16 (fitBytes 128 (headerSlot 0 .b .committed 5 16)) = .valid 5
    ∧ judgeHeader 0 .b 16 (fitBytes 128 (headerSlot 0 .b .committed 5 17)) = .otherSize
    ∧ judgeHeader 0 .b 16 (fitBytes 128 (List.replicate 128 0#8)) = .malformed := by
  refine ⟨?_, ?_, by decide +kernel⟩
  all_goals
    rw [fitBytes_of_length 128 _ (headerSlot_length _ _ _ _ _)]
    unfold judgeHeader headerWellFormed
    rw [checkGood_headerSlot]
    decide +kernel

theorem witness_RecoveryChoosesAndScans (st : GroupState) (n : Nat) (x : RecoveryContext) :
    (let s := holding (withGroup { openGroup with state := st }) [0x21#8, 0#8, 0#8, 0#8, 0#8] false;
        s.awaits (.recover 0) ∧ (s.group 0).state = st)
      ∧ (∀ y, (placing (withGroup (recovering n x)) (.headerRead y) 128).ownAt 0 0 (.headerRead y) 128)
      ∧ (placing (withGroup (recovering n x)) .scanRead 128).ownAt 0 0 .scanRead 128
      ∧ ((withGroup (recovering n x)).group 0).recovery = some x ∧ ((withGroup (recovering n x)).group 0).journalLength = n
      ∧ foundA.found = none ∧ foundA.judgedA = .valid 4
      ∧ judgeHeader 0 .b 16 (fitBytes 128 (headerSlot 0 .b .committed 5 16)) = .valid 5
      ∧ judgeHeader 0 .b 16 (fitBytes 128 (List.replicate 128 0#8)) = .malformed
      ∧ matchesRecord 0 (openGroup.closedEpoch + 1) (0 + 1) (fitBytes 128 (record 1 0 none)) = true
      ∧ matchesRecord 0 (openGroup.closedEpoch + 1) (0 + 1) (fitBytes 128 (List.replicate 128 0#8)) = false :=
  ⟨⟨⟨rfl, _, rfl, rfl, by decide +kernel⟩, rfl⟩, fun _ => placing_ownAt _ _ _ rfl, placing_ownAt _ _ _ rfl, rfl, rfl, rfl, rfl,
    header_judged.1, header_judged.2.2, record_matches.2, by decide +kernel⟩

theorem witness_ReplayRestoresAndCloses (n k : Nat) (b : Block) :
    let x := recovering n { foundA with found := some k }
    (placing (withGroup x) .replayRead 128).ownAt 0 0 .replayRead 128
      ∧ matchesRecord 0 (openGroup.closedEpoch + 1) 2 (fitBytes 128 (record 2 1 (some 0))) = true
      ∧ (placing (withGroup x) (.recoveryRestore b) 64).ownAt 0 0 (.recoveryRestore b) 64
      ∧ (placing (withGroup x) .recoveryHeader 128).ownAt 0 0 .recoveryHeader 128
      ∧ x.recovery = some { foundA with found := some k } ∧ x.journalLength = n :=
  ⟨placing_ownAt _ _ _ rfl, record_matches.1, placing_ownAt _ _ _ rfl, placing_ownAt _ _ _ rfl, rfl, rfl⟩

/-- RP0's write stands inside G0, which is as given. -/
def inside (x : Group) (st : Stage) : State :=
  (withGroup x).setPort 0 { (withGroup x).port 0 with queue := [request .write st], headDomain := some 0, headGroup := some 0 }

/-- The heads that a failure refuses, and what a RECOVER has found, for the conclusions of the same statement. -/
theorem witness_FailuresFaultTheGroup_inside :
    (∀ ph slot len, ∀ st ∈ [Stage.held .rollingBack, .waitingOnEntry, .inQueue],
        let s := placing (inside (rolling ph slot len) st) .clearPhase 128;
        s.head 0 = some (request .write st) ∧ (request .write st).standsInside ∧ (s.port 0).headGroup = some 0
          ∧ s.reaches 0 (request .write st) 0 0 ∧ ∀ k, k ≠ 0 → (0 : PortId) ∉ (s.group k).queue)
      ∧ ∀ len, (recovering len foundA).recovery = some foundA := by
  refine ⟨fun ph slot len st hst => ?_, fun _ => rfl⟩
  simp only [List.mem_cons, List.not_mem_nil, or_false] at hst
  rcases hst with rfl | rfl | rfl
  · exact ⟨rfl, Or.inl ⟨_, rfl⟩, rfl, ⟨rfl, rfl, rfl, rfl, rfl, rfl, fun _ => rfl⟩,
      fun k hk => by fin_cases k <;> first | exact absurd rfl hk | exact List.not_mem_nil⟩
  · exact ⟨rfl, Or.inr (Or.inl rfl), rfl, ⟨rfl, rfl, rfl, rfl, rfl, rfl, fun _ => rfl⟩,
      fun k hk => by fin_cases k <;> first | exact absurd rfl hk | exact List.not_mem_nil⟩
  · exact ⟨rfl, Or.inr (Or.inr rfl), rfl, ⟨rfl, rfl, rfl, rfl, rfl, rfl, fun _ => rfl⟩,
      fun k hk => by fin_cases k <;> first | exact absurd rfl hk | exact List.not_mem_nil⟩

/-- Every failure of R16 has a state it happens in. -/
theorem witness_FailuresFaultTheGroup :
    (placing (withGroup (rolling .clear none 3)) .clearPhase 128).failsAt 0 0 (.clearPhaseWrite 0 .error) .restoreWrite 5 (some 5) none
      ∧ (placing (withGroup (rolling .pop (some 4) 3)) .popRead 128).failsAt 0 0 (.recordRead 0 (.ok [])) .recordCorrupt 5 (some 4) none
      ∧ (placing (withGroup (rolling .pop (some 4) 3)) (.popRestore 9 none) 64).failsAt 0 0 (.restoreWrite 0 .error) .restoreWrite 5
          (some 4) (some 9)
      ∧ (placing (withGroup (rolling .pop (some 4) 3)) (.popClear 9 none) 128).failsAt 0 0 (.popComplete 0 .error) .restoreWrite 5
          (some 4) (some 9)
      ∧ (placing (withGroup { openGroup with state := .committing }) .commitHeader 128).failsAt 0 0 (.commitHeaderWrite 0 .error)
          .headerWrite 5 (some 1) none
      ∧ (placing (withGroup (rolling .header none 0)) .rollbackHeader 128).failsAt 0 0 (.rollbackHeaderWrite 0 .error) .headerWrite 5
          (some 1) none
      ∧ (placing (withGroup { openGroup with state := .formatting }) (.formatClear 15) 128).failsAt 0 0
          (.formatClearingWrite 0 .error) .recoveryWrite 0 (some 15) none
      ∧ (placing (withGroup { openGroup with state := .formatting }) (.formatHeader .b) 128).failsAt 0 0
          (.formatHeaderWrite 0 .error) .recoveryWrite 0 (some 1) none
      ∧ (placing (withGroup (recovering 0 foundA)) (.headerRead .a) 128).failsAt 0 0 (.headerRead 0 .error) .recoveryRead 0 (some 0)
          none
      ∧ (placing (withGroup (recovering 3 foundA)) .scanRead 128).failsAt 0 0 (.scanRead 0 .error) .recoveryRead 5 (some 5) none
      ∧ (placing (withGroup (recovering 3 foundA)) .replayRead 128).failsAt 0 0 (.replayRead 0 .error) .recoveryRead 5 (some 4) none
      ∧ (placing (withGroup (recovering 3 foundA)) (.recoveryRestore 9) 64).failsAt 0 0 (.recoveryRestoreWrite 0 .error)
          .recoveryWrite 5 (some 4) (some 9)
      ∧ (placing (withGroup (recovering 0 foundA)) .recoveryHeader 128).failsAt 0 0 (.recoveryHeaderWrite 0 .error) .recoveryWrite 5
          (some 1) none := by
  refine ⟨Or.inl ⟨placing_ownAt _ _ _ rfl, rfl, rfl, rfl, rfl, rfl⟩,
    Or.inr (Or.inl ⟨placing_ownAt _ _ _ rfl, Or.inr ⟨[], rfl, by decide +kernel⟩, rfl, rfl, rfl, rfl⟩),
    Or.inr (Or.inr (Or.inl ⟨9, none, 4, Or.inl ⟨placing_ownAt _ _ _ rfl, rfl⟩, rfl, rfl, rfl, rfl, rfl⟩)),
    Or.inr (Or.inr (Or.inl ⟨9, none, 4, Or.inr ⟨placing_ownAt _ _ _ rfl, rfl⟩, rfl, rfl, rfl, rfl, rfl⟩)),
    Or.inr (Or.inr (Or.inr (Or.inl ⟨Or.inl ⟨placing_ownAt _ _ _ rfl, rfl⟩, rfl, rfl, rfl, rfl⟩))),
    Or.inr (Or.inr (Or.inr (Or.inl ⟨Or.inr ⟨placing_ownAt _ _ _ rfl, rfl⟩, rfl, rfl, rfl, rfl⟩))),
    Or.inr (Or.inr (Or.inr (Or.inr (Or.inl ⟨15, placing_ownAt _ _ _ rfl, rfl, rfl, rfl, rfl, rfl⟩)))),
    Or.inr (Or.inr (Or.inr (Or.inr (Or.inr (Or.inl ⟨.b, placing_ownAt _ _ _ rfl, rfl, rfl, rfl, rfl, rfl⟩))))),
    Or.inr (Or.inr (Or.inr (Or.inr (Or.inr (Or.inr (Or.inl ⟨.a, placing_ownAt _ _ _ rfl, rfl, rfl, rfl, rfl, rfl⟩)))))),
    Or.inr (Or.inr (Or.inr (Or.inr (Or.inr (Or.inr (Or.inr (Or.inl ⟨placing_ownAt _ _ _ rfl, rfl, rfl, rfl, rfl, rfl⟩))))))),
    Or.inr (Or.inr (Or.inr (Or.inr (Or.inr (Or.inr (Or.inr (Or.inr (Or.inl
      ⟨placing_ownAt _ _ _ rfl, Or.inl rfl, rfl, rfl, rfl, rfl⟩)))))))),
    Or.inr (Or.inr (Or.inr (Or.inr (Or.inr (Or.inr (Or.inr (Or.inr (Or.inr (Or.inl
      ⟨9, placing_ownAt _ _ _ rfl, rfl, rfl, rfl, rfl, rfl⟩))))))))),
    Or.inr (Or.inr (Or.inr (Or.inr (Or.inr (Or.inr (Or.inr (Or.inr (Or.inr (Or.inr
      ⟨placing_ownAt _ _ _ rfl, rfl, rfl, rfl, rfl, rfl⟩)))))))))⟩

theorem witness_MediaSlotsReadBack :
    (List.replicate 64 9#8).length = 64 ∧ (stepOf 7 (some 7)).level ≤ 7 ∧ (∀ l ∈ (stepOf 7 (some 7)).prior, l ≤ 7)
      ∧ { stepOf 7 none with sequence := 65535 }.sequence ≤ 65535 ∧ (0xFFFFFFFE#32).toNat ≤ 0xFFFFFFFE ∧ 65536 ≤ 65536 := by
  decide

theorem witness_ConfigurationBytesReadBack :
    ∀ c ∈ [GroupConfig.reset, openGroup.config, { openGroup.config with
        base := BitVec.ofNat 36 (2 ^ 36 - 128), slots := 65536, holdLimit := 65535, voteWindow := 65535, quota := 1 }],
      c.base.toNat % 128 = 0 ∧ (c.slots = 0 ∨ (3 ≤ c.slots ∧ c.slots ≤ 65536)) ∧ 1 ≤ c.holdLimit ∧ c.holdLimit ≤ 65535
        ∧ c.voteWindow ≤ 65535 ∧ 1 ≤ c.quota ∧ c.quota ≤ 1024 := by decide +kernel

/-- A frame with its checksum. -/
def framed (bytes : List Byte) : List Byte := bytes ++ [frameChecksum bytes]

theorem witness_RequestChecksComeInOrder :
    (([1#8, 0x46#8, 0#8, 0#8, 0#8] : List Byte).length < 6)
      ∧ 64 < (byteAt [2#8, 0x10#8, 0#8, 0#8, 65#8, 0#8] 4).toNat
      ∧ [2#8, 0x10#8, 0#8, 0#8, 2#8, 0#8, 0#8].length ≠ 6 + 2
      ∧ [1#8, 0x46#8, 0#8, 0#8, 0x40#8, 0x77#8].getLast?
          ≠ some (~~~ ([1#8, 0x46#8, 0#8, 0#8, 0x40#8].foldl (· + ·) 0#8))
      ∧ (∀ b ∈ [[0x04#8, 0#8, 0#8, 0#8, 0#8], [0x31#8, 0#8, 0#8, 0#8, 0#8], [0x10#8, 0#8, 1#8, 0#8, 0#8],
          [0x3F#8, 0#8, 0#8, 0#8, 0#8], [0x20#8, 4#8, 0#8, 0#8, 0#8], [1#8, 0x46#8, 0#8, 0#8, 0x40#8],
          [0x20#8, 3#8, 0#8, 0#8, 0#8], [0x11#8, 1#8, 0#8, 0#8, 0#8], [0x31#8, 0#8, 0#8, 0#8, 3#8, 0#8, 0#8, 0x20#8],
          [1#8, 0x0F#8, 0#8, 0#8, 0#8], [1#8, 0x31#8, 0#8, 0#8, 0#8], [2#8, 0x20#8, 0#8, 0#8, 0#8],
          [2#8, 0x70#8, 4#8, 0#8, 3#8, 1#8, 0#8, 0#8], [2#8, 0x70#8, 0#8, 0#8, 0#8]],
          6 ≤ (framed b).length ∧ (byteAt (framed b) 4).toNat ≤ 64
            ∧ (framed b).length = (if byteAt (framed b) 0 = 1#8 then 6 else 6 + (byteAt (framed b) 4).toNat)
            ∧ (framed b).getLast? = some (~~~ ((framed b).dropLast.foldl (· + ·) 0#8)))
      ∧ Object.ofByte 0x46#8 = some (.groupStatus 2) ∧ Object.ofByte 0x70#8 = some .alert
      ∧ Object.alert.writable = some .alert
      ∧ (0x20#8, Decision.format) ∈ [(0x20#8, Decision.format), (0x21#8, .recover), (0x22#8, .forceAbort),
          (0x23#8, .clearFault), (0x30#8, .clearRefusal), (0x32#8, .clearStats)]
      ∧ fieldAt (framed [0x31#8, 0#8, 0#8, 0#8, 3#8, 0#8, 0#8, 0x20#8]) 5 3 = 2 ^ 21
      ∧ Writable.takes .alert { off := 4, data := [1#8, 0#8, 0#8] } = true
      ∧ Writable.takes .alert { off := 4, data := [1#8, 0#8] } = false
      ∧ (holding State.reset [0x04#8, 0#8, 0#8, 0#8, 0#8] true).awaits (.refuse .unknown)
      ∧ (holding State.reset [2#8, 0x10#8, 0#8, 0#8, 0#8] true).awaits .zeroWrite := by
  refine ⟨by decide, by decide, by decide, by decide, by decide, by decide, by decide, by decide, List.mem_cons_self, by decide,
    by decide, by decide, ⟨rfl, _, rfl, rfl, ?_⟩, ⟨rfl, _, rfl, rfl, ?_⟩⟩
    <;> decide +kernel

theorem witness_FramesAreTakenAndAnswered :
    (1#8 ≠ 0#8) ∧ { State.reset with resetPin := true }.resetPin = true ∧ State.reset.resetPin = false
      ∧ (∀ h ∈ (after .read (holding State.reset [1#8, 0x7F#8, 0#8, 0#8, 8#8] false)).mgmt.held, h.response ≠ none)
      ∧ (after .read (holding State.reset [1#8, 0x7F#8, 0#8, 0#8, 8#8] false)).mgmt.held
          = some { bytes := [1#8, 0x7F#8, 0#8, 0#8, 8#8, 0x77#8], cfgEn := false,
                   response := some { status := .ok, data := [0x5C#8, 0x0E#8, 0x3A#8, 0x11#8, 1#8, 0#8, 0#8, 0#8] } }
      ∧ State.reset.mgmt.held = none
      ∧ (∀ h ∈ (holding State.reset [1#8, 0x7F#8, 0#8, 0#8, 8#8] false).mgmt.held, h.response = none)
      ∧ (after .softReset (holding State.reset [0x3F#8, 0#8, 0#8, 0#8, 0#8] true)).mgmt.resetting = true
      ∧ (∀ b ∈ [[1#8, 0x7F#8, 0#8, 0#8, 8#8], [0x3F#8, 0#8, 0#8, 0#8, 0#8]],
          (holding State.reset b true).resetPin = false ∧ (holding State.reset b true).mgmt.resetting = false
            ∧ (holding State.reset b true).mgmt.held
              = some { bytes := b ++ [frameChecksum b], cfgEn := true, response := none }) := by
  decide +kernel

/-- 11, R171 and R180: a stale frame gives 0xFF in its first byte, in a byte clocked in reset and throughout a request frame, and is not taken. -/
theorem test_stale_frames :
    after (.requestFrame [1#8, 2#8, 3#8] true (.stale [0#8, 0xFF#8])) State.reset
        = { State.reset with emitted := [.mso [0xFF#8, 0xFF#8, 0xFF#8]] }
      ∧ ((after (.fetch [0#8, 0#8] (.stale [0xFF#8, 0#8])) State.reset).emitted.map (fun e =>
          match e with
          | .mso out => (out.length, out.take 2)
          | _ => (0, []))) = [(3, [0xFF#8, 0xFF#8])]
      ∧ ((after (.fetch [0#8, 0#8] (.stale [0#8, 0xFF#8])) { State.reset with resetPin := true }).emitted.map
          (fun e =>
            match e with
            | .mso out => (out.length, out.head?, out.getLast?)
            | _ => (0, none, none))) = [(3, some 0xFF#8, some 0xFF#8)] := by
  have full (x : Byte) : 0xFF#8 ||| x = 0xFF#8 := BitVec.allOnes_or
  refine ⟨by decide +kernel, ?_, ?_⟩
  · show [(3, [0xFF#8, 0xFF#8 ||| Config.staleByte 0 0])] = _
    rw [full]
  · show [(3, some 0xFF#8, some (0xFF#8 ||| Config.staleByte 0 1))] = _
    rw [full]

/-- The masks of the clause on stale frames of FramesAreTakenAndAnswered: a byte clocked wholly in reset, and one in the middle of which an edge falls. -/
theorem witness_FramesAreTakenAndAnswered_inReset :
    ∃ out, execFetch [0#8, 0#8] (.stale [0xFF#8, 0x0F#8]) State.reset
        = .next { State.reset with emitted := [.mso (0xFF#8 :: out)], draws := 1 }
      ∧ [0xFF#8, 0x0F#8][0]? = some 0xFF#8 ∧ out[0]? = some 0xFF#8
      ∧ [0xFF#8, 0x0F#8][1]? = some 0x0F#8 ∧ ∃ x, out[1]? = some x :=
  ⟨[0xFF#8 ||| Config.staleByte 0 0, 0x0F#8 ||| Config.staleByte 0 1], rfl, rfl,
    congrArg some BitVec.allOnes_or, rfl, _, rfl⟩

theorem witness_ReadReturnsTheObject :
    (holding State.reset [1#8, 0x46#8, 0#8, 0#8, 64#8] false).awaits (.read (.groupStatus 2) 0 64)
      ∧ (holding State.reset [1#8, 0x67#8, 24#8, 0#8, 64#8] false).awaits (.read (.snapshot 3) 24 64) := by
  refine ⟨⟨rfl, _, rfl, rfl, ?_⟩, ⟨rfl, _, rfl, rfl, ?_⟩⟩ <;> decide +kernel

theorem witness_WritesChangeTheirObject :
    (holding State.reset [2#8, 0x1F#8, 0#8, 0#8, 2#8, 1#8, 2#8] true).awaits
        (.write (.domainShadow 15) { off := 0, data := [1#8, 2#8] })
      ∧ shadowInRange { off := 0, data := [1#8, 2#8] } = true ∧ shadowInRange { off := 0, data := [1#8, 3#8] } = false
      ∧ (holding State.reset [2#8, 0x62#8, 0#8, 0#8, 2#8, 2#8, 5#8] true).awaits
        (.write (.triggerConfig 2) { off := 0, data := [2#8, 5#8] })
      ∧ triggerInRange { off := 0, data := [3#8, 5#8] } = false
      ∧ (holding State.reset [2#8, 0x70#8, 4#8, 0#8, 3#8, 0xFF#8, 0xFF#8, 0x1F#8] true).awaits
        (.write .alert { off := 4, data := [0xFF#8, 0xFF#8, 0x1F#8] })
      ∧ Span.value { off := 4, data := [0xFF#8, 0xFF#8, 0x1F#8] } 4 3 = some (2 ^ 21 - 1)
      ∧ Span.value { off := 4, data := [0#8, 0#8, 0x20#8] } 4 3 = some (2 ^ 21) := by
  refine ⟨⟨rfl, _, rfl, rfl, ?_⟩, ?_, ?_, ⟨rfl, _, rfl, rfl, ?_⟩, ?_, ⟨rfl, _, rfl, rfl, ?_⟩, ?_, ?_⟩ <;> decide +kernel

/-- A WRITE of a group's configuration as a request holds it, and what it says. -/
def configWrite (g off : Nat) (data : List Byte) : List Byte :=
  [2#8, BitVec.ofNat 8 (0x40 + g), BitVec.ofNat 8 off, 0#8, BitVec.ofNat 8 data.length] ++ data

/-- Base 0x20000 and a slot count, as they are written. -/
def areaBytes (slots : Nat) : List Byte := leBytes 8 0x20000 ++ leBytes 4 slots

theorem witness_GroupConfigChecksComeInOrder :
    (∀ st pend, let s := holding { withGroup { openGroup with state := st } with
                  map := { (withGroup openGroup).map with pending := pend } } (configWrite 0 0 (areaBytes 16)) true
        s.awaits (.write (.groupConfig 0) { off := 0, data := areaBytes 16 }) ∧ (s.group 0).state = st
          ∧ s.map.pending = pend)
      ∧ (holding (withGroup openGroup) (configWrite 0 8 (leBytes 4 0)) true).awaits
        (.write (.groupConfig 0) { off := 8, data := leBytes 4 0 })
      ∧ (holding (withGroup openGroup) (configWrite 3 12 [3#8]) true).awaits (.write (.groupConfig 3) { off := 12, data := [3#8] })
      ∧ (holding (withGroup openGroup) (configWrite 0 14 [1#8]) true).awaits (.write (.groupConfig 0) { off := 14, data := [1#8] })
      ∧ Span.touchesArea { off := 0, data := areaBytes 16 } = true ∧ configInRange { off := 0, data := areaBytes 16 } = true
      ∧ Span.touchesArea { off := 8, data := leBytes 4 0 } = true ∧ Span.value { off := 8, data := leBytes 4 0 } 8 4 = some 0
      ∧ (withGroup openGroup).map.active[(0 : EntryId)].group = some 0
      ∧ Span.touchesSet { off := 12, data := [3#8] } = true ∧ Span.touchesPolicy { off := 14, data := [1#8] } = true
      ∧ configInRange { off := 0, data := areaBytes 2 } = false
      ∧ (let new := openGroup.config.written { off := 0, data := leBytes 8 (2 ^ 36 - 128) };
          new.slots ≠ 0 ∧ 2 ^ 36 < new.base.toNat + 128 * new.slots)
      ∧ (let new := GroupConfig.reset.written { off := 0, data := leBytes 8 0x10780 ++ leBytes 4 3 };
          new.slots ≠ 0 ∧ ((withGroup openGroup).group 0).config.slots ≠ 0
            ∧ new.base.toNat < ((withGroup openGroup).group 0).config.base.toNat + 128 * ((withGroup openGroup).group 0).config.slots
            ∧ ((withGroup openGroup).group 0).config.base.toNat < new.base.toNat + 128 * new.slots) := by
  refine ⟨fun st pend => ⟨⟨rfl, _, rfl, rfl, ?_⟩, rfl, rfl⟩, ⟨rfl, _, rfl, rfl, ?_⟩, ⟨rfl, _, rfl, rfl, ?_⟩,
    ⟨rfl, _, rfl, rfl, ?_⟩, ?_, ?_, ?_, ?_, ?_, ?_, ?_, ?_, ?_, ?_⟩ <;> decide +kernel

/-- A shadow entry that fails a check, the status and the other party: the base above the limit, no group, a disabled group, the last block of G0's area, the last block of the entry before it (R110, R176). -/
def failing : List (DomainEntry × Status × Byte) :=
  [({ domain .passing with base := 200, limit := 199 }, .invalidEntry, 0xFF#8),
    ({ domain .journaled with base := 200, limit := 200, group := none }, .invalidEntry, 0xFF#8),
    ({ domain .journaled with base := 200, limit := 200, group := some 1 }, .invalidEntry, 0x21#8),
    ({ domain .guarded with base := 0x41F, limit := 0x41F }, .overlap, 0x20#8),
    ({ domain .passing with base := 99, limit := 0x500 }, .overlap, 0x20#8),
    ({ domain .passing with base := 99, limit := 99 }, .overlap, 1#8)]

/-- G0 is enabled, and shadow entries 1 and 3 are valid: the blocks 0 to 99, and the given one. -/
def shadowed (d : DomainEntry) : State :=
  { withGroup openGroup with map := { DomainMap.reset with
      shadow := (DomainMap.reset.shadow.set 1 (domain .journaled)).set 3 d } }

theorem witness_MapActivationFollowsTheGroups_failing :
    (∀ x ∈ failing, (shadowed x.1).map.pending = false ∧ (shadowed x.1).failsValidation 3 x.2.1 x.2.2)
      ∧ (shadowed { domain .guarded with base := 0x420, limit := 0x420 }).entrySound 3
      ∧ (shadowed { domain .guarded with base := 100, limit := 0x3FF }).entrySound 3 := by
  have before : ∀ x ∈ failing, ∀ j : EntryId, j < 3 → (shadowed x.1).map.shadow[j].valid = true → (shadowed x.1).entrySound j := by
    unfold State.entrySound; decide +kernel
  refine ⟨fun x hx => ⟨rfl, by revert x; decide +kernel, before x hx, ?_⟩, ?_, ?_⟩
  · clear before
    simp only [failing, List.mem_cons, List.not_mem_nil, or_false] at hx
    rcases hx with rfl | rfl | rfl | rfl | rfl | rfl
    · exact Or.inl ⟨rfl, rfl, Or.inl (by decide +kernel)⟩
    · exact Or.inl ⟨rfl, rfl, Or.inr (by decide +kernel)⟩
    · exact Or.inr (Or.inl (by decide +kernel))
    · exact Or.inr (Or.inr (by decide +kernel))
    · exact Or.inr (Or.inr (by decide +kernel))
    · exact Or.inr (Or.inr (by decide +kernel))
  all_goals unfold State.entrySound; decide +kernel

/-- 06, R110: the two bytes of a failed validation, as ACTIVATE_MAP answers them. -/
theorem test_activateMap_failing : ∀ x ∈ failing,
    responseAfter .activateMap (holding (shadowed x.1) [0x10#8, 0#8, 0#8, 0#8, 0#8] true)
      = some { status := x.2.1, data := [3#8, x.2.2] } := by decide +kernel

theorem witness_MapActivationFollowsTheGroups :
    (∀ st pend, let s := holding { withGroup { openGroup with state := st } with
                  map := { (withGroup openGroup).map with pending := pend } } [0x10#8, 0#8, 0#8, 0#8, 0#8] true
        s.awaits .activateMap ∧ s.map.pending = pend ∧ s.allQuiet = st.quiet ∧ s.shadowSound)
      ∧ (¬ { State.reset with map := { DomainMap.reset with
            shadow := DomainMap.reset.shadow.set 3 { domain .journaled with group := none } } }.shadowSound)
      ∧ (holding State.reset [0x11#8, 0#8, 0#8, 0#8, 0#8] false).awaits .cancelMap := by
  refine ⟨fun st pend => ⟨⟨rfl, _, rfl, rfl, by decide +kernel⟩, rfl, by cases st <;> rfl, ?_⟩, ?_, ⟨rfl, _, rfl, rfl, ?_⟩⟩
  · intro i hi
    have h : ∀ i : EntryId, (Vector.replicate 16 DomainEntry.reset)[i].valid = false := by decide +kernel
    exact absurd ((h i).symm.trans hi) (by decide)
  · intro h
    obtain ⟨-, h2, -⟩ := h 3 (by decide +kernel)
    obtain ⟨g, hg, -⟩ := h2 (by decide +kernel)
    revert hg; revert g; decide +kernel
  · decide +kernel

theorem witness_ClearingClearsItsPartAlone (st : GroupState) :
    (holding (withGroup { openGroup with state := st }) [0x23#8, 0#8, 0#8, 0#8, 0#8] false).awaits (.clearFault 0)
      ∧ ((withGroup { openGroup with state := st }).group 0).state = st
      ∧ (holding State.reset [0x30#8, 3#8, 0#8, 0#8, 0#8] false).awaits (.clearRefusal 3)
      ∧ (holding State.reset [0x32#8, 3#8, 0#8, 0#8, 0#8] false).awaits (.clearStats 3)
      ∧ (holding State.reset [0x31#8, 0#8, 0#8, 0#8, 3#8, 1#8, 0#8, 0x10#8] false).awaits (.clearAlerts 0x100001#21)
      ∧ (let s := { State.reset with alerts := { latched := 0x1FFFFF, mask := 0 } };
          (∃ t, exec (.grant 0) s = .next t) ∧ clearsCauses (.grant 0) = false
            ∧ ∀ x ∈ [Cause.refusal 0, .mapActivated], s.isLatched x = true) := by
  refine ⟨⟨rfl, _, rfl, rfl, ?_⟩, rfl, ⟨rfl, _, rfl, rfl, ?_⟩, ⟨rfl, _, rfl, rfl, ?_⟩, ⟨rfl, _, rfl, rfl, ?_⟩, ⟨_, rfl⟩, rfl, ?_⟩
    <;> decide +kernel

theorem witness_SoftResetKeepsConfigurations :
    (holding (withGroup openGroup) [0x3F#8, 0#8, 0#8, 0#8, 0#8] true).awaits .softReset
      ∧ (after .softReset (holding (withGroup openGroup) [0x3F#8, 0#8, 0#8, 0#8, 0#8] true)).mgmt.resetting = true
      ∧ State.reset.mgmt.resetting = false := by
  refine ⟨⟨rfl, _, rfl, rfl, ?_⟩, ?_, rfl⟩ <;> decide +kernel

end Sys2Proof.Tests
end

section
/-! The reset device (R22, R106): what power-on and the assertion of RESET_N leave of the groups, the tracking table and the map, and the group defaults that follow from it. -/

namespace Sys2Proof.Machine

/-! ### The reset device -/

@[simp] theorem State.deviceReset_group (s : State) (g : GroupId) : s.deviceReset.group g = Group.reset :=
  Four.get_const _ g

@[simp] theorem State.deviceReset_entriesOf (s : State) (g : GroupId) : s.deviceReset.entriesOf g = 0 := rfl

/-- RESET_N is a pin: the groups do not depend on its level. -/
@[simp] theorem State.withResetPin_group (s : State) (b : Bool) (g : GroupId) :
    { s with resetPin := b }.group g = s.group g := rfl

@[simp] theorem State.withResetPin_entriesOf (s : State) (b : Bool) (g : GroupId) :
    { s with resetPin := b }.entriesOf g = s.entriesOf g := rfl

@[simp] theorem DomainMap.reset_active_valid (i : EntryId) : DomainMap.reset.active[i].valid = false := by
  simp [DomainMap.reset, DomainEntry.reset]

@[simp] theorem DomainMap.reset_shadow_valid (i : EntryId) : DomainMap.reset.shadow[i].valid = false := by
  simp [DomainMap.reset, DomainEntry.reset]

/-- Power-on and the assertion of RESET_N both give the reset device, and differ in the level of RESET_N alone. -/
theorem exec_powerOn_or_resetNAssert {c : Instr} (s : State) (h : c = .powerOn ∨ c = .resetNAssert) :
    exec c s = .next { s.deviceReset with resetPin := s.resetPin || decide (c = .resetNAssert) } := by
  rcases h with rfl | rfl
  case inl =>
    have low : (s.resetPin || decide (Instr.powerOn = .resetNAssert)) = s.resetPin := by simp
    rw [low]
    rfl
  case inr =>
    have high : (s.resetPin || decide (Instr.resetNAssert = .resetNAssert)) = true := by simp
    rw [high]
    rfl

/-! ### The group defaults -/

/-- Settles O9: both commands give the reset device, whose groups are all `Group.reset`, whose table is empty and whose map has no valid entry. -/
theorem powerOnGivesGroupDefaults : Obligations.PowerOnGivesGroupDefaults := by
  intro c s hc
  refine ⟨_, exec_powerOn_or_resetNAssert s hc, fun g => ?groups, fun i => ?map⟩
  case groups =>
    rw [State.withResetPin_group, State.withResetPin_entriesOf, State.deviceReset_group, State.deviceReset_entriesOf]
    exact ⟨rfl, rfl, rfl, rfl, rfl, rfl, rfl, rfl, rfl, rfl, rfl, rfl, rfl, rfl, rfl, rfl, rfl, rfl, rfl⟩
  case map => exact ⟨DomainMap.reset_active_valid i, DomainMap.reset_shadow_valid i⟩

end Sys2Proof.Machine
end

section
/-! The epoch channel's commands by their group's state (R139, R50): a command that passes the channel's tests is decided by its group, and the meaning of MARK in each state. -/

namespace Sys2Proof.Machine

/-! ### A command that its channel hears (R139) -/

theorem State.hears.takesCommands {s : State} {p : PortId} (h : s.hears p) : s.takesCommands p = true := by
  obtain ⟨hport, hdevice, hsoft, -⟩ := h
  simp [State.takesCommands, hport, hdevice, hsoft]

theorem State.hears.channel_eq_none {s : State} {p : PortId} (h : s.hears p) : (s.port p).channel = none := by
  obtain ⟨-, -, -, hidle⟩ := h
  exact hidle

/-- The channel's tests pass such a command on to its group. -/
theorem State.takeCommand_of_commands {s : State} {p : PortId} {g : GroupId} (h : s.commands p g)
    (meaning : GroupId → State → State) : s.takeCommand p meaning = meaning g s := by
  obtain ⟨hears, hgroup⟩ := h
  simp [State.takeCommand, hears.takesCommands, hears.channel_eq_none, hgroup]

theorem State.refuseCommand_eq_onlyAnswers (s : State) (p : PortId) (why : CommandReason) :
    s.refuseCommand p why = s.onlyAnswers s.clock p (.refused why) := rfl

/-! ### MARK by the group's state (R50) -/

section
variable {s : State} {g : GroupId} (p : PortId)

theorem State.mark_of_opened (h : (s.group g).state = .opened) : s.mark g p = s.pushMark g p := by
  simp [State.mark, h]

theorem State.mark_of_voting (h : (s.group g).state = .voting) :
    s.mark g p = s.onlyAnswers s.clock p (.refused .voteInProgress) := by
  simp [State.mark, h, State.refuseCommand_eq_onlyAnswers]

theorem State.mark_of_unwinding (h : (s.group g).state = .unwinding) :
    s.mark g p = s.onlyAnswers s.clock p (.refused .unwinding) := by
  simp [State.mark, h, State.refuseCommand_eq_onlyAnswers]

theorem State.mark_of_notOpen (hopened : (s.group g).state ≠ .opened) (hvoting : (s.group g).state ≠ .voting)
    (hunwinding : (s.group g).state ≠ .unwinding) : s.mark g p = s.onlyAnswers s.clock p (.refused .notOpen) := by
  unfold State.mark
  split
  next h => exact absurd h hopened
  next h => exact absurd h hvoting
  next h => exact absurd h hunwinding
  next => exact State.refuseCommand_eq_onlyAnswers s p .notOpen

theorem State.pushMark_below_limit (h : (s.group g).marks.length < 7) :
    s.pushMark g p = (s.modGroup g (fun x => { x with marks := x.marks ++ [p] })).answer p
      (.markDone ((s.group g).marks.length + 1)) := if_pos h

theorem State.pushMark_at_limit (h : ¬ (s.group g).marks.length < 7) :
    s.pushMark g p = s.onlyAnswers s.clock p (.refused .markLimit) := if_neg h

end

/-- A group changed and one answer given leave the other groups, and all but the groups and the emissions, as they are. -/
theorem State.modGroup_answer_frame (s : State) (g : GroupId) (f : Group → Group) (p : PortId) (a : Answer) :
    ((s.modGroup g f).answer p a).group g = f (s.group g) ∧ s.othersKept ((s.modGroup g f).answer p a) g
      ∧ (s.modGroup g f).answer p a
        = { s with groups := ((s.modGroup g f).answer p a).groups, emitted := s.emitted ++ [.answer p a] } := by
  refine ⟨State.modGroup_group_self s g f, fun k hk => ?_, rfl⟩
  exact (State.modGroup_group s g f k).trans (if_neg hk)

/-- Settles O27: the channel passes MARK on to its group, whose state decides it; only a mark below the limit changes the group. -/
theorem markFollowsTheGroupState : Obligations.MarkFollowsTheGroupState := by
  intro s p a g h
  refine ⟨s.mark g p, congrArg Host.Outcome.next (State.takeCommand_of_commands h _), ?_⟩
  split
  next hopened =>
    rw [State.mark_of_opened p hopened]
    split
    next hlevel =>
      rw [State.pushMark_below_limit p hlevel]
      exact State.modGroup_answer_frame s g _ p _
    next hlevel => exact State.pushMark_at_limit p hlevel
  next hvoting => exact State.mark_of_voting p hvoting
  next hunwinding => exact State.mark_of_unwinding p hunwinding
  next hopened hvoting hunwinding => exact State.mark_of_notOpen p hopened hvoting hunwinding

end Sys2Proof.Machine
end

section
/-! The memory port through a device reset (R160): what the reset forgets, that RESET_N keeps every grant and every answer away, and that the deassertion finds every place free. -/

namespace Sys2Proof.Machine

/-! ### Grants and answers while RESET_N is asserted -/

theorem State.grantChoice_of_resetPin {s : State} (h : s.resetPin = true) (i : PlaceId) : s.grantChoice i = none :=
  if_pos (Or.inl h)

theorem State.takeAnswer_of_resetPin {s : State} (h : s.resetPin = true) (i : PlaceId) (wanted : Txn → Bool)
    (body : Txn → State → State) : s.takeAnswer i wanted body = .next s := by
  unfold State.takeAnswer
  split
  next => simp [h]
  next => rfl

theorem State.takeOwn_of_resetPin {s : State} (h : s.resetPin = true) (i : PlaceId) (a : MemAnswer) (role : Role → Bool)
    (onOk : GroupId → Role → List Byte → State → State) (onError : GroupId → Role → State → State) :
    s.takeOwn i a role onOk onError = .next s := State.takeAnswer_of_resetPin h i _ _

theorem exec_grant_of_resetPin {s : State} (h : s.resetPin = true) (i : PlaceId) : exec (.grant i) s = .next s := by
  change execGrant i s = .next s
  simp [execGrant, State.grantChoice_of_resetPin h]

/-- The rows of the ports' and of the orphans' transactions take their answer from the place, and those between them take it for a group (R155). -/
theorem exec_answer_of_resetPin {c : Instr} {s : State} {i : PlaceId} {a : MemAnswer} (h : s.resetPin = true)
    (hc : c ∈ answersOf i a) : exec c s = .next s := by
  simp only [answersOf, List.mem_cons, List.not_mem_nil, or_false] at hc
  rcases hc with rfl | rfl | rfl | rfl | rfl | rfl | rfl | rfl | rfl | rfl | rfl | rfl | rfl | rfl | rfl | rfl | rfl <;>
    rw [exec]
  · exact State.takeAnswer_of_resetPin h i _ _
  iterate 15
    · exact State.takeOwn_of_resetPin h i a _ _ _
  · exact State.takeAnswer_of_resetPin h i _ _

/-! ### The forgetting -/

@[simp] theorem MemPort.reset_places (i : PlaceId) : MemPort.reset.places[i] = none := by
  simp [MemPort.reset]

theorem exec_deviceReset_mem {c : Instr} (s : State) (hc : c = .powerOn ∨ c = .resetNAssert) :
    ∃ t, exec c s = .next t ∧ t.mem = MemPort.reset :=
  ⟨_, exec_powerOn_or_resetNAssert s hc, rfl⟩

theorem exec_resetNDeassert_of_resetPin {s : State} (h : s.resetPin = true) (l : Four Bool) :
    exec (.resetNDeassert l) s = .next { s with resetPin := false, triggers := setLevels s.triggers l } := if_pos h

/-- Settles O11: both resets leave the memory port as `MemPort.reset`, the deassertion leaves it alone, and while RESET_N is asserted neither the arbiter nor the taking of an answer acts. -/
theorem memoryPortForgetsAtReset : Obligations.MemoryPortForgetsAtReset := by
  refine ⟨fun c s hc => ?forgets, fun s i h => exec_grant_of_resetPin h i,
    fun s i a c h hc => exec_answer_of_resetPin h hc, fun s l => ?deassertion⟩
  case forgets =>
    obtain ⟨t, ht, hmem⟩ := exec_deviceReset_mem s hc
    refine ⟨t, ht, ?_⟩
    rw [hmem]
    exact ⟨rfl, MemPort.reset_places, rfl⟩
  case deassertion =>
    exact ⟨{ s.deviceReset with resetPin := true }, _, rfl, exec_resetNDeassert_of_resetPin rfl l, rfl, MemPort.reset_places⟩

end Sys2Proof.Machine
end

section
/-! The rotation of the arbiter (R154): a grant to a port follows the rotation from the pointer, and only a grant to a port or a device reset moves the pointer. -/

namespace Sys2Proof.Machine

/-! ### What a source presents (R152, R153) -/

theorem MemPort.blocked_eq_false_iff (m : MemPort) (x : Txn) :
    m.blocked x = false ↔ (∀ (j : PlaceId) (y : Txn), m.places[j] = some y → x.clashes y = false)
      ∧ ∀ y ∈ m.waiting, y.stamp < x.stamp → x.clashes y = false := by
  simp only [MemPort.blocked, Bool.or_eq_false_iff, List.any_eq_false, mem_outstanding, Bool.and_eq_true,
    decide_eq_true_eq, not_and, Bool.not_eq_true, forall_exists_index]
  exact and_congr_left fun _ => forall_comm

/-- The arbiter's reading of what a source presents is that of the statements. -/
theorem MemPort.presented_eq_some_iff (m : MemPort) (src : Source) (x : Txn) :
    m.presented src = some x ↔ x.source = src ∧ m.presents x := by
  unfold MemPort.presented MemPort.presents
  rw [Option.filter_eq_some_iff, List.find?_eq_some_iff_append, ← m.blocked_eq_false_iff x]
  constructor
  · rintro ⟨⟨hsource, older, younger, hwaiting, holder⟩, hfree⟩
    have hsource : x.source = src := by simpa using hsource
    subst hsource
    exact ⟨rfl, ⟨older, younger, hwaiting, fun y hy => by simpa using holder y hy⟩, by simpa using hfree⟩
  · rintro ⟨rfl, ⟨older, younger, hwaiting, holder⟩, hfree⟩
    exact ⟨⟨by simp, older, younger, hwaiting, fun y hy => by simpa using holder y hy⟩, by simpa using hfree⟩

/-! ### The arbiter's choice (R153) -/

theorem MemPort.winner_source {m : MemPort} {k : TxnClass} {x : Txn} (h : m.winner k = some x) :
    ∃ g, x.source = .group g := by
  have hgroup : ∀ g, ∀ y ∈ m.presentedOf k g, ∃ g, y.source = .group g := fun g y hy =>
    ⟨g, ((m.presented_eq_some_iff _ y).1 (Option.filter_eq_some_iff.1 hy).1).1⟩
  have hnone : ∀ y ∈ (none : Option Txn), ∃ g, y.source = .group g := fun y hy => nomatch hy
  exact earlier_mem (earlier_mem (earlier_mem (earlier_mem hnone (hgroup 0)) (hgroup 1)) (hgroup 2)) (hgroup 3) x h

/-- The choice is a group's transaction, or what the port presents whose turn it is. -/
theorem MemPort.choice_cases {m : MemPort} {x : Txn} (h : m.choice = some x) :
    (∃ g, x.source = .group g) ∨ ∃ p, m.turn = some p ∧ x.source = .port p := by
  unfold MemPort.choice at h
  split at h
  next hrestore => exact .inl (MemPort.winner_source (hrestore.trans h))
  next =>
    split at h
    next hjournal => exact .inl (MemPort.winner_source (hjournal.trans h))
    next =>
      obtain ⟨p, hturn, hpresented⟩ := Option.bind_eq_some_iff.1 h
      exact .inr ⟨p, hturn, ((m.presented_eq_some_iff _ x).1 hpresented).1⟩

/-! ### The rotation (R154) -/

/-- How many ports the rotation passes before it comes to port `q`. -/
def portsBefore (pointer q : PortId) : Nat := (q.val + 3 - pointer.val) % 4

theorem mem_rotation : ∀ pointer q : PortId, q ∈ rotation pointer := by decide

theorem rotation_pairwise : ∀ pointer : PortId,
    (rotation pointer).Pairwise (fun p q => portsBefore pointer p < portsBefore pointer q) := by decide

/-- What the rotation finds first comes no later than anything else it could find. -/
theorem portsBefore_le_of_find?_rotation {pointer p q : PortId} {f : PortId → Bool}
    (hp : (rotation pointer).find? f = some p) (hq : f q = true) : portsBefore pointer p ≤ portsBefore pointer q := by
  obtain ⟨-, before, behind, hsplit, hbefore⟩ := List.find?_eq_some_iff_append.1 hp
  have hall := mem_rotation pointer q
  have horder := rotation_pairwise pointer
  rw [hsplit] at hall horder
  obtain ⟨-, hbehind, -⟩ := List.pairwise_append.1 horder
  rcases List.mem_append.1 hall with hq' | hq'
  · have := hbefore q hq'
    simp [hq] at this
  · rcases List.mem_cons.1 hq' with rfl | hq'
    · exact le_refl _
    · exact (List.rel_of_pairwise_cons hbehind hq').le

theorem MemPort.turn_first {m : MemPort} {p q : PortId} {y : Txn} (hp : m.turn = some p) (hy : m.presents y)
    (hq : y.source = .port q) : portsBefore m.pointer p ≤ portsBefore m.pointer q := by
  refine portsBefore_le_of_find?_rotation hp ?_
  rw [(m.presented_eq_some_iff (.port q) y).2 ⟨hq, hy⟩]
  rfl

/-! ### The grant (R153, R154) -/

@[simp] theorem MemPort.granted_places_self (m : MemPort) (i : PlaceId) (x : Txn) :
    (m.granted i x).places[i] = some x := by
  simp [MemPort.granted]

theorem MemPort.granted_pointer_of_port {m : MemPort} {i : PlaceId} {x : Txn} {p : PortId} (h : x.source = .port p) :
    (m.granted i x).pointer = p := by
  simp [MemPort.granted, Txn.pointerAfter, h]

theorem MemPort.granted_pointer_of_group {m : MemPort} {i : PlaceId} {x : Txn} {g : GroupId} (h : x.source = .group g) :
    (m.granted i x).pointer = m.pointer := by
  simp [MemPort.granted, Txn.pointerAfter, h]

theorem State.grantChoice_eq_some {s : State} {i : PlaceId} {x : Txn} (h : s.grantChoice i = some x) :
    s.mem.choice = some x := by
  unfold State.grantChoice at h
  split at h
  next => cases h
  next => exact h

/-- A place that was free and holds a transaction after a grant holds the arbiter's choice. -/
theorem exec_grant_fills {s t : State} {i : PlaceId} {x : Txn} (hfree : s.mem.places[i] = none)
    (ht : exec (.grant i) s = .next t) (hx : t.mem.places[i] = some x) :
    s.mem.choice = some x ∧ t.mem = s.mem.granted i x := by
  replace ht : execGrant i s = .next t := ht
  unfold execGrant at ht
  split at ht
  next y hy =>
    cases ht
    have hxy : some y = some x := (MemPort.granted_places_self s.mem i y).symm.trans hx
    cases hxy
    exact ⟨State.grantChoice_eq_some hy, rfl⟩
  next =>
    cases ht
    cases hfree.symm.trans hx

/-! ### Commands that leave the pointer alone (R154) -/

/-- A next state that the outcome answers has the rotation pointer of `s`. -/
def KeepsPointer (s : State) (o : Host.Outcome State Fault Refusal) : Prop :=
  ∀ t, o = .next t → t.mem.pointer = s.mem.pointer

theorem KeepsPointer.of {s t : State} (h : t.mem.pointer = s.mem.pointer) : KeepsPointer s (.next t) := by
  intro u hu
  cases hu
  exact h

theorem KeepsPointer.ite {s t u : State} {c : Prop} [Decidable c] (ht : t.mem.pointer = s.mem.pointer)
    (hu : u.mem.pointer = s.mem.pointer) : KeepsPointer s (if c then .next t else .next u) := by
  split
  next => exact .of ht
  next => exact .of hu

theorem CalmNext.keepsPointer {s : State} {o : Host.Outcome State Fault Refusal} (h : CalmNext (fun _ => True) s o) :
    KeepsPointer s o := fun _ ht => (h.elim ht).pointer

/-- What is calm keeps the pointer, whichever epoch numbers it moves. -/
theorem Calm.pointer_eq {s t : State} (h : Calm (fun _ => True) s t) : t.mem.pointer = s.mem.pointer := h.pointer

theorem State.pushMark_mem (s : State) (g : GroupId) (p : PortId) : (s.pushMark g p).mem = s.mem := by
  unfold State.pushMark
  split <;> rfl

theorem State.mark_mem (s : State) (g : GroupId) (p : PortId) : (s.mark g p).mem = s.mem := by
  unfold State.mark
  split
  next => exact s.pushMark_mem g p
  all_goals rfl

/-- A command on a channel leaves the memory port alone when its meaning does. -/
theorem State.takeCommand_mem (s : State) (p : PortId) {meaning : GroupId → State → State}
    (h : ∀ g, (meaning g s).mem = s.mem) : (s.takeCommand p meaning).mem = s.mem := by
  unfold State.takeCommand
  split
  next =>
    split
    next => rfl
    next =>
      split
      next => rfl
      next => exact h _
  next => rfl

theorem State.triggerEvent_pointer (s : State) (n : TrigId) : (s.triggerEvent n).mem.pointer = s.mem.pointer :=
  (calm_triggerGroups _ n _).pointer_eq

theorem State.portReset_pointer (s : State) (p : PortId) : (s.portReset p).mem.pointer = s.mem.pointer :=
  (((calm_startEach (s.flushPort p) _).trans (calm_portAbort _ p)).trans (calm_drainAll _)).pointer_eq

/-! ### The management port leaves the pointer alone -/

theorem State.writeShadow_mem (s : State) (i : EntryId) (w : Span) : (s.writeShadow i w).1.mem = s.mem := by
  unfold State.writeShadow
  split
  next => rfl
  next => split <;> rfl

theorem State.writeConfig_mem (s : State) (g : GroupId) (w : Span) : (s.writeConfig g w).1.mem = s.mem := by
  unfold State.writeConfig
  split <;> rfl

theorem State.writeTrigger_mem (s : State) (n : TrigId) (w : Span) : (s.writeTrigger n w).1.mem = s.mem := by
  unfold State.writeTrigger
  split <;> rfl

theorem State.writeMask_mem (s : State) (w : Span) : (s.writeMask w).1.mem = s.mem := by
  unfold State.writeMask
  split <;> rfl

theorem State.writeObject_mem (s : State) (o : Writable) (w : Span) : (s.writeObject o w).1.mem = s.mem := by
  cases o with
  | domainShadow i => exact s.writeShadow_mem i w
  | groupConfig g => exact s.writeConfig_mem g w
  | triggerConfig n => exact s.writeTrigger_mem n w
  | alert => exact s.writeMask_mem w

theorem State.activate_mem (s : State) : s.activate.1.mem = s.mem := by
  unfold State.activate
  split
  next => rfl
  next =>
    split
    next => rfl
    next => split <;> rfl

theorem State.cancel_mem (s : State) : s.cancel.1.mem = s.mem := by
  unfold State.cancel
  split <;> rfl

/-- No decision of a request moves the pointer, a SOFT_RESET among them: it orphans what the memory port holds and no more. -/
theorem State.carryOut_pointer (s : State) (d : Decision) : (s.carryOut d).1.mem.pointer = s.mem.pointer := by
  cases d with
  | refuse | zeroWrite | read | clearAlerts | softReset => rfl
  | write o w => exact congrArg MemPort.pointer (s.writeObject_mem o w)
  | activateMap => exact congrArg MemPort.pointer s.activate_mem
  | cancelMap => exact congrArg MemPort.pointer s.cancel_mem
  | format g => exact (calm_format s g).pointer_eq
  | recover g => exact (calm_recover s g).pointer_eq
  | forceAbort g => exact (calm_forceAbort s g).pointer_eq
  | clearFault g => exact (calm_clearFault s g).pointer_eq
  | clearRefusal p => rfl
  | clearStats g => rfl

theorem State.decideRow_keepsPointer (s : State) (row : Decision → Bool) : KeepsPointer s (s.decideRow row) := by
  unfold State.decideRow
  split
  next => exact .of rfl
  next h _ => exact .ite (s.tick.carryOut_pointer h.decision) rfl

theorem State.decideHeld_pointer (s : State) : s.decideHeld.mem.pointer = s.mem.pointer := by
  unfold State.decideHeld
  split
  next => rfl
  next h _ => exact s.carryOut_pointer h.decision

theorem State.holdRequest_mem (s : State) (bytes : List Byte) (cfgEn : Bool) :
    (s.holdRequest bytes cfgEn).mem = s.mem := by
  unfold State.holdRequest
  split <;> rfl

theorem State.frame_pointer (s : State) (bytes : List Byte) (cfgEn : Bool) :
    (s.frame bytes cfgEn).mem.pointer = s.mem.pointer := by
  unfold State.frame
  split
  next => rfl
  next =>
    split
    next => rfl
    next =>
      exact (congrArg MemPort.pointer (s.tick.decideHeld.holdRequest_mem _ cfgEn)).trans s.tick.decideHeld_pointer

theorem execRequestFrame_keepsPointer (bytes : List Byte) (cfgEn : Bool) (span : FrameSpan) (s : State) :
    KeepsPointer s (execRequestFrame bytes cfgEn span s) := by
  cases span with
  | stale inReset => exact .of (calm_staleFrame s bytes inReset).pointer_eq
  | whole => exact .ite rfl (s.frame_pointer bytes cfgEn)

theorem execFetch_keepsPointer (more : List Byte) (span : FrameSpan) (s : State) :
    KeepsPointer s (execFetch more span s) := by
  cases span with
  | stale inReset => exact .of rfl
  | whole => exact .ite rfl rfl

/-! ### Every command but a grant and a device reset leaves the pointer alone -/

/-- The calm commands keep the pointer by their law; the marks, the pins, the port resets and the management port leave it by the lemmas above. -/
theorem exec_keepsPointer (c : Instr) (s : State) (h : setsPointer c = false) : KeepsPointer s (exec c s) := by
  cases c with
  | powerOn | resetNAssert | grant => cases h
  | resetNDeassert l => exact .ite rfl rfl
  | portReset p => exact .ite rfl (s.tick.portReset_pointer p)
  | prstDeassert p => exact .of rfl
  | triggerEvent n => exact .ite (s.tick.triggerEvent_pointer n) rfl
  | triggerInputLow n => exact .of rfl
  | requestAccept p r => exact .ite (calm_settle _ p).pointer_eq rfl
  | classification p => exact (calm_execClassification p s).keepsPointer
  | beginEpoch p a => exact (calm_execBegin p a s).keepsPointer
  | mark p a => exact .of (congrArg MemPort.pointer (s.takeCommand_mem p fun g => s.mark_mem g p))
  | undo p m => exact (calm_execUndo p m s).keepsPointer
  | voteCommit p a => exact (calm_execVoteCommit p a s).keepsPointer
  | voteAbort p a => exact (calm_execVoteAbort p a s).keepsPointer
  | query p a => exact (calm_execQuery p a s).keepsPointer
  | unknownCommand p k a => exact (calm_execUnknownCommand p k a s).keepsPointer
  | requesterAnswer i a => exact (calm_execRequesterAnswer i a s).keepsPointer
  | oldBlockRead i a => exact (calm_execOldBlockRead i a s).keepsPointer
  | recordWrite i a => exact (calm_execRecordWrite i a s).keepsPointer
  | clearPhaseWrite i a => exact (calm_execClearPhaseWrite i a s).keepsPointer
  | recordRead i a => exact (calm_execRecordRead i a s).keepsPointer
  | restoreWrite i a => exact (calm_execRestoreWrite i a s).keepsPointer
  | popComplete i a => exact (calm_execPopComplete i a s).keepsPointer
  | commitHeaderWrite i a => exact (calm_execCommitHeaderWrite i a s fun _ _ _ _ => trivial).keepsPointer
  | rollbackHeaderWrite i a => exact (calm_execRollbackHeaderWrite i a s fun _ _ _ _ => trivial).keepsPointer
  | formatClearingWrite i a => exact (calm_execFormatClearingWrite i a s).keepsPointer
  | formatHeaderWrite i a => exact (calm_execFormatHeaderWrite i a s fun _ _ _ _ => trivial).keepsPointer
  | headerRead i a => exact (calm_execHeaderRead i a s fun _ _ _ _ => trivial).keepsPointer
  | scanRead i a => exact (calm_execScanRead i a s).keepsPointer
  | replayRead i a => exact (calm_execReplayRead i a s).keepsPointer
  | recoveryRestoreWrite i a => exact (calm_execRecoveryRestoreWrite i a s).keepsPointer
  | recoveryHeaderWrite i a => exact (calm_execRecoveryHeaderWrite i a s fun _ _ _ _ => trivial).keepsPointer
  | orphanedAnswer i a => exact (calm_execOrphanedAnswer i a s).keepsPointer
  | holdExpiry g => exact (calm_execHoldExpiry g s).keepsPointer
  | voteTimeout g => exact (calm_execVoteTimeout g s).keepsPointer
  | mapActivationComplete => exact .ite rfl rfl
  | requestFrame bytes cfgEn span => exact execRequestFrame_keepsPointer bytes cfgEn span s
  | fetch more span => exact execFetch_keepsPointer more span s
  | read | domainShadowWrite | journalAreaWrite | participantSetWrite | policyWrite | triggerConfigWrite | alertMaskWrite
  | activateMap | cancelMap | format | recover | forceAbort | clearFault | clearRefusal | clearAlerts | clearStats
  | softReset | refusedRequest =>
    rw [exec]
    exact s.decideRow_keepsPointer _
  | softResetResponse => exact .ite rfl rfl

/-- Settles O35: a port is granted only in its turn, which the rotation finds; every other command but a device reset keeps the pointer. -/
theorem rotationPassesThePorts : Obligations.RotationPassesThePorts := by
  refine ⟨fun s t i x _ hfree ht hx => ?grant, fun c s t ht hc => exec_keepsPointer c s hc t ht, fun c s hc => ?reset⟩
  case grant =>
    obtain ⟨hchoice, hmem⟩ := exec_grant_fills hfree ht hx
    rw [hmem]
    refine ⟨fun p hp => ⟨MemPort.granted_pointer_of_port hp, fun q y hy hq => ?_⟩,
      fun g hg => MemPort.granted_pointer_of_group hg⟩
    rcases MemPort.choice_cases hchoice with ⟨g, hg⟩ | ⟨p', hturn, hp'⟩
    · cases hg.symm.trans hp
    · cases hp'.symm.trans hp
      exact MemPort.turn_first hturn hy hq
  case reset =>
    obtain ⟨t, ht, hmem⟩ := exec_deviceReset_mem s hc
    exact ⟨t, ht, by rw [hmem]; rfl⟩

end Sys2Proof.Machine
end

section
/-! The reference levels of the triggers (R162): what an input seen low or high and the deassertion of RESET_N do to them, and that only these and the device resets move them. -/

namespace Sys2Proof.Machine

/-! ### The calm commands -/

/-- The commands of which Laws/Commands.lean shows that they are calm: neither resets, pins, accepted requests, marks, grants and activations, nor the triggers and the management port. -/
def calmCommand (c : Instr) : Bool :=
  match c with
  | .powerOn | .resetNAssert | .resetNDeassert _ | .portReset _ | .prstDeassert _ | .triggerEvent _ | .triggerInputLow _
  | .requestAccept _ _ | .mark _ _ | .grant _ | .mapActivationComplete | .requestFrame _ _ _ | .fetch _ _ | .read
  | .domainShadowWrite | .journalAreaWrite | .participantSetWrite | .policyWrite | .triggerConfigWrite | .alertMaskWrite
  | .activateMap | .cancelMap | .format | .recover | .forceAbort | .clearFault | .clearRefusal | .clearAlerts
  | .clearStats | .softReset | .softResetResponse | .refusedRequest => false
  | _ => true

theorem exec_calm (c : Instr) (s : State) (h : calmCommand c = true) : CalmNext (fun _ => True) s (exec c s) := by
  cases c with
  | powerOn | resetNAssert | resetNDeassert | portReset | prstDeassert | triggerEvent | triggerInputLow | requestAccept
  | mark | grant | mapActivationComplete | requestFrame | fetch | read | domainShadowWrite | journalAreaWrite
  | participantSetWrite | policyWrite | triggerConfigWrite | alertMaskWrite | activateMap | cancelMap | format | recover
  | forceAbort | clearFault | clearRefusal | clearAlerts | clearStats | softReset | softResetResponse | refusedRequest =>
    cases h
  | classification p => exact calm_execClassification p s
  | beginEpoch p a => exact calm_execBegin p a s
  | undo p m => exact calm_execUndo p m s
  | voteCommit p a => exact calm_execVoteCommit p a s
  | voteAbort p a => exact calm_execVoteAbort p a s
  | query p a => exact calm_execQuery p a s
  | unknownCommand p k a => exact calm_execUnknownCommand p k a s
  | requesterAnswer i a => exact calm_execRequesterAnswer i a s
  | oldBlockRead i a => exact calm_execOldBlockRead i a s
  | recordWrite i a => exact calm_execRecordWrite i a s
  | clearPhaseWrite i a => exact calm_execClearPhaseWrite i a s
  | recordRead i a => exact calm_execRecordRead i a s
  | restoreWrite i a => exact calm_execRestoreWrite i a s
  | popComplete i a => exact calm_execPopComplete i a s
  | commitHeaderWrite i a => exact calm_execCommitHeaderWrite i a s fun _ _ _ _ => trivial
  | rollbackHeaderWrite i a => exact calm_execRollbackHeaderWrite i a s fun _ _ _ _ => trivial
  | formatClearingWrite i a => exact calm_execFormatClearingWrite i a s
  | formatHeaderWrite i a => exact calm_execFormatHeaderWrite i a s fun _ _ _ _ => trivial
  | headerRead i a => exact calm_execHeaderRead i a s fun _ _ _ _ => trivial
  | scanRead i a => exact calm_execScanRead i a s
  | replayRead i a => exact calm_execReplayRead i a s
  | recoveryRestoreWrite i a => exact calm_execRecoveryRestoreWrite i a s
  | recoveryHeaderWrite i a => exact calm_execRecoveryHeaderWrite i a s fun _ _ _ _ => trivial
  | orphanedAnswer i a => exact calm_execOrphanedAnswer i a s
  | holdExpiry g => exact calm_execHoldExpiry g s
  | voteTimeout g => exact calm_execVoteTimeout g s

/-! ### Edges of an input and the deassertion of RESET_N (R162) -/

theorem Calm.trigger_eq {s t : State} (h : Calm (fun _ => True) s t) (n : TrigId) : t.trigger n = s.trigger n :=
  congrArg (Four.get · n) h.triggers

/-- An event changes its own trigger input alone: the groups it rolls back move no input. -/
theorem State.triggerEvent_trigger (s : State) (n k : TrigId) :
    (s.triggerEvent n).trigger k = if k = n then (s.trigger n).risen (s.snapshotOf n) else s.trigger k :=
  calc (s.triggerEvent n).trigger k
    _ = ((s.modTrigger n fun t => t.risen (s.snapshotOf n)).latch (.trigger n)).trigger k :=
      (calm_triggerGroups _ n _).trigger_eq k
    _ = _ := by rw [State.latch_trigger, State.modTrigger_trigger]

theorem exec_triggerEvent_of_edge {s : State} {n : TrigId} (hpin : s.resetPin = false)
    (hlow : (s.trigger n).level = false) : exec (.triggerEvent n) s = .next (s.tick.triggerEvent n) :=
  if_pos ⟨hpin, hlow⟩

theorem exec_triggerEvent_of_no_edge {s : State} {n : TrigId} (h : s.resetPin = true ∨ (s.trigger n).level = true) :
    exec (.triggerEvent n) s = .next s := by
  refine if_neg fun ⟨hpin, hlow⟩ => ?_
  rcases h with h | h
  · cases h.symm.trans hpin
  · cases h.symm.trans hlow

theorem setLevels_get (ts : Four Trigger) (l : Four Bool) (n : TrigId) :
    (setLevels ts l).get n = { ts.get n with level := l.get n } := by
  fin_cases n <;> rfl

/-! ### Operations that leave the levels alone (R162) -/

/-- A next state that the outcome answers has the reference level of trigger input `n` of `s`. -/
def KeepsLevel (n : TrigId) (s : State) (o : Host.Outcome State Fault Refusal) : Prop :=
  ∀ t, o = .next t → (t.trigger n).level = (s.trigger n).level

theorem KeepsLevel.of {n : TrigId} {s t : State} (h : (t.trigger n).level = (s.trigger n).level) :
    KeepsLevel n s (.next t) := by
  intro u hu
  cases hu
  exact h

theorem KeepsLevel.ite {n : TrigId} {s t u : State} {c : Prop} [Decidable c]
    (ht : (t.trigger n).level = (s.trigger n).level) (hu : (u.trigger n).level = (s.trigger n).level) :
    KeepsLevel n s (if c then .next t else .next u) := by
  split
  next => exact .of ht
  next => exact .of hu

theorem State.level_of_triggers {s t : State} (h : t.triggers = s.triggers) (n : TrigId) :
    (t.trigger n).level = (s.trigger n).level :=
  congrArg (fun ts => (Four.get ts n).level) h

theorem Calm.level_eq {s t : State} (h : Calm (fun _ => True) s t) (n : TrigId) :
    (t.trigger n).level = (s.trigger n).level := State.level_of_triggers h.triggers n

theorem CalmNext.keepsLevel {s : State} {o : Host.Outcome State Fault Refusal} (h : CalmNext (fun _ => True) s o)
    (n : TrigId) : KeepsLevel n s o := fun _ ht => (h.elim ht).level_eq n

theorem State.modTrigger_level (s : State) (k : TrigId) {f : Trigger → Trigger} (hf : ∀ x, (f x).level = x.level)
    (n : TrigId) : ((s.modTrigger k f).trigger n).level = (s.trigger n).level := by
  rw [State.modTrigger_trigger]
  split
  next hn => rw [hf, hn]
  next => rfl

/-- What a command on a channel comes to: nothing, a refusal by the channel, or its meaning for a group (R139). -/
theorem State.takeCommand_cases (s : State) (p : PortId) (meaning : GroupId → State → State) :
    s.takeCommand p meaning = s ∨ (∃ why, s.takeCommand p meaning = s.refuseCommand p why)
      ∨ ∃ g, s.takeCommand p meaning = meaning g s := by
  unfold State.takeCommand
  split
  next =>
    split
    next => exact .inr (.inl ⟨_, rfl⟩)
    next =>
      split
      next => exact .inr (.inl ⟨_, rfl⟩)
      next => exact .inr (.inr ⟨_, rfl⟩)
  next => exact .inl rfl

theorem State.mark_triggers (s : State) (g : GroupId) (p : PortId) : (s.mark g p).triggers = s.triggers := by
  unfold State.mark
  split
  next => unfold State.pushMark; split <;> rfl
  all_goals rfl

theorem State.takeCommand_mark_triggers (s : State) (p : PortId) :
    (s.takeCommand p fun g s => s.mark g p).triggers = s.triggers := by
  rcases s.takeCommand_cases p (fun g s => s.mark g p) with hstay | ⟨why, hrefused⟩ | ⟨g, hmark⟩
  · rw [hstay]
  · rw [hrefused]
    rfl
  · rw [hmark]
    exact s.mark_triggers g p

theorem State.portReset_triggers (s : State) (p : PortId) : (s.portReset p).triggers = s.triggers :=
  (((calm_startEach (P := fun _ => True) (s.flushPort p) _).trans (calm_portAbort _ p)).trans (calm_drainAll _)).triggers

theorem execGrant_keepsLevel (i : PlaceId) (s : State) (n : TrigId) : KeepsLevel n s (execGrant i s) := by
  unfold execGrant
  split <;> exact .of rfl

/-! ### The management port leaves the levels alone -/

theorem State.writeTrigger_level (s : State) (k : TrigId) (w : Span) (n : TrigId) :
    ((s.writeTrigger k w).1.trigger n).level = (s.trigger n).level := by
  unfold State.writeTrigger
  split
  next => exact s.modTrigger_level k (f := fun t => t.written w) (fun _ => rfl) n
  next => rfl

theorem State.writeShadow_triggers (s : State) (i : EntryId) (w : Span) :
    (s.writeShadow i w).1.triggers = s.triggers := by
  unfold State.writeShadow
  split
  next => rfl
  next => split <;> rfl

theorem State.writeConfig_triggers (s : State) (g : GroupId) (w : Span) :
    (s.writeConfig g w).1.triggers = s.triggers := by
  unfold State.writeConfig
  split <;> rfl

theorem State.writeMask_triggers (s : State) (w : Span) : (s.writeMask w).1.triggers = s.triggers := by
  unfold State.writeMask
  split <;> rfl

theorem State.writeObject_level (s : State) (o : Writable) (w : Span) (n : TrigId) :
    ((s.writeObject o w).1.trigger n).level = (s.trigger n).level := by
  cases o with
  | domainShadow i => exact State.level_of_triggers (s.writeShadow_triggers i w) n
  | groupConfig g => exact State.level_of_triggers (s.writeConfig_triggers g w) n
  | triggerConfig k => exact s.writeTrigger_level k w n
  | alert => exact State.level_of_triggers (s.writeMask_triggers w) n

theorem State.activate_triggers (s : State) : s.activate.1.triggers = s.triggers := by
  unfold State.activate
  split
  next => rfl
  next =>
    split
    next => rfl
    next => split <;> rfl

theorem State.cancel_triggers (s : State) : s.cancel.1.triggers = s.triggers := by
  unfold State.cancel
  split <;> rfl

theorem State.softReset_trigger (s : State) (n : TrigId) : s.softReset.trigger n = (s.trigger n).softReset :=
  Four.get_map Trigger.softReset s.triggers n

/-- A SOFT_RESET clears counts and snapshots, and no level (R167). -/
theorem State.softReset_level (s : State) (n : TrigId) : (s.softReset.trigger n).level = (s.trigger n).level := by
  rw [s.softReset_trigger n]
  rfl

theorem State.carryOut_level (s : State) (d : Decision) (n : TrigId) :
    ((s.carryOut d).1.trigger n).level = (s.trigger n).level := by
  cases d with
  | refuse | zeroWrite | read | clearAlerts | clearRefusal | clearStats => rfl
  | write o w => exact s.writeObject_level o w n
  | activateMap => exact State.level_of_triggers s.activate_triggers n
  | cancelMap => exact State.level_of_triggers s.cancel_triggers n
  | format g => exact (calm_format s g).level_eq n
  | recover g => exact (calm_recover s g).level_eq n
  | forceAbort g => exact (calm_forceAbort s g).level_eq n
  | clearFault g => exact (calm_clearFault s g).level_eq n
  | softReset => exact s.softReset_level n

theorem State.decideRow_keepsLevel (s : State) (row : Decision → Bool) (n : TrigId) :
    KeepsLevel n s (s.decideRow row) := by
  unfold State.decideRow
  split
  next => exact .of rfl
  next h _ => exact .ite (s.tick.carryOut_level h.decision n) rfl

theorem State.decideHeld_level (s : State) (n : TrigId) : (s.decideHeld.trigger n).level = (s.trigger n).level := by
  unfold State.decideHeld
  split
  next => rfl
  next h _ => exact s.carryOut_level h.decision n

theorem State.holdRequest_triggers (s : State) (bytes : List Byte) (cfgEn : Bool) :
    (s.holdRequest bytes cfgEn).triggers = s.triggers := by
  unfold State.holdRequest
  split <;> rfl

theorem State.frame_level (s : State) (bytes : List Byte) (cfgEn : Bool) (n : TrigId) :
    ((s.frame bytes cfgEn).trigger n).level = (s.trigger n).level := by
  unfold State.frame
  split
  next => rfl
  next =>
    split
    next => rfl
    next =>
      exact (State.level_of_triggers (s.tick.decideHeld.holdRequest_triggers _ cfgEn) n).trans
        (s.tick.decideHeld_level n)

theorem execRequestFrame_keepsLevel (bytes : List Byte) (cfgEn : Bool) (span : FrameSpan) (s : State) (n : TrigId) :
    KeepsLevel n s (execRequestFrame bytes cfgEn span s) := by
  cases span with
  | stale inReset => exact .of ((calm_staleFrame s bytes inReset).level_eq n)
  | whole => exact .ite rfl (s.frame_level bytes cfgEn n)

theorem execFetch_keepsLevel (more : List Byte) (span : FrameSpan) (s : State) (n : TrigId) :
    KeepsLevel n s (execFetch more span s) := by
  cases span with
  | stale inReset => exact .of rfl
  | whole => exact .ite rfl rfl

/-! ### Every command but an edge of its own input and the resets leaves a level alone (R162) -/

/-- An edge of another input leaves this input as it is; the calm commands keep every level by their law; the marks, the ports, the grants and the management port by the lemmas above. -/
theorem exec_keepsLevel (n : TrigId) (c : Instr) (s : State) (h : setsLevel n c = false) :
    KeepsLevel n s (exec c s) := by
  cases c with
  | powerOn | resetNAssert | resetNDeassert => cases h
  | triggerEvent k =>
    have hn : n ≠ k := (beq_eq_false_iff_ne.1 h).symm
    exact .ite (congrArg Trigger.level ((s.tick.triggerEvent_trigger k n).trans (if_neg hn))) rfl
  | triggerInputLow k =>
    have hn : n ≠ k := (beq_eq_false_iff_ne.1 h).symm
    exact .of (congrArg Trigger.level ((s.modTrigger_trigger k _ n).trans (if_neg hn)))
  | portReset p => exact .ite rfl (State.level_of_triggers (s.tick.portReset_triggers p) n)
  | prstDeassert p => exact .of rfl
  | requestAccept p r => exact .ite ((calm_settle _ p).level_eq n) rfl
  | mark p a => exact .of (State.level_of_triggers (s.takeCommand_mark_triggers p) n)
  | grant i => exact execGrant_keepsLevel i s n
  | mapActivationComplete => exact .ite rfl rfl
  | requestFrame bytes cfgEn span => exact execRequestFrame_keepsLevel bytes cfgEn span s n
  | fetch more span => exact execFetch_keepsLevel more span s n
  | read | domainShadowWrite | journalAreaWrite | participantSetWrite | policyWrite | triggerConfigWrite | alertMaskWrite
  | activateMap | cancelMap | format | recover | forceAbort | clearFault | clearRefusal | clearAlerts | clearStats
  | softReset | refusedRequest =>
    rw [exec]
    exact s.decideRow_keepsLevel _ n
  | softResetResponse => exact .ite rfl rfl
  | classification | beginEpoch | undo | voteCommit | voteAbort | query | unknownCommand | requesterAnswer | oldBlockRead
  | recordWrite | clearPhaseWrite | recordRead | restoreWrite | popComplete | commitHeaderWrite | rollbackHeaderWrite
  | formatClearingWrite | formatHeaderWrite | headerRead | scanRead | replayRead | recoveryRestoreWrite
  | recoveryHeaderWrite | orphanedAnswer | holdExpiry | voteTimeout =>
    exact (exec_calm _ s rfl).keepsLevel n

/-- Settles O12: an event needs a low level and RESET_N high, and changes its own input alone; the deassertion sets the levels; no other command moves one. -/
theorem triggerLevelsFollowTheInputs : Obligations.TriggerLevelsFollowTheInputs := by
  refine ⟨fun s n => rfl, fun s n h => exec_triggerEvent_of_no_edge h, fun s n hpin hlow => ?edge,
    fun s l hpin => ?deassertion, fun c s t n ht hc => exec_keepsLevel n c s hc t ht⟩
  case edge =>
    have own := (s.tick.triggerEvent_trigger n n).trans (if_pos rfl)
    refine ⟨_, exec_triggerEvent_of_edge hpin hlow, congrArg Trigger.level own, congrArg Trigger.count own,
      fun k hk => ?_⟩
    exact (s.tick.triggerEvent_trigger n k).trans (if_neg hk)
  case deassertion => exact ⟨_, exec_resetNDeassert_of_resetPin hpin l, rfl, setLevels_get s.triggers l⟩

end Sys2Proof.Machine
end

section
/-! The steps of the block: a step is idle or runs the front command, and the sound forms of Safety.lean that hold before a command hold after it. -/

namespace Sys2Proof.Machine

/-! ### A step (R24, R121) -/

theorem step_of_pending_nil {s : State} (h : s.pending = []) : step s = .next s := by
  simp [step, h]

theorem step_of_pending_cons {s : State} {c : Instr} {rest : List Instr} (h : s.pending = c :: rest) :
    step s = exec c { s with pending := rest } := by
  simp [step, h]

/-- What a step can be: idling, or the run of the front command with the queue's rest. -/
theorem step_cases {s t : State} (h : step s = .next t) :
    t = s ∨ ∃ c rest, exec c { s with pending := rest } = .next t := by
  cases hp : s.pending with
  | nil =>
    rw [step_of_pending_nil hp] at h
    cases h
    exact .inl rfl
  | cons c rest => exact .inr ⟨c, rest, (step_of_pending_cons hp).symm.trans h⟩

/-- Settles O1: both clauses are the two equations of `step`. -/
theorem stepRunsTheFrontCommand : Obligations.StepRunsTheFrontCommand :=
  ⟨fun _ _ _ => step_of_pending_cons rfl, fun _ h => step_of_pending_nil h⟩

/-! ### Every command keeps the sound forms -/

/-- The calm commands keep them by their law, the others each by its lemma in Laws/Sound.lean. -/
theorem exec_keeps (c : Instr) (s : State) : KeepsNext s (exec c s) := by
  cases c with
  | powerOn => exact keeps_execPowerOn s
  | resetNAssert => exact keeps_execResetNAssert s
  | resetNDeassert l => exact keeps_execResetNDeassert l s
  | portReset p => exact keeps_execPortReset p s
  | prstDeassert p => exact keeps_execPrstDeassert p s
  | triggerEvent n => exact keeps_execTriggerEvent n s
  | triggerInputLow n => exact keeps_execTriggerInputLow n s
  | requestAccept p r => exact keeps_execRequestAccept p r s
  | mark p a => exact keeps_execMark p a s
  | grant i => exact keeps_execGrant i s
  | mapActivationComplete => exact keeps_execMapActivationComplete s
  | requestFrame bytes cfgEn span => exact keeps_execRequestFrame bytes cfgEn span s
  | fetch more span => exact keeps_execFetch more span s
  | softResetResponse => exact keeps_execSoftResetResponse s
  | read | domainShadowWrite | journalAreaWrite | participantSetWrite | policyWrite | triggerConfigWrite | alertMaskWrite
  | activateMap | cancelMap | format | recover | forceAbort | clearFault | clearRefusal | clearAlerts | clearStats
  | softReset | refusedRequest =>
    rw [exec]
    exact keeps_decideRow s _
  | classification | beginEpoch | undo | voteCommit | voteAbort | query | unknownCommand | requesterAnswer | oldBlockRead
  | recordWrite | clearPhaseWrite | recordRead | restoreWrite | popComplete | commitHeaderWrite | rollbackHeaderWrite
  | formatClearingWrite | formatHeaderWrite | headerRead | scanRead | replayRead | recoveryRestoreWrite
  | recoveryHeaderWrite | orphanedAnswer | holdExpiry | voteTimeout =>
    exact (exec_calm _ s rfl).keeps

/-- The sound forms do not speak of the commands waiting, so the step keeps them with its command. -/
theorem step_keeps {s t : State} (h : step s = .next t) : Keeps s t := by
  rcases step_cases h with rfl | ⟨c, rest, hexec⟩
  · exact Keeps.refl t
  · obtain ⟨u, hu, hkeeps⟩ := exec_keeps c { s with pending := rest }
    cases hu.symm.trans hexec
    exact (keeps_plain rfl rfl rfl rfl id : Keeps s { s with pending := rest }).trans hkeeps

/-- Settles O4: the form of the table is one of the sound forms. -/
theorem trackingTableKeepsItsForm : Obligations.TrackingTableKeepsItsForm :=
  fun _ _ hform hstep => (step_keeps hstep).table hform

/-- Settles O5: the bounds are among the sound forms. -/
theorem boundsHoldThroughEveryStep : Obligations.BoundsHoldThroughEveryStep :=
  fun _ _ hstep => ⟨(step_keeps hstep).queues, (step_keeps hstep).levels, (step_keeps hstep).counters⟩

/-- Settles O6: the disjointness of the sets is one of the sound forms. -/
theorem participantSetsStayDisjoint : Obligations.ParticipantSetsStayDisjoint :=
  fun _ _ hsets hstep => (step_keeps hstep).sets hsets

/-- Settles O33: the agreement of classes and sources is one of the sound forms. -/
theorem classesFollowTheSources : Obligations.ClassesFollowTheSources :=
  fun _ _ hclasses hstep => (step_keeps hstep).classes hclasses

end Sys2Proof.Machine
end

section
/-! What a command leaves alone (R1, R7, R106, R170): the queue of the commands behind it always, and the alert causes, the configurations, the epoch numbers and the domain map but for the commands named for each. -/

namespace Sys2Proof.Machine

/-! ### The relation Frame -/

/-- From `s` to `t` the waiting commands stay, no alert cause becomes clear unless `clears`, no configuration changes unless `config`, no epoch number moves unless `epoch`, the active map stays unless `active`, and the whole domain map unless `map`. -/
structure Frame (clears config epoch active map : Bool) (s t : State) : Prop where
  pending : t.pending = s.pending
  latched : clears = false → ∀ i, s.alerts.latched.getLsbD i = true → t.alerts.latched.getLsbD i = true
  config : config = false → ∀ g, (t.group g).config = (s.group g).config
  epoch : epoch = false → ∀ g, (t.group g).closedEpoch = (s.group g).closedEpoch
  active : active = false → t.map.active = s.map.active
  map : map = false → t.map = s.map

section
variable {a b c d m : Bool} {s t u : State}

/-- States that agree in the fields Frame speaks of. -/
theorem Frame.of_eq (hp : t.pending = s.pending) (ha : t.alerts = s.alerts) (hg : t.groups = s.groups)
    (hm : t.map = s.map) : Frame a b c d m s t where
  pending := hp
  latched _ i h := by rwa [ha]
  config _ g := by simp [State.group, hg]
  epoch _ g := by simp [State.group, hg]
  active _ := by rw [hm]
  map _ := hm

theorem Frame.refl (s : State) : Frame a b c d m s s := .of_eq rfl rfl rfl rfl

theorem Frame.trans (h : Frame a b c d m s t) (k : Frame a b c d m t u) : Frame a b c d m s u where
  pending := k.pending.trans h.pending
  latched hc i hi := k.latched hc i (h.latched hc i hi)
  config hc g := (k.config hc g).trans (h.config hc g)
  epoch hc g := (k.epoch hc g).trans (h.epoch hc g)
  active hc := (k.active hc).trans (h.active hc)
  map hc := (k.map hc).trans (h.map hc)

theorem Calm.frame (h : Calm (fun _ => False) s t) : Frame a b c d m s t where
  pending := h.pending
  latched _ := h.latched
  config _ := h.config
  epoch _ g := h.epoch g id
  active _ := by rw [h.map]
  map _ := h.map

/-- A calm command, whichever epoch numbers it moves, is framed where `epoch` allows for them. -/
theorem Calm.frame_epoch {P : GroupId → Prop} (h : Calm P s t) : Frame a b true d m s t where
  pending := h.pending
  latched _ := h.latched
  config _ := h.config
  epoch hc := nomatch hc
  active _ := by rw [h.map]
  map _ := h.map

/-- With everything allowed, only the waiting commands are spoken of. -/
theorem Frame.allow (h : Frame a b c d m s t) : Frame true true true true true s t :=
  ⟨h.pending, nofun, nofun, nofun, nofun, nofun⟩

/-- What follows may differ in the fields Frame does not speak of. -/
theorem Frame.upTo (h : Frame a b c d m s t) (hp : u.pending = t.pending) (ha : u.alerts = t.alerts)
    (hg : u.groups = t.groups) (hm : u.map = t.map) : Frame a b c d m s u := h.trans (.of_eq hp ha hg hm)

/-- What comes before may differ in the fields Frame does not speak of. -/
theorem Frame.since (h : Frame a b c d m t u) (hp : t.pending = s.pending) (ha : t.alerts = s.alerts)
    (hg : t.groups = s.groups) (hm : t.map = s.map) : Frame a b c d m s u := Frame.trans (.of_eq hp ha hg hm) h

/-- One group changed, its configuration and epoch number kept. -/
theorem Frame.modGroup (s : State) (g : GroupId) (f : Group → Group)
    (hc : b = false → (f (s.group g)).config = (s.group g).config)
    (he : c = false → (f (s.group g)).closedEpoch = (s.group g).closedEpoch) : Frame a b c d m s (s.modGroup g f) where
  pending := rfl
  latched _ _ h := h
  config h k := by
    rw [State.modGroup_group]
    split
    next hk => rw [hc h, hk]
    next => rfl
  epoch h k := by
    rw [State.modGroup_group]
    split
    next hk => rw [he h, hk]
    next => rfl
  active _ := rfl
  map _ := rfl

end

/-- The outcome is a next state within the frame. -/
def FrameNext (a b c d m : Bool) (s : State) (o : Host.Outcome State Fault Refusal) : Prop :=
  ∃ t, o = .next t ∧ Frame a b c d m s t

section
variable {a b c d m : Bool} {s t u : State}

theorem FrameNext.of (h : Frame a b c d m s t) : FrameNext a b c d m s (.next t) := ⟨t, rfl, h⟩

theorem FrameNext.ite {q : Prop} [Decidable q] (ht : Frame a b c d m s t) (hu : Frame a b c d m s u) :
    FrameNext a b c d m s (if q then .next t else .next u) := by
  split
  next => exact .of ht
  next => exact .of hu

theorem CalmNext.frame {o : Host.Outcome State Fault Refusal} (h : CalmNext (fun _ => False) s o) :
    FrameNext a b c d m s o := by
  obtain ⟨t, ht, hcalm⟩ := h
  exact ⟨t, ht, hcalm.frame⟩

theorem CalmNext.frame_epoch {P : GroupId → Prop} {o : Host.Outcome State Fault Refusal} (h : CalmNext P s o) :
    FrameNext a b true d m s o := by
  obtain ⟨t, ht, hcalm⟩ := h
  exact ⟨t, ht, hcalm.frame_epoch⟩

/-! ### Ports, triggers and channels -/

theorem Frame.mark (s : State) (g : GroupId) (p : PortId) : Frame a b c d m s (s.mark g p) := by
  have refused : ∀ why, Frame a b c d m s (s.refuseCommand p why) := fun _ => .of_eq rfl rfl rfl rfl
  unfold State.mark
  split
  next =>
    unfold State.pushMark
    split
    next => exact (Frame.modGroup s g (fun x => { x with marks := x.marks ++ [p] }) (fun _ => rfl) fun _ => rfl).upTo rfl rfl rfl rfl
    next => exact refused _
  all_goals exact refused _

theorem Frame.takeCommand (s : State) (p : PortId) {meaning : GroupId → State → State}
    (h : ∀ g, Frame a b c d m s (meaning g s)) : Frame a b c d m s (s.takeCommand p meaning) := by
  unfold State.takeCommand
  split
  next =>
    split
    next => exact .of_eq rfl rfl rfl rfl
    next =>
      split
      next => exact .of_eq rfl rfl rfl rfl
      next => exact h _
  next => exact .refl s

theorem Frame.triggerEvent (s : State) (n : TrigId) : Frame a b c d m s (s.triggerEvent n) :=
  ((calm_latch (s.modTrigger n _) (.trigger n)).trans (calm_triggerGroups _ n _)).frame.since rfl rfl rfl rfl

@[simp] theorem State.flushPort_group (s : State) (p : PortId) (g : GroupId) :
    (s.flushPort p).group g = (s.group g).leftBy p := Four.get_map _ _ g

theorem Frame.flushPort (s : State) (p : PortId) : Frame a b c d m s (s.flushPort p) where
  pending := rfl
  latched _ _ h := h
  config _ g := by rw [s.flushPort_group]; rfl
  epoch _ g := by rw [s.flushPort_group]; rfl
  active _ := rfl
  map _ := rfl

theorem Frame.portReset (s : State) (p : PortId) : Frame a b c d m s (s.portReset p) :=
  (Frame.flushPort s p).trans (((calm_startEach _ _).trans (calm_portAbort _ p)).trans (calm_drainAll _)).frame

theorem FrameNext.grant (s : State) (i : PlaceId) : FrameNext a b c d m s (execGrant i s) := by
  unfold execGrant
  split
  next => exact .of (.of_eq rfl rfl rfl rfl)
  next => exact .of (.refl s)

theorem FrameNext.requestAccept (s : State) (p : PortId) (r : BusRequest) :
    FrameNext a b c d m s (execRequestAccept p r s) :=
  .ite ((calm_settle (s.modPort p _) p).frame.since rfl rfl rfl rfl) (.refl s)

/-! ### The management port -/

theorem Frame.writeShadow (s : State) (i : EntryId) (w : Span) : Frame a b c d true s (s.writeShadow i w).1 := by
  unfold State.writeShadow
  split
  next => exact .refl s
  next =>
    split
    next => exact .refl s
    next => exact { (Frame.refl s : Frame a b c d true s s) with active := fun _ => rfl, map := nofun }

theorem Frame.writeConfig (s : State) (g : GroupId) (w : Span) : Frame a true true d m s (s.writeConfig g w).1 := by
  unfold State.writeConfig
  split
  next => exact .refl s
  next => exact Frame.modGroup s g (fun x => x.configured w) (fun h => by cases h) (fun h => by cases h)

theorem Frame.writeTrigger (s : State) (n : TrigId) (w : Span) : Frame a b c d m s (s.writeTrigger n w).1 := by
  unfold State.writeTrigger
  split
  next => exact .of_eq rfl rfl rfl rfl
  next => exact .refl s

theorem Frame.writeMask (s : State) (w : Span) : Frame a b c d m s (s.writeMask w).1 := by
  unfold State.writeMask
  split
  next => exact { (Frame.refl s : Frame a b c d m s s) with latched := fun _ _ h => h }
  next => exact .refl s

theorem Frame.activate (s : State) : Frame a b c true true s s.activate.1 := by
  unfold State.activate
  split
  next => exact .refl s
  next =>
    split
    next => exact .refl s
    next => split <;> exact { (Frame.refl s : Frame a b c true true s s) with active := nofun, map := nofun }

theorem Frame.cancel (s : State) : Frame a b c d true s s.cancel.1 := by
  unfold State.cancel
  split
  next => exact { (Frame.refl s : Frame a b c d true s s) with active := fun _ => rfl, map := nofun }
  next => exact .refl s

@[simp] theorem State.softReset_group (s : State) (g : GroupId) : s.softReset.group g = (s.group g).softReset :=
  Four.get_map _ _ g

theorem Frame.softReset (s : State) : Frame true b true d true s s.softReset where
  pending := rfl
  latched h := nomatch h
  config _ g := by rw [s.softReset_group]; rfl
  epoch h := nomatch h
  active _ := rfl
  map h := nomatch h

end

/-- The decision may clear an alert cause (R170). -/
def Decision.clears (d : Decision) : Bool :=
  match d with
  | .clearAlerts _ => true
  | .softReset => true
  | _ => false

/-- The decision may change a configuration (R2). -/
def Decision.configures (d : Decision) : Bool :=
  match d with
  | .write (.groupConfig _) _ => true
  | _ => false

/-- The decision may set an epoch number (R3, R23). -/
def Decision.setsEpoch (d : Decision) : Bool :=
  match d with
  | .write (.groupConfig _) _ => true
  | .softReset => true
  | _ => false

/-- The decision may copy the shadow map (R109). -/
def Decision.activates (d : Decision) : Bool :=
  match d with
  | .activateMap => true
  | _ => false

/-- The decision may change the domain map (R107, R109, R113). -/
def Decision.setsMap (d : Decision) : Bool :=
  match d with
  | .write (.domainShadow _) _ => true
  | .activateMap => true
  | .cancelMap => true
  | .softReset => true
  | _ => false

/-- The command may change the domain map (R106, R107, R109, R112, R113). -/
def setsMap (c : Instr) : Bool :=
  match c with
  | .powerOn => true
  | .resetNAssert => true
  | .requestFrame _ _ _ => true
  | .domainShadowWrite => true
  | .activateMap => true
  | .cancelMap => true
  | .mapActivationComplete => true
  | .softReset => true
  | _ => false

/-- What a request's decision leaves alone, by the decision. -/
theorem Frame.carryOut (s : State) (d : Decision) :
    Frame d.clears d.configures d.setsEpoch d.activates d.setsMap s (s.carryOut d).1 := by
  cases d with
  | refuse | zeroWrite => exact .refl s
  | read o off len => exact (calm_readObject s o off len).frame
  | write o w =>
    cases o with
    | domainShadow i => exact .writeShadow s i w
    | groupConfig g => exact .writeConfig s g w
    | triggerConfig n => exact .writeTrigger s n w
    | alert => exact .writeMask s w
  | activateMap => exact .activate s
  | cancelMap => exact .cancel s
  | format g => exact (calm_format s g).frame
  | recover g => exact (calm_recover s g).frame
  | forceAbort g => exact (calm_forceAbort s g).frame
  | clearFault g => exact (calm_clearFault s g).frame
  | clearRefusal p => exact (calm_clearRefusal s p).frame
  | clearAlerts set => exact { (Frame.refl s : Frame true false false false false s s) with latched := nofun }
  | clearStats g => exact (calm_clearStats s g).frame
  | softReset => exact .softReset s

section
variable {a b c d m : Bool} {s : State}

/-- A row leaves alone what all its decisions leave alone. -/
theorem FrameNext.decideRow (s : State) {row : Decision → Bool}
    (h : ∀ u x, row x = true → Frame a b c d m u (u.carryOut x).1) : FrameNext a b c d m s (s.decideRow row) := by
  unfold State.decideRow
  split
  next => exact .of (.refl s)
  next request _ =>
    split
    next hrow =>
      exact .of (((h s.tick request.decision hrow).since (s := s) rfl rfl rfl rfl).upTo rfl rfl rfl rfl)
    next => exact .of (.refl s)

theorem Frame.requestFrame (s : State) (bytes : List Byte) (cfgEn : Bool) :
    Frame true true true true true s (s.requestFrame bytes cfgEn) := by
  have decided : Frame true true true true true s s.tick.decideHeld := by
    refine (Frame.of_eq rfl rfl rfl rfl : Frame true true true true true s s.tick).trans ?_
    unfold State.decideHeld
    split
    next => exact .refl _
    next request _ => exact (Frame.carryOut _ request.decision).allow.upTo rfl rfl rfl rfl
  refine decided.trans (Frame.trans (t := s.tick.decideHeld.holdRequest bytes cfgEn) ?_ (.of_eq rfl rfl rfl rfl))
  unfold State.holdRequest
  split
  next => exact .refl _
  next => exact .of_eq rfl rfl rfl rfl

theorem FrameNext.execRequestFrame (bytes : List Byte) (cfgEn : Bool) (span : FrameSpan) (s : State) :
    FrameNext true true true true true s (execRequestFrame bytes cfgEn span s) := by
  cases span with
  | stale inReset => exact .of (calm_staleFrame s bytes inReset).frame
  | whole =>
    refine .ite (.of_eq rfl rfl rfl rfl) ?_
    unfold State.frame
    split
    next => exact .refl s
    next =>
      split
      next => exact .of_eq rfl rfl rfl rfl
      next => exact .requestFrame s _ cfgEn

theorem FrameNext.execFetch (more : List Byte) (span : FrameSpan) (s : State) :
    FrameNext a b c d m s (execFetch more span s) := by
  cases span with
  | stale inReset => exact .of (calm_staleFetch s _ inReset).frame
  | whole => exact .ite (.of_eq rfl rfl rfl rfl) (.of_eq rfl rfl rfl rfl)

theorem Frame.deviceReset (s : State) (pin : Bool) :
    Frame true true true true true s { s.deviceReset with resetPin := pin } :=
  ⟨rfl, nofun, nofun, nofun, nofun, nofun⟩

theorem FrameNext.mapActivationComplete (s : State) : FrameNext a b c true true s (execMapActivationComplete s) := by
  have completed : Frame a b c true true s { s with map := s.map.activated } :=
    { (Frame.refl s : Frame a b c true true s s) with active := nofun, map := nofun }
  exact .ite (completed.trans (calm_latch _ .mapActivated).frame) (.refl s)

end

/-! ### Every command -/

/-- Every command answers a next state, and leaves alone what it is not named for. -/
theorem exec_frame (c : Instr) (s : State) :
    FrameNext (clearsCauses c) (setsConfig c) (setsEpoch c || closesEpoch c) (setsActiveMap c) (setsMap c) s (exec c s) := by
  cases c with
  | powerOn => exact .of (.deviceReset s s.resetPin)
  | resetNAssert => exact .of (.deviceReset s true)
  | resetNDeassert l => exact .ite (.of_eq rfl rfl rfl rfl) (.refl s)
  | portReset p => exact .ite (.refl s) ((Frame.portReset s.tick p).since rfl rfl rfl rfl)
  | prstDeassert p => exact .of (.of_eq rfl rfl rfl rfl)
  | triggerEvent n => exact .ite ((Frame.triggerEvent s.tick n).since rfl rfl rfl rfl) (.refl s)
  | triggerInputLow n => exact .of (.of_eq rfl rfl rfl rfl)
  | requestAccept p r => exact .requestAccept s p r
  | mark p a => exact .of (.takeCommand s p fun g => .mark s g p)
  | grant i => exact .grant s i
  | mapActivationComplete => exact .mapActivationComplete s
  | requestFrame bytes cfgEn span => exact .execRequestFrame bytes cfgEn span s
  | fetch more span => exact .execFetch more span s
  | softResetResponse => exact .ite (.of_eq rfl rfl rfl rfl) (.refl s)
  | read | domainShadowWrite | journalAreaWrite | participantSetWrite | policyWrite | triggerConfigWrite | alertMaskWrite
  | activateMap | cancelMap | format | recover | forceAbort | clearFault | clearRefusal | clearAlerts | clearStats
  | softReset | refusedRequest =>
    rw [exec]
    refine .decideRow s fun u x hrow => ?_
    have hframe := Frame.carryOut u x
    split at hrow <;> first | exact hframe | cases hrow
  | commitHeaderWrite i a => exact (calm_execCommitHeaderWrite (P := fun _ => True) i a s fun _ _ _ _ => trivial).frame_epoch
  | rollbackHeaderWrite i a =>
    exact (calm_execRollbackHeaderWrite (P := fun _ => True) i a s fun _ _ _ _ => trivial).frame_epoch
  | formatHeaderWrite i a => exact (calm_execFormatHeaderWrite (P := fun _ => True) i a s fun _ _ _ _ => trivial).frame_epoch
  | headerRead i a => exact (calm_execHeaderRead (P := fun _ => True) i a s fun _ _ _ _ => trivial).frame_epoch
  | recoveryHeaderWrite i a =>
    exact (calm_execRecoveryHeaderWrite (P := fun _ => True) i a s fun _ _ _ _ => trivial).frame_epoch
  | classification p => exact (calm_execClassification p s).frame
  | beginEpoch p a => exact (calm_execBegin p a s).frame
  | undo p m => exact (calm_execUndo p m s).frame
  | voteCommit p a => exact (calm_execVoteCommit p a s).frame
  | voteAbort p a => exact (calm_execVoteAbort p a s).frame
  | query p a => exact (calm_execQuery p a s).frame
  | unknownCommand p k a => exact (calm_execUnknownCommand p k a s).frame
  | requesterAnswer i a => exact (calm_execRequesterAnswer i a s).frame
  | oldBlockRead i a => exact (calm_execOldBlockRead i a s).frame
  | recordWrite i a => exact (calm_execRecordWrite i a s).frame
  | clearPhaseWrite i a => exact (calm_execClearPhaseWrite i a s).frame
  | recordRead i a => exact (calm_execRecordRead i a s).frame
  | restoreWrite i a => exact (calm_execRestoreWrite i a s).frame
  | popComplete i a => exact (calm_execPopComplete i a s).frame
  | formatClearingWrite i a => exact (calm_execFormatClearingWrite i a s).frame
  | scanRead i a => exact (calm_execScanRead i a s).frame
  | replayRead i a => exact (calm_execReplayRead i a s).frame
  | recoveryRestoreWrite i a => exact (calm_execRecoveryRestoreWrite i a s).frame
  | orphanedAnswer i a => exact (calm_execOrphanedAnswer i a s).frame
  | holdExpiry g => exact (calm_execHoldExpiry g s).frame
  | voteTimeout g => exact (calm_execVoteTimeout g s).frame

/-- Settles O2: every command answers a next state within its frame, and each frame holds the waiting commands. -/
theorem everyCommandAnswersNext : Obligations.EveryCommandAnswersNext := fun c s => by
  obtain ⟨t, ht, hframe⟩ := exec_frame c s
  exact ⟨t, ht, hframe.pending⟩

/-! ### The closes of an epoch (R7) -/

/-- What an answer to a group's own transaction can be: nothing, or the meaning of its row at the event with its place freed. -/
theorem State.takeOwn_cases {s t : State} {i : PlaceId} {a : MemAnswer} {role : Role → Bool}
    {onOk : GroupId → Role → List Byte → State → State} {onError : GroupId → Role → State → State}
    (h : s.takeOwn i a role onOk onError = .next t) :
    t = s ∨ ∃ g r, (∃ data, t = onOk g r data (s.placeFreed i)) ∨ t = onError g r (s.placeFreed i) := by
  unfold State.takeOwn State.takeAnswer at h
  split at h
  next x _ =>
    split at h
    next hx =>
      obtain ⟨hwanted, -⟩ := hx
      simp only [Bool.and_eq_true] at hwanted
      obtain ⟨g, hg⟩ := Option.isSome_iff_exists.1 hwanted.1
      simp only [hg] at h
      refine .inr ⟨g, x.role, ?_⟩
      cases a with
      | ok data => cases h; exact .inl ⟨_, rfl⟩
      | error => cases h; exact .inr rfl
    next => cases h; exact .inl rfl
  next => cases h; exact .inl rfl

/-- From `s` to `t` each epoch number stays or moves by one. -/
def EpochSteps (s t : State) : Prop :=
  ∀ g, (t.group g).closedEpoch = (s.group g).closedEpoch ∨ (t.group g).closedEpoch = (s.group g).closedEpoch + 1

theorem Calm.epochSteps {s t : State} (h : Calm (fun _ => False) s t) : EpochSteps s t := fun g => .inl (h.epoch g id)

theorem EpochSteps.calm {s t u : State} (h : EpochSteps s t) (k : Calm (fun _ => False) t u) : EpochSteps s u := fun g => by
  rw [k.epoch g id]
  exact h g

/-- A group that closes its current epoch moves its number by one. -/
theorem EpochSteps.modGroup (s : State) (g : GroupId) (f : Group → Group)
    (h : (f (s.group g)).closedEpoch = (s.group g).closedEpoch + 1) : EpochSteps s (s.modGroup g f) := fun k => by
  rw [State.modGroup_group]
  split
  next hk => subst hk; exact .inr h
  next => exact .inl rfl

theorem EpochSteps.commitPoint (s : State) (g : GroupId) : EpochSteps s (s.commitPoint g) := by
  have closed : EpochSteps s ((s.setTable (dropGroup g s.table)).modGroup g Group.committedEpoch) :=
    EpochSteps.modGroup (s.setTable (dropGroup g s.table)) g Group.committedEpoch rfl
  exact closed.calm ((calm_answerAll _ g WaitingKind.isVote _).trans (calm_releaseHeads _ g))

theorem EpochSteps.rollbackClose (s : State) (g : GroupId) : EpochSteps s (s.rollbackClose g) :=
  (EpochSteps.modGroup s g Group.rolledBackEpoch rfl).calm
    (((calm_answerAll _ g WaitingKind.isAny _).trans (calm_latchRollback _ g _)).trans (calm_releaseHeads _ g))

theorem EpochSteps.recoveryClosed (s : State) (g : GroupId) : EpochSteps s (s.recoveryClosed g) :=
  (EpochSteps.modGroup s g (fun x => { x with closedEpoch := x.currentEpoch, lastClose := .recovery }) rfl).calm
    (calm_endRecovery _ g .closed _)

/-- A row of a closing header moves epoch numbers by one where its two meanings do. -/
theorem EpochSteps.takeOwn {s t : State} {i : PlaceId} {a : MemAnswer} {role : Role → Bool}
    {onOk : GroupId → Role → List Byte → State → State} {onError : GroupId → Role → State → State}
    (h : s.takeOwn i a role onOk onError = .next t) (hok : ∀ g r data u, EpochSteps u (onOk g r data u))
    (herror : ∀ g r u, EpochSteps u (onError g r u)) : EpochSteps s t := by
  rcases State.takeOwn_cases h with rfl | ⟨g, r, ⟨data, rfl⟩ | rfl⟩
  · exact fun _ => .inl rfl
  · exact hok g r data (s.placeFreed i)
  · exact herror g r (s.placeFreed i)

theorem exec_epochSteps {c : Instr} {s t : State} (h : exec c s = .next t) (hc : closesEpoch c = true) :
    EpochSteps s t := by
  cases c with
  | commitHeaderWrite i a =>
    rw [exec, execCommitHeaderWrite] at h
    exact .takeOwn h (fun g _ _ u => (EpochSteps.commitPoint u g).calm (calm_retakeAll _))
      fun _ _ _ => (calm_faultNow _ _ _ _ _).epochSteps
  | rollbackHeaderWrite i a =>
    rw [exec, execRollbackHeaderWrite] at h
    exact .takeOwn h (fun g _ _ u => (EpochSteps.rollbackClose u g).calm (calm_retakeAll _))
      fun _ _ _ => (calm_faultNow _ _ _ _ _).epochSteps
  | recoveryHeaderWrite i a =>
    rw [exec, execRecoveryHeaderWrite] at h
    exact .takeOwn h (fun g _ _ u => EpochSteps.recoveryClosed u g) fun _ _ _ => (calm_recoveryFailed _ _ _).epochSteps
  | _ => cases hc

/-- Settles O8: the frame of each command holds what it is not named for, and a close moves an epoch number by one. -/
theorem epochAndConfigMoveOnlyAtTheirEvents : Obligations.EpochAndConfigMoveOnlyAtTheirEvents := by
  intro c s t g ht
  obtain ⟨u, hu, hframe⟩ := exec_frame c s
  cases hu.symm.trans ht
  refine ⟨fun hc => ?_, fun hc => hframe.config hc g, hframe.active⟩
  cases hcloses : closesEpoch c with
  | false => exact .inl (hframe.epoch (by simp [hc, hcloses]) g)
  | true => exact (exec_epochSteps ht hcloses g).imp_right fun h => ⟨rfl, h⟩

end Sys2Proof.Machine
end

section
/-! The domain map (R106 to R114): validation of the shadow copy against the five checks of R110, the law of the active map through every step, and map activation. -/

namespace Sys2Proof.Machine

/-! ### The first of a rising list -/

theorem entryIds_pairwise : entryIds.Pairwise (· < ·) := by decide

theorem mem_entryIds : ∀ i : EntryId, i ∈ entryIds := by decide

theorem fourIds_pairwise : fourIds.Pairwise (· < ·) := by decide

theorem mem_fourIds : ∀ i : Fin 4, i ∈ fourIds := by decide

section
variable {n : Nat} {l : List (Fin n)}

/-- In a rising list of all numbers, those before one are the smaller ones. -/
theorem mem_before_iff (hrise : l.Pairwise (· < ·)) (hall : ∀ x, x ∈ l) {before behind : List (Fin n)} {a : Fin n}
    (h : l = before ++ a :: behind) (x : Fin n) : x ∈ before ↔ x < a := by
  subst h
  obtain ⟨-, hbehind, hcross⟩ := List.pairwise_append.1 hrise
  constructor
  · exact fun hx => hcross x hx a List.mem_cons_self
  · intro hx
    rcases List.mem_append.1 (hall x) with hmem | hmem
    · exact hmem
    · rcases List.mem_cons.1 hmem with rfl | hmem
      · exact absurd hx (lt_irrefl x)
      · exact absurd hx (List.rel_of_pairwise_cons hbehind hmem).le.not_gt

theorem find?_eq_some_iff_least (hrise : l.Pairwise (· < ·)) (hall : ∀ x, x ∈ l) {f : Fin n → Bool} {a : Fin n} :
    l.find? f = some a ↔ f a = true ∧ ∀ x, x < a → f x = false := by
  rw [List.find?_eq_some_iff_append]
  constructor
  · rintro ⟨ha, before, behind, hsplit, hbefore⟩
    refine ⟨ha, fun x hx => ?_⟩
    simpa using hbefore x ((mem_before_iff hrise hall hsplit x).2 hx)
  · rintro ⟨ha, hless⟩
    obtain ⟨before, behind, hsplit⟩ := List.append_of_mem (hall a)
    refine ⟨ha, before, behind, hsplit, fun x hx => ?_⟩
    simpa using hless x ((mem_before_iff hrise hall hsplit x).1 hx)

theorem findSome?_eq_some_iff_least {β : Type} (hrise : l.Pairwise (· < ·)) (hall : ∀ x, x ∈ l) {f : Fin n → Option β}
    {b : β} : l.findSome? f = some b ↔ ∃ a, f a = some b ∧ ∀ x, x < a → f x = none := by
  rw [List.findSome?_eq_some_iff]
  constructor
  · rintro ⟨before, a, behind, hsplit, ha, hbefore⟩
    exact ⟨a, ha, fun x hx => hbefore x ((mem_before_iff hrise hall hsplit x).2 hx)⟩
  · rintro ⟨a, ha, hless⟩
    obtain ⟨before, behind, hsplit⟩ := List.append_of_mem (hall a)
    exact ⟨before, a, behind, hsplit, ha, fun x hx => hless x ((mem_before_iff hrise hall hsplit x).1 hx)⟩

end

/-! ### The checks of one shadow entry (R110) -/

theorem State.areaMet_eq_none_iff (s : State) (d : DomainEntry) :
    s.areaMet d = none ↔ ∀ g : GroupId, d.meetsArea (s.group g).config = false := by
  simp [State.areaMet, mem_fourIds]

theorem State.areaMet_eq_some_iff (s : State) (d : DomainEntry) (g : GroupId) :
    s.areaMet d = some g ↔ d.meetsArea (s.group g).config = true ∧ ∀ k, k < g → d.meetsArea (s.group k).config = false :=
  find?_eq_some_iff_least fourIds_pairwise mem_fourIds

theorem DomainMap.entryMet_eq_none_iff (m : DomainMap) (i : EntryId) :
    m.entryMet i = none ↔ ∀ j : EntryId, j < i → m.shadow[j].valid = true → m.shadow[i].meets m.shadow[j] = false := by
  simp [DomainMap.entryMet, mem_entryIds]

theorem DomainMap.entryMet_eq_some_iff (m : DomainMap) (i j : EntryId) :
    m.entryMet i = some j ↔ (j < i ∧ m.shadow[j].valid = true ∧ m.shadow[i].meets m.shadow[j] = true)
      ∧ ∀ k : EntryId, k < j → m.shadow[k].valid = true → m.shadow[i].meets m.shadow[k] = false := by
  unfold DomainMap.entryMet
  rw [find?_eq_some_iff_least entryIds_pairwise mem_entryIds]
  simp only [Bool.and_eq_true, decide_eq_true_eq, Bool.and_eq_false_iff, decide_eq_false_iff_not, not_lt, and_assoc]
  constructor
  · rintro ⟨hji, hvalid, hmeets, hless⟩
    refine ⟨hji, hvalid, hmeets, fun k hk hkvalid => ?_⟩
    rcases hless k hk with (hik | hno) | hno
    · exact absurd (hk.trans hji) hik.not_gt
    · cases hno.symm.trans hkvalid
    · exact hno
  · rintro ⟨hji, hvalid, hmeets, hless⟩
    refine ⟨hji, hvalid, hmeets, fun k hk => ?_⟩
    cases hkvalid : m.shadow[k].valid with
    | false => exact .inl (.inr rfl)
    | true => exact .inr (hless k hk hkvalid)

theorem State.namesDisabled_eq_some_iff (s : State) (d : DomainEntry) (g : GroupId) :
    s.namesDisabled d = some g ↔ d.kind = .journaled ∧ d.group = some g ∧ (s.group g).config.slots = 0 := by
  unfold State.namesDisabled DomainEntry.journalGroup
  cases d.kind <;> simp [Option.filter_eq_some_iff]

theorem State.namesDisabled_eq_none_iff (s : State) (d : DomainEntry) (hgroup : ¬ (d.kind = .journaled ∧ d.group = none)) :
    s.namesDisabled d = none ↔ (d.kind = .journaled → ∃ g, d.group = some g ∧ (s.group g).config.slots ≠ 0) := by
  rw [Option.eq_none_iff_forall_not_mem]
  simp only [Option.mem_def, s.namesDisabled_eq_some_iff d, not_and]
  constructor
  · intro h hkind
    obtain ⟨g, hg⟩ := Option.ne_none_iff_exists'.1 fun hnone => hgroup ⟨hkind, hnone⟩
    exact ⟨g, hg, h g hkind hg⟩
  · intro h g hkind hg
    obtain ⟨k, hk, hslots⟩ := h hkind
    cases hk.symm.trans hg
    exact hslots

/-- What shadow entry `i` fails, by its first failing check: the status and the byte of the other party (R110, R176). -/
def State.entryFails (s : State) (i : EntryId) (st : Status) (y : Byte) : Prop :=
  (st = .invalidEntry ∧ y = 0xFF#8 ∧ (s.map.shadow[i].limit.toNat < s.map.shadow[i].base.toNat
      ∨ (s.map.shadow[i].kind = .journaled ∧ s.map.shadow[i].group = none)))
    ∨ (s.map.shadow[i].base.toNat ≤ s.map.shadow[i].limit.toNat ∧ st = .invalidEntry
      ∧ ∃ g : GroupId, y = BitVec.ofNat 8 (0x20 + g.val) ∧ s.map.shadow[i].kind = .journaled
        ∧ s.map.shadow[i].group = some g ∧ (s.group g).config.slots = 0)
    ∨ (s.map.shadow[i].base.toNat ≤ s.map.shadow[i].limit.toNat
      ∧ (s.map.shadow[i].kind = .journaled → ∃ g, s.map.shadow[i].group = some g ∧ (s.group g).config.slots ≠ 0)
      ∧ st = .overlap
      ∧ ((∃ g : GroupId, y = BitVec.ofNat 8 (0x20 + g.val) ∧ s.map.shadow[i].meetsArea (s.group g).config = true
          ∧ ∀ k, k < g → s.map.shadow[i].meetsArea (s.group k).config = false)
        ∨ ((∀ g : GroupId, s.map.shadow[i].meetsArea (s.group g).config = false)
          ∧ ∃ j : EntryId, y = BitVec.ofNat 8 j.val ∧ j < i ∧ s.map.shadow[j].valid = true
            ∧ s.map.shadow[i].meets s.map.shadow[j] = true
            ∧ ∀ k : EntryId, k < j → s.map.shadow[k].valid = true →
                s.map.shadow[i].meets s.map.shadow[k] = false)))

theorem State.failsValidation_iff (s : State) (i : EntryId) (st : Status) (y : Byte) :
    s.failsValidation i st y ↔ s.map.shadow[i].valid = true
      ∧ (∀ j : EntryId, j < i → s.map.shadow[j].valid = true → s.entrySound j) ∧ s.entryFails i st y := Iff.rfl

section
variable {s : State} {i : EntryId} (st : Status) (y : Byte)

theorem State.entryFails_of_noRange
    (h : s.map.shadow[i].limit.toNat < s.map.shadow[i].base.toNat ∨ (s.map.shadow[i].kind = .journaled ∧ s.map.shadow[i].group = none)) :
    s.entryFails i st y ↔ st = .invalidEntry ∧ y = 0xFF#8 := by
  unfold State.entryFails
  grind

theorem State.entryFails_of_disabled {g : GroupId} (hrange : s.map.shadow[i].base.toNat ≤ s.map.shadow[i].limit.toNat)
    (hkind : s.map.shadow[i].kind = .journaled) (hg : s.map.shadow[i].group = some g) (hslots : (s.group g).config.slots = 0) :
    s.entryFails i st y ↔ st = .invalidEntry ∧ y = BitVec.ofNat 8 (0x20 + g.val) := by
  unfold State.entryFails
  grind

theorem State.entryFails_of_area {g : GroupId} (hrange : s.map.shadow[i].base.toNat ≤ s.map.shadow[i].limit.toNat)
    (hgroup : s.map.shadow[i].kind = .journaled → ∃ g, s.map.shadow[i].group = some g ∧ (s.group g).config.slots ≠ 0)
    (hmeets : s.map.shadow[i].meetsArea (s.group g).config = true)
    (hleast : ∀ k, k < g → s.map.shadow[i].meetsArea (s.group k).config = false) :
    s.entryFails i st y ↔ st = .overlap ∧ y = BitVec.ofNat 8 (0x20 + g.val) := by
  have honly : ∀ k, s.map.shadow[i].meetsArea (s.group k).config = true →
      (∀ j, j < k → s.map.shadow[i].meetsArea (s.group j).config = false) → k = g := fun k hk hkleast => by
    rcases lt_trichotomy k g with h | h | h
    · cases (hleast k h).symm.trans hk
    · exact h
    · cases (hkleast g h).symm.trans hmeets
  unfold State.entryFails
  grind

theorem State.entryFails_of_entry {j : EntryId} (hrange : s.map.shadow[i].base.toNat ≤ s.map.shadow[i].limit.toNat)
    (hgroup : s.map.shadow[i].kind = .journaled → ∃ g, s.map.shadow[i].group = some g ∧ (s.group g).config.slots ≠ 0)
    (hfree : ∀ g : GroupId, s.map.shadow[i].meetsArea (s.group g).config = false)
    (hj : (j < i ∧ s.map.shadow[j].valid = true ∧ s.map.shadow[i].meets s.map.shadow[j] = true)
      ∧ ∀ k : EntryId, k < j → s.map.shadow[k].valid = true → s.map.shadow[i].meets s.map.shadow[k] = false) :
    s.entryFails i st y ↔ st = .overlap ∧ y = BitVec.ofNat 8 j.val := by
  obtain ⟨⟨hji, hvalid, hmeets⟩, hleast⟩ := hj
  have honly : ∀ k : EntryId, s.map.shadow[k].valid = true → s.map.shadow[i].meets s.map.shadow[k] = true →
      (∀ l : EntryId, l < k → s.map.shadow[l].valid = true → s.map.shadow[i].meets s.map.shadow[l] = false) → k = j :=
    fun k hkvalid hk hkleast => by
      rcases lt_trichotomy k j with h | h | h
      · cases (hleast k h hkvalid).symm.trans hk
      · exact h
      · cases (hkleast j h hvalid).symm.trans hmeets
  unfold State.entryFails
  grind

end

/-- The model's check of one entry finds nothing, or a fault whose response is that of the statements (R109, R176). -/
theorem State.entryFault_spec (s : State) (i : EntryId) :
    (s.entryFault i = none ∧ s.entrySound i)
      ∨ ∃ f, s.entryFault i = some f
        ∧ ∃ st y, f.response = { status := st, data := [BitVec.ofNat 8 i.val, y] }
          ∧ ∀ st' y', s.entryFails i st' y' ↔ st' = st ∧ y' = y := by
  unfold State.entryFault
  by_cases hrange : s.map.shadow[i].limit.toNat < s.map.shadow[i].base.toNat
  · exact .inr ⟨_, if_pos hrange, _, _, rfl, fun st y => State.entryFails_of_noRange st y (.inl hrange)⟩
  by_cases hgroup : s.map.shadow[i].kind = .journaled ∧ s.map.shadow[i].group = none
  · exact .inr ⟨_, (if_neg hrange).trans (if_pos hgroup), _, _, rfl,
      fun st y => State.entryFails_of_noRange st y (.inr hgroup)⟩
  rw [if_neg hrange, if_neg hgroup]
  replace hrange := not_lt.1 hrange
  cases hdisabled : s.namesDisabled s.map.shadow[i] with
  | some g =>
    obtain ⟨hkind, hg, hslots⟩ := (s.namesDisabled_eq_some_iff _ g).1 hdisabled
    exact .inr ⟨_, rfl, _, _, rfl, fun st y => State.entryFails_of_disabled st y hrange hkind hg hslots⟩
  | none =>
    have henabled := (s.namesDisabled_eq_none_iff _ hgroup).1 hdisabled
    cases harea : s.areaMet s.map.shadow[i] with
    | some g =>
      obtain ⟨hmeets, hleast⟩ := (s.areaMet_eq_some_iff _ g).1 harea
      exact .inr ⟨_, rfl, _, _, rfl, fun st y => State.entryFails_of_area st y hrange henabled hmeets hleast⟩
    | none =>
      have hfree := (s.areaMet_eq_none_iff _).1 harea
      cases hentry : s.map.entryMet i with
      | none => exact .inl ⟨rfl, hrange, henabled, hfree, (s.map.entryMet_eq_none_iff i).1 hentry⟩
      | some j =>
        exact .inr ⟨_, rfl, _, _, rfl, fun st y =>
          State.entryFails_of_entry st y hrange henabled hfree ((s.map.entryMet_eq_some_iff i j).1 hentry)⟩

theorem State.entryFails_false_of_sound {s : State} {i : EntryId} (h : s.entrySound i) {st : Status} {y : Byte} :
    ¬ s.entryFails i st y := by
  obtain ⟨hrange, hgroup, hfree, hentries⟩ := h
  rintro (⟨-, -, hless | ⟨hkind, hnone⟩⟩ | ⟨-, -, g, -, hkind, hg, hslots⟩ | ⟨-, -, -, ⟨g, -, hmeets, -⟩ | ⟨-, j, -, hji, hvalid, hmeets, -⟩⟩)
  · exact hrange.not_gt hless
  · obtain ⟨g, hg, -⟩ := hgroup hkind
    cases hnone.symm.trans hg
  · obtain ⟨k, hk, henabled⟩ := hgroup hkind
    cases hg.symm.trans hk
    exact henabled hslots
  · cases (hfree g).symm.trans hmeets
  · cases (hentries j hji hvalid).symm.trans hmeets

theorem State.entryFault_eq_none_iff (s : State) (i : EntryId) : s.entryFault i = none ↔ s.entrySound i := by
  rcases s.entryFault_spec i with ⟨hnone, hsound⟩ | ⟨f, hf, st, y, -, hfails⟩
  · exact ⟨fun _ => hsound, fun _ => hnone⟩
  · exact ⟨fun h => absurd (h.symm.trans hf) nofun,
      fun h => (State.entryFails_false_of_sound h ((hfails st y).2 ⟨rfl, rfl⟩)).elim⟩

/-! ### Validation of the shadow copy (R110) -/

theorem State.validation_eq_none_iff (s : State) : s.validation = none ↔ s.shadowSound := by
  unfold State.validation State.shadowSound
  rw [List.findSome?_eq_none_iff]
  refine ⟨fun h i hvalid => ?_, fun h i _ => ?_⟩
  · have hi := h i (mem_entryIds i)
    rw [if_pos hvalid] at hi
    exact (s.entryFault_eq_none_iff i).1 hi
  · by_cases hvalid : s.map.shadow[i].valid = true
    · exact (if_pos hvalid).trans ((s.entryFault_eq_none_iff i).2 (h i hvalid))
    · exact if_neg hvalid

/-- Validation ends at the lowest-numbered valid entry that fails a check, with the fault of that entry. -/
theorem State.validation_eq_some_iff (s : State) (f : MapFault) :
    s.validation = some f ↔ ∃ i : EntryId, (s.map.shadow[i].valid = true ∧ s.entryFault i = some f)
      ∧ ∀ j : EntryId, j < i → s.map.shadow[j].valid = true → s.entrySound j := by
  unfold State.validation
  rw [findSome?_eq_some_iff_least entryIds_pairwise mem_entryIds]
  have hcheck : ∀ i : EntryId, (if s.map.shadow[i].valid then s.entryFault i else none) = some f
      ↔ s.map.shadow[i].valid = true ∧ s.entryFault i = some f := fun i => by
    cases s.map.shadow[i].valid <;> simp
  have hpass : ∀ i : EntryId, (if s.map.shadow[i].valid then s.entryFault i else none) = none
      ↔ (s.map.shadow[i].valid = true → s.entrySound i) := fun i => by
    rw [← s.entryFault_eq_none_iff i]
    cases s.map.shadow[i].valid <;> simp
  simp only [hcheck, hpass]

/-- The response to a failed validation names the entry, the status and the other party of the statements (R109, R176). -/
theorem State.failsValidation_iff_validation (s : State) (i : EntryId) (st : Status) (y : Byte) :
    s.failsValidation i st y ↔ ∃ f, s.validation = some f
      ∧ f.response = { status := st, data := [BitVec.ofNat 8 i.val, y] } := by
  rw [s.failsValidation_iff]
  constructor
  · rintro ⟨hvalid, hbefore, hfails⟩
    rcases s.entryFault_spec i with ⟨-, hsound⟩ | ⟨f, hf, st', y', hresponse, hiff⟩
    · exact (State.entryFails_false_of_sound hsound hfails).elim
    · obtain ⟨rfl, rfl⟩ := (hiff st y).1 hfails
      exact ⟨f, (s.validation_eq_some_iff f).2 ⟨i, ⟨hvalid, hf⟩, hbefore⟩, hresponse⟩
  · rintro ⟨f, hf, hresponse⟩
    obtain ⟨k, ⟨hvalid, hk⟩, hbefore⟩ := (s.validation_eq_some_iff f).1 hf
    rcases s.entryFault_spec k with ⟨hnone, -⟩ | ⟨f', hf', st', y', hresponse', hiff⟩
    · cases hnone.symm.trans hk
    · cases hf'.symm.trans hk
      rw [hresponse'] at hresponse
      obtain ⟨rfl, hindex, rfl⟩ : st' = st ∧ BitVec.ofNat 8 k.val = BitVec.ofNat 8 i.val ∧ y' = y := by
        simpa using hresponse
      obtain rfl : k = i := by
        have hval := congrArg BitVec.toNat hindex
        simp only [BitVec.toNat_ofNat] at hval
        exact Fin.ext (by omega)
      exact ⟨hvalid, hbefore, (hiff _ _).2 ⟨rfl, rfl⟩⟩

/-! ### The law of the active map (R114) -/

/-- The law is about the map, the journal areas and nothing else. -/
theorem State.mapLawful_of_same {s t : State} (h : s.mapLawful) (hmap : t.map = s.map)
    (hslots : ∀ g, (t.group g).config.slots = (s.group g).config.slots)
    (hbase : ∀ g, (t.group g).config.base = (s.group g).config.base) : t.mapLawful := by
  simpa only [State.mapLawful, State.validation_eq_none_iff, State.shadowSound, State.entrySound, DomainEntry.meetsArea,
    hmap, hslots, hbase] using h

/-- A map whose active copy is lawful is lawful while no activation is pending. -/
theorem State.mapLawful_of_active {s t : State} (h : s.mapLawful) (hactive : t.map.active = s.map.active)
    (hpending : t.map.pending = false) (hgroups : ∀ g, (t.group g).config = (s.group g).config) : t.mapLawful := by
  obtain ⟨hentries, hareas, hnames, -⟩ := h
  simp only [State.mapLawful, hactive, hpending, hgroups]
  exact ⟨hentries, hareas, hnames, nofun⟩

theorem DomainEntry.meets_comm (d e : DomainEntry) : d.meets e = e.meets d := Bool.and_comm _ _

/-- A shadow copy that passes validation is a lawful active copy. -/
theorem State.mapLawful_of_activated {s t : State} (h : s.validation = none) (hactive : t.map.active = s.map.shadow)
    (hpending : t.map.pending = false) (hgroups : ∀ g, (t.group g).config = (s.group g).config) : t.mapLawful := by
  have hsound := (s.validation_eq_none_iff).1 h
  simp only [State.mapLawful, hactive, hpending, hgroups]
  refine ⟨fun i j hij hi hj => ?_, fun i g hi => (hsound i hi).2.2.1 g, fun i hi => (hsound i hi).2.1, nofun⟩
  rcases lt_or_gt_of_ne hij with hlt | hlt
  · rw [DomainEntry.meets_comm]
    exact (hsound j hj).2.2.2 i hlt hi
  · exact (hsound i hi).2.2.2 j hlt hj

theorem State.mapLawful_writeShadow {s : State} (h : s.mapLawful) (i : EntryId) (w : Span) :
    (s.writeShadow i w).1.mapLawful := by
  unfold State.writeShadow
  split
  next => exact h
  next =>
    split
    next => exact h
    next hpending => exact State.mapLawful_of_active h rfl (Bool.eq_false_iff.2 hpending) fun _ => rfl

theorem State.mapLawful_activate {s : State} (h : s.mapLawful) : s.activate.1.mapLawful := by
  unfold State.activate
  split
  next => exact h
  next =>
    split
    next => exact h
    next hpass =>
      split
      next => exact State.mapLawful_of_activated hpass rfl rfl fun _ => rfl
      next =>
        obtain ⟨hentries, hareas, hnames, -⟩ := h
        exact ⟨hentries, hareas, hnames, fun _ => hpass⟩

theorem State.mapLawful_cancel {s : State} (h : s.mapLawful) : s.cancel.1.mapLawful := by
  unfold State.cancel
  split
  next => exact State.mapLawful_of_active h rfl rfl fun _ => rfl
  next => exact h

/-! ### A configuration write keeps the law (R2, R114) -/

theorem Span.value_of_not_covers {w : Span} {off size : Nat} (h : w.covers off size = false) : w.value off size = none := by
  rw [Span.value, h]
  rfl

section
variable {α : Type} {w : Span} {off size v : Nat} {old : α} {read : Nat → α}

theorem Span.pick_of_none (h : w.value off size = none) : w.pick off size old read = old := by
  rw [Span.pick, h]

theorem Span.pick_of_some (h : w.value off size = some v) : w.pick off size old read = read v := by
  rw [Span.pick, h]

end

theorem GroupConfig.written_area_of_not_touches {c : GroupConfig} {w : Span} (h : w.touchesArea = false) :
    (c.written w).slots = c.slots ∧ (c.written w).base = c.base := by
  obtain ⟨hbase, hslots⟩ := Bool.or_eq_false_iff.1 h
  exact ⟨Span.pick_of_none (Span.value_of_not_covers hslots), Span.pick_of_none (Span.value_of_not_covers hbase)⟩

@[simp] theorem Group.configured_config (x : Group) (w : Span) : (x.configured w).config = x.config.written w := by
  unfold Group.configured
  split <;> rfl

theorem DomainEntry.journalGroup_eq_some_iff (d : DomainEntry) (g : GroupId) :
    d.journalGroup = some g ↔ d.kind = .journaled ∧ d.group = some g := by
  unfold DomainEntry.journalGroup
  cases d.kind <;> simp

theorem State.namedByMap_eq_true_iff (s : State) (g : GroupId) :
    s.namedByMap g = true ↔ ∃ i : EntryId, s.map.active[i].valid = true ∧ s.map.active[i].kind = .journaled
      ∧ s.map.active[i].group = some g := by
  simp [-Fin.getElem_fin, State.namedByMap, mem_entryIds, DomainEntry.journalGroup_eq_some_iff]

/-- A write of slot count 0 that meets no conflict leaves no JOURNALED entry with the group. -/
theorem State.unnamed_of_no_areaConflict {s : State} {g : GroupId} {w : Span} (hfree : s.areaConflict g w = false)
    (hzero : w.value 8 4 = some 0) {i : EntryId} (hvalid : s.map.active[i].valid = true)
    (hkind : s.map.active[i].kind = .journaled) : s.map.active[i].group ≠ some g := fun hg => by
  have hnamed := (s.namedByMap_eq_true_iff g).2 ⟨i, hvalid, hkind, hg⟩
  simp [State.areaConflict, hzero, hnamed] at hfree

theorem GroupConfig.written_slots_eq_zero {c : GroupConfig} {w : Span} (h : (c.written w).slots = 0) :
    w.value 8 4 = some 0 ∨ c.slots = 0 := by
  change w.pick 8 4 c.slots id = 0 at h
  cases hvalue : w.value 8 4 with
  | none => exact .inr ((Span.pick_of_none hvalue).symm.trans h)
  | some v => exact .inl (congrArg some ((Span.pick_of_some hvalue).symm.trans h))

/-- What the checks of R2 leave open for a write of the area that passes them. -/
theorem State.configFault_eq_none {s : State} {g : GroupId} {w : Span} (h : s.configFault g w = none)
    (harea : w.touchesArea = true) :
    s.map.pending = false ∧ s.areaConflict g w = false
      ∧ s.areaOverlaps g ((s.group g).config.written w) = false := by
  unfold State.configFault at h
  split at h
  · cases h
  split at h
  · cases h
  split at h
  · cases h
  next hpending =>
    split at h
    · cases h
    next hconflict =>
      split at h
      · cases h
      next hoverlap => simp_all

theorem State.mapLawful_writeConfig {s : State} (h : s.mapLawful) (g : GroupId) (w : Span) :
    (s.writeConfig g w).1.mapLawful := by
  unfold State.writeConfig
  split
  next => exact h
  next hpass =>
    have hnew : ∀ k, ((s.modGroup g fun x => x.configured w).group k).config
        = if k = g then (s.group g).config.written w else (s.group k).config := fun k => by
      rw [State.modGroup_group]
      split <;> simp
    cases harea : w.touchesArea with
    | false =>
      obtain ⟨hslots, hbase⟩ := GroupConfig.written_area_of_not_touches (c := (s.group g).config) harea
      refine State.mapLawful_of_same h rfl (fun k => ?_) fun k => ?_
      · rw [hnew]; split
        next hk => rw [hslots, hk]
        next => rfl
      · rw [hnew]; split
        next hk => rw [hbase, hk]
        next => rfl
    | true =>
      obtain ⟨hpending, hconflict, hoverlap⟩ := State.configFault_eq_none hpass harea
      obtain ⟨hentries, hareas, hnames, -⟩ := h
      refine ⟨hentries, fun i k hvalid => ?_, fun i hvalid hkind => ?_, fun hp => by cases hpending.symm.trans hp⟩
      · rw [hnew]; split
        next =>
          simp only [State.areaOverlaps, Bool.or_eq_false_iff, List.any_eq_false] at hoverlap
          have hmeets := hoverlap.1 i (mem_entryIds i)
          rw [show s.map.active[i].valid = true from hvalid] at hmeets
          exact Bool.eq_false_iff.2 hmeets
        next => exact hareas i k hvalid
      · obtain ⟨k, hk, henabled⟩ := hnames i hvalid hkind
        refine ⟨k, hk, ?_⟩
        rw [hnew]; split
        next heq =>
          intro hzero
          rcases GroupConfig.written_slots_eq_zero hzero with hwritten | hold
          · exact State.unnamed_of_no_areaConflict hconflict hwritten hvalid hkind (heq ▸ hk)
          · exact henabled (heq ▸ hold)
        next => exact henabled

/-! ### Every step keeps the law (R114) -/

theorem State.mapLawful_carryOut {s : State} (h : s.mapLawful) (d : Decision) : (s.carryOut d).1.mapLawful := by
  have hrest (hd : d.configures = false ∧ d.setsMap = false) : (s.carryOut d).1.mapLawful := by
    have hframe := Frame.carryOut s d
    refine State.mapLawful_of_same h (hframe.map hd.2) (fun g => ?_) fun g => ?_ <;> rw [hframe.config hd.1 g]
  cases d with
  | write o w =>
    cases o with
    | domainShadow i => exact State.mapLawful_writeShadow h i w
    | groupConfig g => exact State.mapLawful_writeConfig h g w
    | triggerConfig n => exact hrest ⟨rfl, rfl⟩
    | alert => exact hrest ⟨rfl, rfl⟩
  | activateMap => exact State.mapLawful_activate h
  | cancelMap => exact State.mapLawful_cancel h
  | softReset => exact State.mapLawful_of_active h rfl rfl ((Frame.softReset s : Frame true false true false true s s.softReset).config rfl)
  | refuse | zeroWrite | read | format | recover | forceAbort | clearFault | clearRefusal | clearAlerts | clearStats =>
    exact hrest ⟨rfl, rfl⟩

theorem State.mapLawful_decideHeld {s : State} (h : s.mapLawful) : s.decideHeld.mapLawful := by
  unfold State.decideHeld
  split
  next => exact h
  next request _ => exact State.mapLawful_of_same (State.mapLawful_carryOut h request.decision) rfl (fun _ => rfl) fun _ => rfl

theorem mapLawful_execRequestFrame {s t : State} (h : s.mapLawful) {bytes : List Byte} {cfgEn : Bool} {span : FrameSpan}
    (hexec : execRequestFrame bytes cfgEn span s = .next t) : t.mapLawful := by
  have hsame : ∀ {u : State}, u.map = s.map → u.groups = s.groups → u.mapLawful := fun hmap hgroups =>
    State.mapLawful_of_same h hmap (fun g => by rw [State.group, hgroups]; rfl) fun g => by rw [State.group, hgroups]; rfl
  cases span with
  | stale inReset =>
    cases bytes with
    | nil => cases hexec; exact h
    | cons b more =>
      rw [execRequestFrame, State.staleFrame] at hexec
      split at hexec <;> cases hexec <;> exact hsame rfl rfl
  | whole =>
    rw [execRequestFrame] at hexec
    split at hexec <;> cases hexec
    next => exact hsame rfl rfl
    next =>
      unfold State.frame
      split
      next => exact h
      next =>
        split
        next => exact hsame rfl rfl
        next =>
          have hticked : s.tick.mapLawful := hsame rfl rfl
          unfold State.requestFrame State.holdRequest
          split <;>
            exact State.mapLawful_of_same (State.mapLawful_decideHeld hticked) rfl (fun _ => rfl) fun _ => rfl

theorem State.mapLawful_decideRow {s t : State} (h : s.mapLawful) {row : Decision → Bool}
    (hexec : s.decideRow row = .next t) : t.mapLawful := by
  unfold State.decideRow at hexec
  split at hexec
  next => cases hexec; exact h
  next request _ =>
    split at hexec <;> cases hexec
    next =>
      have hticked : s.tick.mapLawful := State.mapLawful_of_same h rfl (fun _ => rfl) fun _ => rfl
      exact State.mapLawful_of_same (State.mapLawful_carryOut hticked request.decision) rfl (fun _ => rfl) fun _ => rfl
    next => exact h

theorem mapLawful_execMapActivationComplete {s t : State} (h : s.mapLawful)
    (hexec : execMapActivationComplete s = .next t) : t.mapLawful := by
  unfold execMapActivationComplete at hexec
  split at hexec <;> cases hexec
  next hready => exact State.mapLawful_of_activated (h.2.2.2 hready.1) rfl rfl fun _ => rfl
  next => exact h

/-- A device reset leaves no valid entry. -/
theorem State.mapLawful_of_reset {t : State} (h : t.map = DomainMap.reset) : t.mapLawful := by
  have hinvalid : ∀ i : EntryId, t.map.active[i].valid = false := fun i => by
    rw [h]
    simp [DomainMap.reset, DomainEntry.reset]
  refine ⟨fun i _ _ hi => ?_, fun i _ hi => ?_, fun i hi => ?_, fun hpending => ?_⟩
  · cases (hinvalid i).symm.trans hi
  · cases (hinvalid i).symm.trans hi
  · cases (hinvalid i).symm.trans hi
  · rw [h] at hpending
    cases hpending

theorem exec_keeps_mapLawful {c : Instr} {s t : State} (h : s.mapLawful) (hexec : exec c s = .next t) : t.mapLawful := by
  have hrest (hmap : setsMap c = false) (hconfig : setsConfig c = false) : t.mapLawful := by
    obtain ⟨u, hu, hframe⟩ := exec_frame c s
    cases hu.symm.trans hexec
    refine State.mapLawful_of_same h (hframe.map hmap) (fun g => ?_) fun g => ?_ <;> rw [hframe.config hconfig g]
  cases c with
  | powerOn | resetNAssert =>
    rw [exec] at hexec
    cases hexec
    exact State.mapLawful_of_reset rfl
  | requestFrame bytes cfgEn span => exact mapLawful_execRequestFrame h hexec
  | domainShadowWrite | journalAreaWrite | participantSetWrite | policyWrite | activateMap | cancelMap | softReset =>
    rw [exec] at hexec
    exact State.mapLawful_decideRow h hexec
  | mapActivationComplete => exact mapLawful_execMapActivationComplete h hexec
  | _ => exact hrest rfl rfl

/-- Settles O7: every command keeps the law, and a step takes a command from the queue and runs it. -/
theorem activeMapLawHolds : Obligations.ActiveMapLawHolds := by
  intro s t h hstep
  rcases step_cases hstep with rfl | ⟨c, rest, hexec⟩
  · exact h
  · have hqueued : { s with pending := rest }.mapLawful := State.mapLawful_of_same h rfl (fun _ => rfl) fun _ => rfl
    exact exec_keeps_mapLawful hqueued hexec

/-! ### The decision of a held request (R172) -/

theorem State.undecided_of_awaits {s : State} {d : Decision} (h : s.awaits d) :
    ∃ request, s.mgmt.undecided = some request ∧ request.decision = d := by
  obtain ⟨hresetting, request, hheld, hresponse, hdecision⟩ := h
  refine ⟨request, ?_, hdecision⟩
  rw [Mgmt.undecided, hresetting, hheld]
  simp [Option.filter, hresponse]

/-- A row of the table that the awaited decision is one of carries it out, at the next event. -/
theorem State.decideRow_of_awaits {s : State} {d : Decision} (h : s.awaits d) {row : Decision → Bool}
    (hrow : row d = true) : s.decideRow row = .next (s.tick.decideAs d) := by
  obtain ⟨request, hundecided, rfl⟩ := State.undecided_of_awaits h
  rw [State.decideRow, hundecided]
  exact if_pos hrow

/-- A decision that changes nothing but its answer. -/
theorem State.decideAs_of_refusal {s : State} {d : Decision} {r : Response} (h : s.tick.carryOut d = (s.tick, some r)) :
    s.tick.decideAs d = s.answeredBy r := by
  rw [State.decideAs, h]
  rfl

/-! ### Activation (R109 to R113) -/

theorem State.exec_activateMap_of_awaits {s : State} (h : s.awaits .activateMap) :
    exec .activateMap s = .next (s.tick.decideAs .activateMap) := by
  rw [exec]
  exact State.decideRow_of_awaits h rfl

theorem State.exec_cancelMap_of_awaits {s : State} (h : s.awaits .cancelMap) :
    exec .cancelMap s = .next (s.tick.decideAs .cancelMap) := by
  rw [exec]
  exact State.decideRow_of_awaits h rfl

section
variable {s : State}

theorem State.decideAs_activateMap_of_pending (h : s.map.pending = true) :
    s.tick.decideAs .activateMap = s.answeredWith .mapPending := by
  refine State.decideAs_of_refusal ?_
  rw [State.carryOut, State.activate, if_pos (show s.tick.map.pending = true from h)]
  rfl

theorem State.decideAs_activateMap_of_fault {f : MapFault} (h : s.map.pending = false) (hfault : s.validation = some f) :
    s.tick.decideAs .activateMap = s.answeredBy f.response := by
  refine State.decideAs_of_refusal ?_
  have hactivate : s.tick.activate = (s.tick, f.response) := by
    rw [State.activate, if_neg (show ¬ s.tick.map.pending = true from Bool.eq_false_iff.1 h),
      show s.tick.validation = some f from hfault]
  rw [State.carryOut, hactivate]

theorem State.decideAs_activateMap_of_quiet (h : s.map.pending = false) (hsound : s.validation = none)
    (hquiet : s.allQuiet = true) :
    s.tick.decideAs .activateMap = { s.answeredWith .ok with map := { s.map with active := s.map.shadow } } := by
  have hactivate : s.tick.activate = ({ s.tick with map := s.map.activated }, Response.plain .ok) := by
    rw [State.activate, if_neg (show ¬ s.tick.map.pending = true from Bool.eq_false_iff.1 h),
      show s.tick.validation = none from hsound]
    exact if_pos hquiet
  have hmap : s.map.activated = { s.map with active := s.map.shadow } := by
    rw [DomainMap.activated, ← h]
  rw [State.decideAs, State.carryOut, hactivate, hmap]
  rfl

theorem State.decideAs_activateMap_of_busy (h : s.map.pending = false) (hsound : s.validation = none)
    (hbusy : s.allQuiet = false) :
    s.tick.decideAs .activateMap = { s.answeredWith .accepted with map := { s.map with pending := true } } := by
  have hactivate : s.tick.activate
      = ({ s.tick with map := { s.map with pending := true } }, Response.plain .accepted) := by
    rw [State.activate, if_neg (show ¬ s.tick.map.pending = true from Bool.eq_false_iff.1 h),
      show s.tick.validation = none from hsound]
    exact if_neg (Bool.eq_false_iff.1 hbusy)
  rw [State.decideAs, State.carryOut, hactivate]
  rfl

theorem State.decideAs_cancelMap (s : State) : s.tick.decideAs .cancelMap = if s.map.pending = true then
    { s.answeredWith .ok with map := { s.map with pending := false } } else s.answeredWith .state := by
  rw [State.decideAs, State.carryOut, State.cancel]
  by_cases hpending : s.map.pending = true
  · rw [if_pos (show s.tick.map.pending = true from hpending), if_pos hpending]
    rfl
  · rw [if_neg (show ¬ s.tick.map.pending = true from hpending), if_neg hpending]
    rfl

/-- A shadow copy that is not sound has a lowest-numbered entry that fails. -/
theorem State.failsValidation_of_not_sound (h : ¬ s.shadowSound) : ∃ i st y, s.failsValidation i st y := by
  obtain ⟨f, hf⟩ := Option.ne_none_iff_exists'.1 (mt (s.validation_eq_none_iff).1 h)
  obtain ⟨i, ⟨-, hi⟩, -⟩ := (s.validation_eq_some_iff f).1 hf
  rcases s.entryFault_spec i with ⟨hnone, -⟩ | ⟨f', hf', st, y, hresponse, -⟩
  · cases hnone.symm.trans hi
  · cases hf'.symm.trans hi
    exact ⟨i, st, y, (s.failsValidation_iff_validation i st y).2 ⟨f, hf, hresponse⟩⟩

end

theorem exec_mapActivationComplete_of_not_ready {s : State} (h : s.map.pending = false ∨ s.allQuiet = false) :
    exec .mapActivationComplete s = .next s :=
  if_neg fun ⟨hpending, hquiet⟩ => h.elim (Bool.eq_false_iff.1 · hpending) (Bool.eq_false_iff.1 · hquiet)

/-- The cause of map activation is the last of the 21 (R168, R175). -/
theorem Cause.mapActivated_flag_getLsbD {n : Nat} (h : n < 20) : (Cause.flag .mapActivated).getLsbD n = false := by
  have hpow : Nat.testBit (2 ^ 20) n = false := Nat.testBit_two_pow_of_ne (by omega)
  rw [Cause.flag, BitVec.getLsbD_ofNat, Cause.bit, hpow, Bool.and_false]

/-- Two entries meet where some block lies in both (R110). -/
theorem DomainEntry.meets_iff {d e : DomainEntry} (hd : d.base.toNat ≤ d.limit.toNat) (he : e.base.toNat ≤ e.limit.toNat) :
    d.meets e = true ↔ ∃ b : Block, d.base.toNat ≤ b.toNat ∧ b.toNat ≤ d.limit.toNat ∧ e.base.toNat ≤ b.toNat
      ∧ b.toNat ≤ e.limit.toNat := by
  rw [DomainEntry.meets, Bool.and_eq_true, decide_eq_true_eq, decide_eq_true_eq]
  constructor
  · rintro ⟨hde, hed⟩
    rcases le_total d.base.toNat e.base.toNat with hle | hle
    · exact ⟨e.base, hle, hed, le_rfl, he⟩
    · exact ⟨d.base, le_rfl, hd, hle, hde⟩
  · rintro ⟨b, hdb, hbd, heb, hbe⟩
    exact ⟨hdb.trans hbe, heb.trans hbd⟩

/-- An entry meets an aligned journal area where some byte of the area lies in one of the entry's blocks (R110). -/
theorem DomainEntry.meetsArea_iff {d : DomainEntry} {c : GroupConfig} (hd : d.base.toNat ≤ d.limit.toNat)
    (hc : c.base.toNat % 128 = 0) :
    d.meetsArea c = true ↔ c.slots ≠ 0 ∧ ∃ byte : Nat, c.base.toNat ≤ byte ∧ byte < c.base.toNat + 128 * c.slots
      ∧ d.base.toNat ≤ byte / 64 ∧ byte / 64 ≤ d.limit.toNat := by
  simp only [DomainEntry.meetsArea, Bool.and_eq_true, decide_eq_true_eq]
  constructor
  · rintro ⟨⟨hslots, hstart⟩, hstop⟩
    rcases le_total (c.base.toNat / 64) d.base.toNat with hle | hle
    · exact ⟨hslots, 64 * d.base.toNat, by omega, by omega, by omega, by omega⟩
    · exact ⟨hslots, c.base.toNat, le_rfl, by omega, by omega, hstop⟩
  · rintro ⟨hslots, byte, hfrom, hto, hdb, hbd⟩
    exact ⟨⟨hslots, by omega⟩, by omega⟩

/-- Settles O58: the decision of ACTIVATE_MAP by the pending flag, validation and the groups. -/
theorem mapActivationFollowsTheGroups : Obligations.MapActivationFollowsTheGroups := by
  refine ⟨fun s h => ⟨_, State.exec_activateMap_of_awaits h, State.decideAs_activateMap_of_pending,
      fun _ => State.failsValidation_of_not_sound, fun i st y hpending hfails => ?_, fun hpending hsound => ?_⟩,
    fun s => ⟨fun hpending hquiet => ⟨_, if_pos ⟨hpending, hquiet⟩, rfl, rfl, ?_, fun n hn => ?_⟩,
      exec_mapActivationComplete_of_not_ready⟩,
    fun d e => DomainEntry.meets_iff, fun d c => DomainEntry.meetsArea_iff, fun s h => ?_⟩
  · obtain ⟨f, hfault, hresponse⟩ := (s.failsValidation_iff_validation i st y).1 hfails
    rw [State.decideAs_activateMap_of_fault hpending hfault, hresponse]
  · have hvalid := (s.validation_eq_none_iff).2 hsound
    exact ⟨State.decideAs_activateMap_of_quiet hpending hvalid, State.decideAs_activateMap_of_busy hpending hvalid⟩
  · rw [State.isLatched, State.latch, BitVec.getLsbD_or]
    exact Bool.or_eq_true_iff.2 (.inr rfl)
  · rw [State.latch, BitVec.getLsbD_or, Cause.mapActivated_flag_getLsbD hn, Bool.or_false]
  · rw [State.exec_cancelMap_of_awaits h, State.decideAs_cancelMap]

end Sys2Proof.Machine
end

section
/-! The resets, the clearing commands and the rows of the table that decide a held request (R17, R20, R22, R130, R170, R172, R179). -/

namespace Sys2Proof.Machine

/-! ### The rows that decide a held request (R172) -/

/-- The row of the table is one that takes the decision. -/
def decides (c : Instr) : Decision → Bool :=
  match c with
  | .read => fun d => match d with
    | .read _ _ _ => true
    | _ => false
  | .domainShadowWrite => fun d => match d with
    | .write (.domainShadow _) _ => true
    | _ => false
  | .journalAreaWrite => fun d => match d with
    | .write (.groupConfig _) w => w.touchesArea
    | _ => false
  | .participantSetWrite => fun d => match d with
    | .write (.groupConfig _) w => w.touchesSet
    | _ => false
  | .policyWrite => fun d => match d with
    | .write (.groupConfig _) w => w.touchesPolicy || !(w.touchesArea || w.touchesSet)
    | _ => false
  | .triggerConfigWrite => fun d => match d with
    | .write (.triggerConfig _) _ => true
    | _ => false
  | .alertMaskWrite => fun d => match d with
    | .write .alert _ => true
    | _ => false
  | .activateMap => fun d => match d with
    | .activateMap => true
    | _ => false
  | .cancelMap => fun d => match d with
    | .cancelMap => true
    | _ => false
  | .format => fun d => match d with
    | .format _ => true
    | _ => false
  | .recover => fun d => match d with
    | .recover _ => true
    | _ => false
  | .forceAbort => fun d => match d with
    | .forceAbort _ => true
    | _ => false
  | .clearFault => fun d => match d with
    | .clearFault _ => true
    | _ => false
  | .clearRefusal => fun d => match d with
    | .clearRefusal _ => true
    | _ => false
  | .clearAlerts => fun d => match d with
    | .clearAlerts _ => true
    | _ => false
  | .clearStats => fun d => match d with
    | .clearStats _ => true
    | _ => false
  | .softReset => fun d => match d with
    | .softReset => true
    | _ => false
  | .refusedRequest => fun d => match d with
    | .refuse _ => true
    | .zeroWrite => true
    | _ => false
  | _ => fun _ => false

/-- A row that takes the awaited decision carries it out at the next event. -/
theorem exec_of_awaits {c : Instr} {s : State} {d : Decision} (h : s.awaits d) (hrow : decides c d = true) :
    exec c s = .next (s.tick.decideAs d) := by
  cases c with
  | read | domainShadowWrite | journalAreaWrite | participantSetWrite | policyWrite | triggerConfigWrite | alertMaskWrite
  | activateMap | cancelMap | format | recover | forceAbort | clearFault | clearRefusal | clearAlerts | clearStats
  | softReset | refusedRequest =>
    rw [exec]
    exact State.decideRow_of_awaits h hrow
  | _ => cases hrow

/-- Some row takes each decision. -/
theorem exists_row_decides (d : Decision) : ∃ c ∈ decisionRows, decides c d = true := by
  cases d with
  | write o w =>
    cases o with
    | domainShadow i => exact ⟨.domainShadowWrite, by decide, rfl⟩
    | groupConfig g =>
      cases harea : w.touchesArea with
      | true => exact ⟨.journalAreaWrite, by decide, harea⟩
      | false =>
        cases hset : w.touchesSet with
        | true => exact ⟨.participantSetWrite, by decide, hset⟩
        | false => exact ⟨.policyWrite, by decide, by simp [decides, harea, hset]⟩
    | triggerConfig n => exact ⟨.triggerConfigWrite, by decide, rfl⟩
    | alert => exact ⟨.alertMaskWrite, by decide, rfl⟩
  | refuse | zeroWrite => exact ⟨.refusedRequest, by decide, rfl⟩
  | read => exact ⟨.read, by decide, rfl⟩
  | activateMap => exact ⟨.activateMap, by decide, rfl⟩
  | cancelMap => exact ⟨.cancelMap, by decide, rfl⟩
  | format => exact ⟨.format, by decide, rfl⟩
  | recover => exact ⟨.recover, by decide, rfl⟩
  | forceAbort => exact ⟨.forceAbort, by decide, rfl⟩
  | clearFault => exact ⟨.clearFault, by decide, rfl⟩
  | clearRefusal => exact ⟨.clearRefusal, by decide, rfl⟩
  | clearAlerts => exact ⟨.clearAlerts, by decide, rfl⟩
  | clearStats => exact ⟨.clearStats, by decide, rfl⟩
  | softReset => exact ⟨.softReset, by decide, rfl⟩

/-! ### The clearing commands (R17, R20, R130, R170) -/

theorem State.decideAs_clearFault (s : State) (g : GroupId) : s.tick.decideAs (.clearFault g) =
    if (s.group g).state = .faulted then
      { s.answeredWith .ok with groups := s.groups.set g { s.group g with state := .unverified } }
    else s.answeredWith .state := by
  rw [State.decideAs, State.carryOut, State.clearFault]
  by_cases hfaulted : (s.group g).state = .faulted
  · rw [if_pos hfaulted, if_pos (show (s.tick.group g).state = .faulted from hfaulted)]
    rfl
  · rw [if_neg hfaulted, if_neg (show ¬ (s.tick.group g).state = .faulted from hfaulted)]
    rfl

/-- No command but those named clears a cause (R170). -/
theorem exec_keeps_latched {c : Instr} {s t : State} {x : Cause} (hexec : exec c s = .next t) (hc : clearsCauses c = false)
    (hx : s.isLatched x = true) : t.isLatched x = true := by
  obtain ⟨u, hu, hframe⟩ := exec_frame c s
  cases hu.symm.trans hexec
  exact hframe.latched hc x.bit hx

/-- Settles O59: each clearing command is its row's decision, and every command but those named keeps the causes. -/
theorem clearingClearsItsPartAlone : Obligations.ClearingClearsItsPartAlone := by
  refine ⟨fun s g h => ?_, fun s p h => exec_of_awaits h rfl, fun s g h => exec_of_awaits h rfl,
    fun s set h => exec_of_awaits h rfl, fun c s t x => exec_keeps_latched⟩
  rw [exec_of_awaits (c := .clearFault) h rfl, State.decideAs_clearFault]

/-! ### SOFT_RESET (R23, R179) -/

theorem exec_softResetResponse_of_resetting {s : State} (h : s.mgmt.resetting = true) :
    exec .softResetResponse s = .next (s.modMgmt Mgmt.softResetDone) := if_pos h

theorem exec_softResetResponse_of_not_resetting {s : State} (h : s.mgmt.resetting = false) :
    exec .softResetResponse s = .next s := if_neg (Bool.eq_false_iff.1 h)

theorem Mgmt.responded_none {m : Mgmt} (h : ∀ x, m.held = some x → x.response = none) : m.responded none = m := by
  obtain ⟨held, resetting⟩ := m
  cases held with
  | none => rfl
  | some x =>
    obtain ⟨bytes, cfgEn, response⟩ := x
    obtain rfl : response = none := h _ rfl
    rfl

theorem State.awaits.response_eq_none {s : State} {d : Decision} (h : s.awaits d) :
    ∀ x, s.mgmt.held = some x → x.response = none := by
  obtain ⟨-, request, hheld, hresponse, -⟩ := h
  intro x hx
  cases hheld.symm.trans hx
  exact hresponse

theorem State.decideAs_softReset {s : State} (h : s.awaits .softReset) :
    s.tick.decideAs .softReset = s.tick.softReset := by
  have hmgmt : (s.tick.softReset).mgmt.responded none = s.tick.softReset.mgmt := Mgmt.responded_none h.response_eq_none
  change { s.tick.softReset with mgmt := s.tick.softReset.mgmt.responded none } = _
  rw [hmgmt]

@[simp] theorem State.softReset_port (s : State) (p : PortId) : s.softReset.port p = (s.port p).softReset := Four.get_map ..

theorem State.softReset_places (s : State) (i : PlaceId) :
    s.softReset.mem.places[i] = s.mem.places[i].map (fun x => { x with orphan := .bySoftReset }) := by
  change (s.mem.places.map (fun o => o.map Txn.softReset))[i] = _
  rw [Fin.getElem_fin, Vector.getElem_map]
  rfl

@[simp] theorem State.reset_group (g : GroupId) : State.reset.group g = Group.reset := Four.get_const ..

/-- Settles O60: the state after a SOFT_RESET, field by field, and its response at the next event of the port. -/
theorem softResetKeepsConfigurations : Obligations.SoftResetKeepsConfigurations := by
  refine ⟨fun s h => ⟨s.tick.softReset, ?_, fun g => ?_, rfl, fun p => ?_, rfl, fun n => ?_, rfl, rfl, rfl, fun i => ?_,
    rfl, rfl⟩, fun s => exec_softResetResponse_of_resetting, fun s => exec_softResetResponse_of_not_resetting⟩
  · rw [exec_of_awaits (c := .softReset) h rfl, State.decideAs_softReset h]
  · rw [State.softReset_group, State.reset_group]
    exact ⟨rfl, rfl, fun _ => rfl⟩
  · rw [State.softReset_port]
    exact ⟨rfl, rfl, rfl, rfl, rfl, rfl⟩
  · rw [State.softReset_trigger]
    rfl
  · exact State.softReset_places s.tick i

/-! ### The device reset (R22, R135, R160, R167, R169, R180) -/

@[simp] theorem State.deviceReset_port (s : State) (p : PortId) : s.deviceReset.port p = (s.port p).atReset := Four.get_map ..

@[simp] theorem State.deviceReset_trigger (s : State) (n : TrigId) : s.deviceReset.trigger n = Trigger.reset :=
  Four.get_const ..

theorem DomainMap.reset_active (i : EntryId) : DomainMap.reset.active[i] = DomainEntry.reset := by
  simp [DomainMap.reset]

theorem DomainMap.reset_shadow (i : EntryId) : DomainMap.reset.shadow[i] = DomainEntry.reset := by
  simp [DomainMap.reset]

/-- Settles O10: both commands leave the reset device. -/
theorem powerOnEmptiesTheDevice : Obligations.PowerOnEmptiesTheDevice := by
  intro c s h
  refine ⟨_, exec_powerOn_or_resetNAssert s h, rfl, fun p => ?_, rfl, fun i => ?_, fun n => ?_, rfl, rfl,
    (by decide : decide (0#21 &&& 0#21 ≠ 0#21) = false), rfl, rfl, rfl, rfl⟩
  · change (s.deviceReset.port p).queue = [] ∧ (s.deviceReset.port p).refusal = none
      ∧ (s.deviceReset.port p).refusalCount = 0 ∧ (s.deviceReset.port p).lastWrite = none
      ∧ (s.deviceReset.port p).channel = none ∧ (s.deviceReset.port p).resetPin = (s.port p).resetPin
    rw [State.deviceReset_port]
    exact ⟨rfl, rfl, rfl, rfl, rfl, rfl⟩
  · exact ⟨DomainMap.reset_active i, (DomainMap.reset_shadow i).trans (DomainMap.reset_active i).symm⟩
  · change (s.deviceReset.trigger n).action = .noAction ∧ (s.deviceReset.trigger n).mask = Four.const false
      ∧ (s.deviceReset.trigger n).count = 0 ∧ (s.deviceReset.trigger n).snapshot = none
    rw [State.deviceReset_trigger]
    exact ⟨rfl, rfl, rfl, rfl⟩

/-! ### The state after reset -/

@[simp] theorem State.reset_port (p : PortId) : State.reset.port p = Port.reset := Four.get_const ..

@[simp] theorem State.reset_trigger (n : TrigId) : State.reset.trigger n = Trigger.reset := Four.get_const ..

theorem State.reset_held : State.reset.mem.held = [] := by decide +kernel

/-- Settles O3: the reset state has no entry, no request, no participant, no valid domain and no transaction. -/
theorem resetStateIsSound : Obligations.ResetStateIsSound := by
  refine ⟨.nil, Nat.zero_le _, fun p => ?_, fun g => ?_, ⟨fun g => ?_, fun p => ?_, fun n => ?_⟩, fun p g k hg => ?_,
    State.mapLawful_of_reset rfl, fun x hx => ?_⟩
  · rw [State.reset_port]
    exact Nat.zero_le _
  · rw [State.reset_group]
    exact Nat.zero_le _
  · rw [State.reset_group]
    exact stats_reset_bounded
  · rw [State.reset_port]
    exact Nat.zero_le _
  · rw [State.reset_trigger]
    exact Nat.zero_le _
  · rw [State.reset_group, Group.reset, GroupConfig.reset, FourSet.empty, Four.get_const] at hg
    cases hg
  · rw [State.reset_held] at hx
    cases hx

/-- Settles O28: QUERY passes the channel's tests and answers its group's context. -/
theorem queryAnswersTheContext : Obligations.QueryAnswersTheContext := fun s p a g h => by
  rw [exec, execQuery, State.takeCommand_of_commands h]
  rfl

end Sys2Proof.Machine
end

section
/-! Configuration writes (R2 to R5, R107, R161, R169): which fields a write carries, what each of them becomes, and the checks of each object in their order. -/

namespace Sys2Proof.Machine

/-! ### The value of a written field -/

theorem Span.value_eq (w : Span) (off size : Nat) : w.value off size =
    if w.off ≤ off ∧ off + size ≤ w.off + w.data.length then some (fieldAt w.data (off - w.off) size) else none := by
  have hcovers : w.covers off size = decide (w.off ≤ off ∧ off + size ≤ w.off + w.data.length) := by
    rw [Bool.decide_and]
    rfl
  rw [Span.value, hcovers]
  simp only [decide_eq_true_eq]

theorem Span.valid_iff (w : Span) (off size : Nat) (range : Nat → Bool) :
    w.valid off size range = true ↔ ∀ v, w.value off size = some v → range v = true := by
  unfold Span.valid
  cases w.value off size <;> simp

theorem shadowInRange_iff (w : Span) : shadowInRange w = true ↔ shadowValues w := by
  have hgrants : (∀ k v, 3 ≤ k → k ≤ 6 → w.value k 1 = some v → v ≤ 2) ↔ (∀ v, w.value 3 1 = some v → v ≤ 2)
      ∧ (∀ v, w.value 4 1 = some v → v ≤ 2) ∧ (∀ v, w.value 5 1 = some v → v ≤ 2)
      ∧ ∀ v, w.value 6 1 = some v → v ≤ 2 := by
    constructor
    · intro h
      exact ⟨(h 3 · (by decide) (by decide)), (h 4 · (by decide) (by decide)), (h 5 · (by decide) (by decide)),
        (h 6 · (by decide) (by decide))⟩
    · rintro ⟨h3, h4, h5, h6⟩ k v hlow hhigh
      interval_cases k
      · exact h3 v
      · exact h4 v
      · exact h5 v
      · exact h6 v
  simp only [shadowInRange, shadowValues, Bool.and_eq_true, Span.valid_iff, hgrants, Bool.or_eq_true, beq_iff_eq,
    decide_eq_true_eq, and_assoc, Nat.lt_iff_le_pred (show 0 < 4 by decide), Nat.lt_iff_le_pred (show 0 < 2 ^ 30 by decide)]

theorem triggerInRange_iff (w : Span) : triggerInRange w = true ↔ triggerValues w := by
  simp only [triggerInRange, triggerValues, Bool.and_eq_true, Span.valid_iff, decide_eq_true_eq,
    Nat.lt_iff_le_pred (show 0 < 16 by decide)]

theorem configInRange_iff (w : Span) : configInRange w = true ↔ configValues w := by
  simp only [configInRange, configValues, Bool.and_eq_true, Span.valid_iff, Bool.or_eq_true, beq_iff_eq, decide_eq_true_eq,
    and_assoc, Nat.lt_iff_le_pred (show 0 < 16 by decide)]

/-! ### A write of one field changes that field (R2, R107, R161, R175) -/

theorem leNat_two (b0 b1 : Byte) : leNat [b0, b1] = b0.toNat + 256 * b1.toNat := by
  simp only [leNat]
  omega

theorem leNat_four (b0 b1 b2 b3 : Byte) :
    leNat [b0, b1, b2, b3] = b0.toNat + 256 * b1.toNat + 65536 * b2.toNat + 16777216 * b3.toNat := by
  simp only [leNat]
  omega

theorem DomainEntry.written_keeps (d : DomainEntry) (w : Span) :
    (w.value 0 1 = none → (d.written w).valid = d.valid) ∧ (w.value 1 1 = none → (d.written w).kind = d.kind)
      ∧ (w.value 2 1 = none → (d.written w).group = d.group) ∧ (w.value 8 4 = none → (d.written w).base = d.base)
      ∧ (w.value 12 4 = none → (d.written w).limit = d.limit)
      ∧ ∀ p : PortId, w.value (3 + p.val) 1 = none → (d.written w).grants.get p = d.grants.get p := by
  refine ⟨Span.pick_of_none, Span.pick_of_none, Span.pick_of_none, Span.pick_of_none, Span.pick_of_none, fun p => ?_⟩
  fin_cases p <;> exact Span.pick_of_none

theorem DomainEntry.written_byField (d : DomainEntry) : d.writtenByField := by
  refine ⟨rfl, rfl, fun k v hkv => ?_, fun g => ?_, rfl, fun p x v hxv => ?_, d.written_keeps, fun b0 b1 b2 b3 => ⟨?_, ?_⟩⟩
  · simp only [List.mem_cons, Prod.mk.injEq, List.not_mem_nil, or_false] at hkv
    rcases hkv with ⟨rfl, rfl⟩ | ⟨rfl, rfl⟩ | ⟨rfl, rfl⟩ <;> rfl
  · fin_cases g <;> rfl
  · simp only [List.mem_cons, Prod.mk.injEq, List.not_mem_nil, or_false] at hxv
    rcases hxv with ⟨rfl, rfl⟩ | ⟨rfl, rfl⟩ | ⟨rfl, rfl⟩ <;> fin_cases p <;> rfl
  · rw [← leNat_four]
    rfl
  · rw [← leNat_four]
    rfl

theorem GroupConfig.written_keeps (c : GroupConfig) (w : Span) :
    (w.value 0 8 = none → (c.written w).base = c.base) ∧ (w.value 8 4 = none → (c.written w).slots = c.slots)
      ∧ (w.value 12 1 = none → (c.written w).participants = c.participants)
      ∧ (w.value 13 1 = none → (c.written w).policy = c.policy)
      ∧ (w.value 14 1 = none → (c.written w).autoOpen = c.autoOpen)
      ∧ (w.value 16 2 = none → (c.written w).holdLimit = c.holdLimit)
      ∧ (w.value 18 2 = none → (c.written w).voteWindow = c.voteWindow)
      ∧ (w.value 20 2 = none → (c.written w).quota = c.quota) :=
  ⟨Span.pick_of_none, Span.pick_of_none, Span.pick_of_none, Span.pick_of_none, Span.pick_of_none, Span.pick_of_none,
    Span.pick_of_none, Span.pick_of_none⟩

/-- Bit k of a set's byte is member k (R175). -/
theorem setOfByte_get (v : Byte) (p : Fin 4) : (setOfByte v.toNat).get p = v.getLsbD p.val := by
  fin_cases p <;> rfl

/-- The upper bytes of the area's base do not fit the 36-bit address. -/
theorem BitVec.ofNat_leNat_eight (b0 b1 b2 b3 b4 b5 b6 b7 : Byte) :
    BitVec.ofNat 36 (leNat [b0, b1, b2, b3, b4, b5, b6, b7])
      = BitVec.ofNat 36 (b0.toNat + 256 * b1.toNat + 65536 * b2.toNat + 16777216 * b3.toNat + 4294967296 * b4.toNat) := by
  apply BitVec.eq_of_toNat_eq
  simp only [leNat, BitVec.toNat_ofNat]
  omega

theorem GroupConfig.written_byField (c : GroupConfig) : c.writtenByField := by
  refine ⟨fun b0 b1 b2 b3 b4 b5 b6 b7 => ?_, fun b0 b1 b2 b3 => ?_, fun v => ⟨setOfByte v.toNat, ?_, setOfByte_get v⟩,
    fun x v hxv => ?_, c.written_keeps, rfl, rfl, fun b0 b1 => ?_⟩
  · rw [← BitVec.ofNat_leNat_eight (b5 := b5) (b6 := b6) (b7 := b7)]
    rfl
  · rw [← leNat_four]
    rfl
  · rfl
  · simp only [List.mem_cons, Prod.mk.injEq, List.not_mem_nil, or_false] at hxv
    rcases hxv with ⟨rfl, rfl⟩ | ⟨rfl, rfl⟩ | ⟨rfl, rfl⟩ <;> rfl
  · rw [← leNat_two]
    exact ⟨rfl, rfl, rfl⟩

theorem Trigger.written_byField (x : Trigger) : x.writtenByField := by
  refine ⟨fun a v hav => ?_, fun w => ⟨Span.pick_of_none, Span.pick_of_none, rfl, rfl, rfl⟩,
    fun v => ⟨setOfByte v.toNat, ?_, setOfByte_get v⟩⟩
  · simp only [List.mem_cons, Prod.mk.injEq, List.not_mem_nil, or_false] at hav
    rcases hav with ⟨rfl, rfl⟩ | ⟨rfl, rfl⟩ | ⟨rfl, rfl⟩ <;> rfl
  · rfl

/-! ### Shadow entries, trigger configurations and the alert mask (R107, R161, R169) -/

theorem State.decideAs_write_domainShadow (s : State) (i : EntryId) (w : Span) :
    s.tick.decideAs (.write (.domainShadow i) w) = if shadowInRange w = false then s.answeredWith .range
      else if s.map.pending = true then s.answeredWith .mapPending
      else { s.answeredWith .ok with map := { s.map with shadow := s.map.shadow.set i (s.map.shadow[i].written w) } } := by
  rw [State.decideAs, State.carryOut, State.writeObject, State.writeShadow]
  split
  next => rfl
  next =>
    by_cases hpending : s.map.pending = true
    · rw [if_pos (show s.tick.map.pending = true from hpending), if_pos hpending]
      rfl
    · rw [if_neg (show ¬ s.tick.map.pending = true from hpending), if_neg hpending]
      rfl

theorem State.decideAs_write_triggerConfig (s : State) (n : TrigId) (w : Span) :
    s.tick.decideAs (.write (.triggerConfig n) w) = if triggerInRange w = false then s.answeredWith .range
      else { s.answeredWith .ok with triggers := s.triggers.set n ((s.trigger n).written w) } := by
  rw [State.decideAs, State.carryOut, State.writeObject, State.writeTrigger]
  cases triggerInRange w <;> rfl

theorem State.decideAs_write_alert_of_refused {s : State} {w : Span} (h : maskInRange w = false) :
    s.tick.decideAs (.write .alert w) = s.answeredWith .range := by
  rw [State.decideAs, State.carryOut, State.writeObject, State.writeMask, h]
  rfl

theorem State.decideAs_write_alert_of_taken {s : State} {w : Span} (h : maskInRange w = true) :
    s.tick.decideAs (.write .alert w) = { s.answeredWith .ok with
      alerts := { s.alerts with mask := w.pick 4 3 s.alerts.mask (BitVec.ofNat 21) } } := by
  rw [State.decideAs, State.carryOut, State.writeObject, State.writeMask, h]
  rfl

theorem maskInRange_of_value {w : Span} {v : Nat} (h : w.value 4 3 = some v) : maskInRange w = decide (v < 2 ^ 21) := by
  rw [maskInRange, Span.valid, h]

theorem maskInRange_of_no_value {w : Span} (h : w.value 4 3 = none) : maskInRange w = true := by
  rw [maskInRange, Span.valid, h]

/-! ### The ALERT line (R169) -/

theorem Cause.bit_lt (c : Cause) : c.bit < 21 := by
  cases c <;> simp only [Cause.bit] <;> omega

theorem Cause.exists_bit {n : Nat} (h : n < 21) : ∃ c : Cause, c.bit = n := by
  rcases Nat.lt_or_ge n 4 with h4 | h4
  · exact ⟨.fault ⟨n, h4⟩, rfl⟩
  rcases Nat.lt_or_ge n 8 with h8 | h8
  · exact ⟨.autoRollback ⟨n - 4, by omega⟩, Nat.add_sub_of_le h4⟩
  rcases Nat.lt_or_ge n 12 with h12 | h12
  · exact ⟨.recoveryDone ⟨n - 8, by omega⟩, Nat.add_sub_of_le h8⟩
  rcases Nat.lt_or_ge n 16 with h16 | h16
  · exact ⟨.refusal ⟨n - 12, by omega⟩, Nat.add_sub_of_le h12⟩
  rcases Nat.lt_or_ge n 20 with h20 | h20
  · exact ⟨.trigger ⟨n - 16, by omega⟩, Nat.add_sub_of_le h16⟩
  · exact ⟨.mapActivated, by simp only [Cause.bit]; omega⟩

theorem State.alertLine_iff (s : State) :
    s.alertLine = true ↔ ∃ c : Cause, s.isLatched c = true ∧ s.alerts.mask.getLsbD c.bit = true := by
  simp only [State.alertLine, decide_eq_true_eq, State.isLatched]
  constructor
  · intro hline
    by_contra hnone
    refine hline (BitVec.eq_of_getLsbD_eq fun n hn => ?_)
    obtain ⟨c, rfl⟩ := Cause.exists_bit hn
    rw [BitVec.getLsbD_and, BitVec.getLsbD_zero]
    by_contra hbit
    exact hnone ⟨c, Bool.and_eq_true_iff.1 (Bool.not_eq_false _ ▸ hbit)⟩
  · rintro ⟨c, hlatched, hmask⟩ hzero
    have hbit := congrArg (fun x => x.getLsbD c.bit) hzero
    simp [BitVec.getLsbD_and, hlatched, hmask] at hbit

/-- Settles O56: each row's decision, the ranges and the fields of each object, and the ALERT line. -/
theorem writesChangeTheirObject : Obligations.WritesChangeTheirObject := by
  refine ⟨fun s i w h => ?_, fun s n w h => ?_,
    fun s w h => ⟨_, exec_of_awaits (c := .alertMaskWrite) h rfl, fun v hv hrange => ?_, fun v hv hrange => ?_, fun hv => ?_⟩,
    fun w => ⟨shadowInRange_iff w, triggerInRange_iff w, w.value_eq⟩,
    DomainEntry.written_byField, Trigger.written_byField, State.alertLine_iff⟩
  · rw [exec_of_awaits (c := .domainShadowWrite) h rfl, State.decideAs_write_domainShadow]
  · rw [exec_of_awaits (c := .triggerConfigWrite) h rfl, State.decideAs_write_triggerConfig]
  · exact State.decideAs_write_alert_of_refused ((maskInRange_of_value hv).trans (decide_eq_false hrange.not_gt))
  · rw [State.decideAs_write_alert_of_taken ((maskInRange_of_value hv).trans (decide_eq_true hrange)),
      Span.pick_of_some hv]
  · rw [State.decideAs_write_alert_of_taken (maskInRange_of_no_value hv), Span.pick_of_none hv]
    rfl

/-! ### The checks of a GROUP_CONFIG write (R2) -/

theorem GroupConfig.areaFits_iff (c : GroupConfig) :
    c.areaFits = true ↔ c.slots = 0 ∨ c.base.toNat + 128 * c.slots ≤ 2 ^ 36 := by
  simp [GroupConfig.areaFits]

theorem GroupState.configurable_iff (st : GroupState) :
    st.configurable = true ↔ st ∈ [GroupState.disabled, .unverified, .closed] := by
  cases st <;> decide

theorem mem_othersOf {g k : GroupId} : k ∈ othersOf g ↔ k ≠ g := by
  simp [othersOf, mem_fourIds]

theorem State.setConflict_iff (s : State) (g : GroupId) (new : FourSet) :
    s.setConflict g new = true ↔ ∃ (p : PortId) (k : GroupId), k ≠ g ∧ new.get p = true
      ∧ (s.group g).config.participants.get p = false ∧ (s.group k).config.participants.get p = true := by
  simp only [State.setConflict, State.takenElsewhere, List.any_eq_true, mem_fourIds, mem_othersOf, true_and,
    Bool.and_eq_true, Bool.not_eq_true']
  constructor
  · rintro ⟨p, ⟨hnew, hold⟩, k, hk, htaken⟩
    exact ⟨p, k, hk, hnew, hold, htaken⟩
  · rintro ⟨p, k, hk, hnew, hold, htaken⟩
    exact ⟨p, ⟨hnew, hold⟩, k, hk, htaken⟩

theorem State.areaConflict_iff (s : State) (g : GroupId) (w : Span) :
    s.areaConflict g w = true ↔ w.value 8 4 = some 0 ∧ ∃ i : EntryId, s.map.active[i].valid = true
      ∧ s.map.active[i].kind = .journaled ∧ s.map.active[i].group = some g := by
  rw [State.areaConflict, Bool.and_eq_true, s.namedByMap_eq_true_iff, beq_iff_eq]

theorem State.areaOverlaps_iff (s : State) (g : GroupId) (c : GroupConfig) :
    s.areaOverlaps g c = true ↔ c.slots ≠ 0
      ∧ ((∃ i : EntryId, s.map.active[i].valid = true ∧ s.map.active[i].meetsArea c = true)
        ∨ ∃ k : GroupId, k ≠ g ∧ (s.group k).config.slots ≠ 0
          ∧ c.base.toNat < (s.group k).config.base.toNat + 128 * (s.group k).config.slots
          ∧ (s.group k).config.base.toNat < c.base.toNat + 128 * c.slots) := by
  simp only [State.areaOverlaps, Bool.or_eq_true, List.any_eq_true, mem_entryIds, mem_othersOf, true_and, Bool.and_eq_true,
    GroupConfig.areasMeet, decide_eq_true_eq]
  constructor
  · rintro (⟨i, hvalid, hmeets⟩ | ⟨k, hk, ⟨⟨hslots, henabled⟩, hbelow⟩, habove⟩)
    · refine ⟨fun hzero => ?_, .inl ⟨i, hvalid, hmeets⟩⟩
      simp [DomainEntry.meetsArea, hzero] at hmeets
    · exact ⟨hslots, .inr ⟨k, hk, henabled, hbelow, habove⟩⟩
  · rintro ⟨hslots, ⟨i, hvalid, hmeets⟩ | ⟨k, hk, henabled, hbelow, habove⟩⟩
    · exact .inl ⟨i, hvalid, hmeets⟩
    · exact .inr ⟨k, hk, ⟨⟨hslots, henabled⟩, hbelow⟩, habove⟩

section
variable {s : State} {g : GroupId} {w : Span}

/-- The write passes check 1 of R2: its values are in range and its area fits. -/
def State.passesRange (s : State) (g : GroupId) (w : Span) : Prop :=
  configInRange w = true ∧ (w.touchesArea = true → ((s.group g).config.written w).areaFits = true)

/-- The write passes check 2 of R2: the group's state lets the area and the set be written. -/
def State.passesState (s : State) (g : GroupId) (w : Span) : Prop :=
  (w.touchesArea || w.touchesSet) = true → (s.group g).state.configurable = true

/-- The write passes check 3 of R2: no activation is pending when it changes the area. -/
def State.passesPending (s : State) (w : Span) : Prop := w.touchesArea = true → s.map.pending = false

/-- The write passes check 4 of R2. -/
def State.passesConflict (s : State) (g : GroupId) (w : Span) : Prop :=
  (w.touchesSet = true → s.setConflict g ((s.group g).config.written w).participants = false)
    ∧ s.areaConflict g w = false

/-- The write passes check 5 of R2. -/
def State.passesOverlap (s : State) (g : GroupId) (w : Span) : Prop :=
  w.touchesArea = true → s.areaOverlaps g ((s.group g).config.written w) = false

/-- The first check that a write fails answers it (R2). -/
theorem State.configFault_order (s : State) (g : GroupId) (w : Span) :
    (¬ s.passesRange g w → s.configFault g w = some .range)
      ∧ (s.passesRange g w → (¬ s.passesState g w → s.configFault g w = some .state)
        ∧ (s.passesState g w → (¬ s.passesPending w → s.configFault g w = some .mapPending)
          ∧ (s.passesPending w → (¬ s.passesConflict g w → s.configFault g w = some .conflict)
            ∧ (s.passesConflict g w → (¬ s.passesOverlap g w → s.configFault g w = some .overlap)
              ∧ (s.passesOverlap g w → s.configFault g w = none))))) := by
  unfold State.configFault State.passesRange State.passesState State.passesPending State.passesConflict State.passesOverlap
  grind

end

theorem State.decideAs_write_groupConfig_of_fault {s : State} {g : GroupId} {w : Span} {st : Status}
    (h : s.configFault g w = some st) : s.tick.decideAs (.write (.groupConfig g) w) = s.answeredWith st := by
  refine State.decideAs_of_refusal ?_
  rw [State.carryOut, State.writeObject, State.writeConfig, show s.tick.configFault g w = some st from h]
  rfl

theorem State.decideAs_write_groupConfig_of_taken {s : State} {g : GroupId} {w : Span} (h : s.configFault g w = none) :
    s.tick.decideAs (.write (.groupConfig g) w)
      = { s.answeredWith .ok with groups := s.groups.set g ((s.group g).configured w) } := by
  rw [State.decideAs, State.carryOut, State.writeObject, State.writeConfig, show s.tick.configFault g w = none from h]
  rfl

/-- A row that names one of the write's fields takes it whole (R3, R4, R5). -/
theorem decides_write_groupConfig {c : Instr} {g : GroupId} {w : Span}
    (h : (c = .journalAreaWrite ∧ w.touchesArea = true) ∨ (c = .participantSetWrite ∧ w.touchesSet = true)
      ∨ (c = .policyWrite ∧ w.touchesPolicy = true)) : decides c (.write (.groupConfig g) w) = true := by
  rcases h with ⟨rfl, htouches⟩ | ⟨rfl, htouches⟩ | ⟨rfl, htouches⟩
  · exact htouches
  · exact htouches
  · exact Bool.or_eq_true_iff.2 (.inl htouches)

/-- Settles O57: each check of R2 in the words of the statement, in their order. -/
theorem groupConfigChecksComeInOrder : Obligations.GroupConfigChecksComeInOrder := by
  refine ⟨configInRange_iff, GroupConfig.written_byField, fun s g w c new h hrow hnew =>
    ⟨_, exec_of_awaits h (decides_write_groupConfig hrow), ?_⟩⟩
  subst hnew
  obtain ⟨hrange, horder⟩ := s.configFault_order g w
  refine ⟨fun hfails => State.decideAs_write_groupConfig_of_fault (hrange ?_), fun hvalues hfits => ?_⟩
  · rintro ⟨hvalues, hfits⟩
    rcases hfails with hno | ⟨harea, hslots, hbeyond⟩
    · cases hno.symm.trans hvalues
    · rcases (GroupConfig.areaFits_iff _).1 (hfits harea) with hzero | hwithin
      · exact hslots hzero
      · exact hbeyond.not_ge hwithin
  obtain ⟨hstate, horder⟩ := horder ⟨hvalues, fun harea => (GroupConfig.areaFits_iff _).2 (hfits harea)⟩
  refine ⟨fun htouches hbusy => State.decideAs_write_groupConfig_of_fault (hstate fun hpass =>
    hbusy ((GroupState.configurable_iff _).1 (hpass (Bool.or_eq_true_iff.2 htouches)))), fun hquiet => ?_⟩
  have hpassesState : s.passesState g w := fun htouches => by
    rcases hquiet with ⟨harea, hset⟩ | hmem
    · rw [harea, hset] at htouches
      cases htouches
    · exact (GroupState.configurable_iff _).2 hmem
  obtain ⟨hpending, horder⟩ := horder hpassesState
  refine ⟨fun harea hbusy => State.decideAs_write_groupConfig_of_fault (hpending fun hpass => by
    cases hbusy.symm.trans (hpass harea)), fun hfree => ?_⟩
  obtain ⟨hconflict, horder⟩ := horder fun harea => hfree.resolve_left fun hno => by cases hno.symm.trans harea
  refine ⟨fun htaken => State.decideAs_write_groupConfig_of_fault (hconflict ?_), fun hset harea => ?_⟩
  · rintro ⟨hsets, hareas⟩
    rcases htaken with ⟨htouches, hport⟩ | hnamed
    · exact Bool.false_ne_true ((hsets htouches).symm.trans ((s.setConflict_iff g _).2 hport))
    · exact Bool.false_ne_true (hareas.symm.trans ((s.areaConflict_iff g w).2 hnamed))
  have hpassesConflict : s.passesConflict g w := by
    refine ⟨fun htouches => Bool.eq_false_iff.2 fun htaken => ?_, Bool.eq_false_iff.2 fun hnamed => ?_⟩
    · obtain ⟨p, k, hk, hnew, hold, hother⟩ := (s.setConflict_iff g _).1 htaken
      cases hother.symm.trans (hset htouches p k hk hnew hold)
    · obtain ⟨hzero, i, hvalid, hkind, hgroup⟩ := (s.areaConflict_iff g w).1 hnamed
      exact harea hzero i hvalid hkind hgroup
  obtain ⟨hoverlap, htaken⟩ := horder hpassesConflict
  refine ⟨fun htouches hslots hmeets => State.decideAs_write_groupConfig_of_fault (hoverlap fun hpass =>
    Bool.false_ne_true ((hpass htouches).symm.trans ((s.areaOverlaps_iff g _).2 ⟨hslots, hmeets⟩))), fun hclear => ?_⟩
  have hpassesOverlap : s.passesOverlap g w := fun htouches => Bool.eq_false_iff.2 fun hmeets => by
    obtain ⟨hslots, hmeets⟩ := (s.areaOverlaps_iff g _).1 hmeets
    obtain ⟨hentries, hgroups⟩ := hclear htouches hslots
    rcases hmeets with ⟨i, hvalid, hmeets⟩ | ⟨k, hk, henabled, hbelow, habove⟩
    · cases hmeets.symm.trans (hentries i hvalid)
    · rcases hgroups k hk henabled with hle | hle
      · exact hbelow.not_ge hle
      · exact habove.not_ge hle
  rw [State.decideAs_write_groupConfig_of_taken (htaken hpassesOverlap)]
  exact ⟨rfl, fun k hk => Four.get_set_ne _ _ hk, Four.get_set_self ..⟩

end Sys2Proof.Machine
end

section
/-! The frames of the management port (R171 to R173, R179, R180): the checks of a request in their order, the taking of a frame, and the bytes that a FETCH gives. -/

namespace Sys2Proof.Machine

/-! ### Checks 1 to 3 (R172) -/

theorem frameShape_iff (bytes : List Byte) : frameShape bytes = true ↔ 6 ≤ bytes.length ∧ (byteAt bytes 4).toNat ≤ 64
    ∧ bytes.length = if byteAt bytes 0 = 1#8 then 6 else 6 + (byteAt bytes 4).toNat := by
  simp only [frameShape, Bool.and_eq_true, decide_eq_true_eq, and_assoc]
  rfl

theorem frameSummed_iff (bytes : List Byte) :
    frameSummed bytes = true ↔ bytes.getLast? = some (~~~ (bytes.dropLast.foldl (· + ·) 0#8)) := beq_iff_eq

theorem decideFrame_of_misshapen {bytes : List Byte} (en : Bool) (h : ¬ frameShape bytes = true) :
    decideFrame bytes en = .refuse .badFrame := if_pos (Bool.not_eq_true _ ▸ h)

theorem decideFrame_of_missummed {bytes : List Byte} (en : Bool) (hshape : frameShape bytes = true)
    (h : ¬ frameSummed bytes = true) : decideFrame bytes en = .refuse .badChecksum := by
  unfold decideFrame
  rw [if_neg (by rw [hshape]; decide), if_pos (Bool.not_eq_true _ ▸ h)]

/-- The frame passes checks 1 and 2 of R172. -/
def frameSound (bytes : List Byte) : Prop := frameShape bytes = true ∧ frameSummed bytes = true

section
variable {bytes : List Byte}

theorem decideFrame_of_sound (en : Bool) (h : frameSound bytes) : decideFrame bytes en = decideCommand bytes en := by
  obtain ⟨hshape, hsummed⟩ := h
  unfold decideFrame
  rw [hshape, hsummed]
  rfl

theorem decideFrame_of_no_command (en : Bool) (h : frameSound bytes) (hb : Command.ofByte (byteAt bytes 0) = none) :
    decideFrame bytes en = .refuse .unknown := by
  rw [decideFrame_of_sound en h]
  unfold decideCommand
  rw [hb]

theorem decideFrame_of_read (en : Bool) (h : frameSound bytes) (hb : byteAt bytes 0 = 0x01#8) :
    decideFrame bytes en = decideRead bytes := by
  rw [decideFrame_of_sound en h]
  unfold decideCommand
  rw [hb]
  rfl

theorem decideFrame_of_write (en : Bool) (h : frameSound bytes) (hb : byteAt bytes 0 = 0x02#8) :
    decideFrame bytes en = decideWrite bytes en := by
  rw [decideFrame_of_sound en h]
  unfold decideCommand
  rw [hb]
  rfl

theorem Command.ofByte_eq_none {b : Byte} (h : b ∉ [0x01#8, 0x02#8, 0x10#8, 0x11#8, 0x20#8, 0x21#8, 0x22#8, 0x23#8, 0x30#8,
    0x31#8, 0x32#8, 0x3F#8]) : Command.ofByte b = none := by
  simp only [List.mem_cons, List.not_mem_nil, or_false, not_or] at h
  simp only [Command.ofByte, h, if_false]

/-! ### The commands other than READ and WRITE (R172, checks 4 to 6; R174) -/

/-- The byte names the command, which is neither READ nor WRITE (R171). -/
def Command.named (c : Command) (b : Byte) : Prop := Command.ofByte b = some c ∧ c ≠ .read ∧ c ≠ .write

theorem decideFrame_of_named (en : Bool) (h : frameSound bytes) {c : Command} (hc : c.named (byteAt bytes 0)) :
    decideFrame bytes en = decideOther c bytes en := by
  obtain ⟨hbyte, hread, hwrite⟩ := hc
  rw [decideFrame_of_sound en h]
  unfold decideCommand
  rw [hbyte]
  cases c with
  | read => exact absurd rfl hread
  | write => exact absurd rfl hwrite
  | _ => rfl

theorem exists_named {b : Byte} (h : b ∈ [0x10#8, 0x11#8, 0x20#8, 0x21#8, 0x22#8, 0x23#8, 0x30#8, 0x31#8, 0x32#8, 0x3F#8]) :
    ∃ c : Command, c.named b ∧ c.dataLength = if b = 0x31#8 then 3 else 0 := by
  simp only [List.mem_cons, List.not_mem_nil, or_false] at h
  rcases h with rfl | rfl | rfl | rfl | rfl | rfl | rfl | rfl | rfl | rfl <;>
    exact ⟨_, ⟨rfl, nofun, nofun⟩, rfl⟩

theorem exists_named_needsCfg {b : Byte} (h : b ∈ [0x10#8, 0x20#8, 0x3F#8]) :
    ∃ c : Command, c.named b ∧ c.dataLength = 0 ∧ c.needsCfg = true := by
  simp only [List.mem_cons, List.not_mem_nil, or_false] at h
  rcases h with rfl | rfl | rfl <;> exact ⟨_, ⟨rfl, nofun, nofun⟩, rfl, rfl⟩

/-- The commands whose argument is a group or a port, with what they come to (R171, R177). -/
def indexCommands : List (Byte × (Fin 4 → Decision)) :=
  [(0x20#8, .format), (0x21#8, .recover), (0x22#8, .forceAbort), (0x23#8, .clearFault), (0x30#8, .clearRefusal),
    (0x32#8, .clearStats)]

theorem exists_named_index {b : Byte} {d : Fin 4 → Decision} (h : (b, d) ∈ indexCommands) :
    ∃ c : Command, c.named b ∧ c.dataLength = 0 ∧ (c.needsCfg = true → b = 0x20#8)
      ∧ ∀ arg data, c.operation arg data = withIndex arg d := by
  simp only [indexCommands, List.mem_cons, Prod.mk.injEq, List.not_mem_nil, or_false] at h
  rcases h with ⟨rfl, rfl⟩ | ⟨rfl, rfl⟩ | ⟨rfl, rfl⟩ | ⟨rfl, rfl⟩ | ⟨rfl, rfl⟩ | ⟨rfl, rfl⟩ <;>
    exact ⟨_, ⟨rfl, nofun, nofun⟩, rfl, by decide, fun _ _ => rfl⟩

theorem exists_indexCommand {b : Byte} (h : b ∈ [0x20#8, 0x21#8, 0x22#8, 0x23#8, 0x30#8, 0x32#8]) :
    ∃ d, (b, d) ∈ indexCommands := by
  simp only [List.mem_cons, List.not_mem_nil, or_false] at h
  rcases h with rfl | rfl | rfl | rfl | rfl | rfl
  · exact ⟨.format, by simp [indexCommands]⟩
  · exact ⟨.recover, by simp [indexCommands]⟩
  · exact ⟨.forceAbort, by simp [indexCommands]⟩
  · exact ⟨.clearFault, by simp [indexCommands]⟩
  · exact ⟨.clearRefusal, by simp [indexCommands]⟩
  · exact ⟨.clearStats, by simp [indexCommands]⟩

theorem exists_named_zero {b : Byte} {d : Decision} (h : (b, d) ∈ [(0x10#8, Decision.activateMap), (0x11#8, .cancelMap),
    (0x3F#8, .softReset)]) :
    ∃ c : Command, c.named b ∧ c.dataLength = 0 ∧ (c.needsCfg = true → b ≠ 0x11#8)
      ∧ ∀ arg data, c.operation arg data = withZero arg d := by
  simp only [List.mem_cons, Prod.mk.injEq, List.not_mem_nil, or_false] at h
  rcases h with ⟨rfl, rfl⟩ | ⟨rfl, rfl⟩ | ⟨rfl, rfl⟩ <;>
    exact ⟨_, ⟨rfl, nofun, nofun⟩, rfl, by decide, fun _ _ => rfl⟩

section
variable {c : Command} {en : Bool}

theorem decideOther_of_bad_fields (h : fieldAt bytes 2 2 ≠ 0 ∨ (byteAt bytes 4).toNat ≠ c.dataLength) :
    decideOther c bytes en = .refuse .badFrame := if_pos h

theorem decideOther_of_locked (hoff : fieldAt bytes 2 2 = 0) (hlen : (byteAt bytes 4).toNat = c.dataLength)
    (h : c.needsCfg = true) (hen : en = false) : decideOther c bytes en = .refuse .locked := by
  unfold decideOther
  rw [if_neg (not_or.2 ⟨not_not.2 hoff, not_not.2 hlen⟩ : ¬ (frameOffset bytes ≠ 0 ∨ frameLength bytes ≠ _)),
    if_pos ⟨h, hen⟩]

theorem decideOther_of_unlocked (hoff : fieldAt bytes 2 2 = 0) (hlen : (byteAt bytes 4).toNat = c.dataLength)
    (h : c.needsCfg = true → en = true) : decideOther c bytes en = c.operation (byteAt bytes 1) (frameData bytes) := by
  unfold decideOther
  rw [if_neg (not_or.2 ⟨not_not.2 hoff, not_not.2 hlen⟩ : ¬ (frameOffset bytes ≠ 0 ∨ frameLength bytes ≠ _)),
    if_neg fun ⟨hneeds, hlow⟩ => Bool.false_ne_true (hlow.symm.trans (h hneeds))]

end

theorem withIndex_of_lt {b : Byte} {d : Fin 4 → Decision} {g : Fin 4} (h : b.toNat = g.val) : withIndex b d = d g := by
  have hpair : lowPair b = g := Fin.ext (by simp only [lowPair, Fin.ofNat, h]; omega)
  unfold withIndex
  rw [if_pos (h ▸ g.isLt), hpair]

theorem withIndex_of_gt {b : Byte} {d : Fin 4 → Decision} (h : 3 < b.toNat) : withIndex b d = .refuse .range :=
  if_neg (by omega)

end

/-! ### READ and WRITE (R172, R175) -/

theorem Object.ofByte_eq_none {b : Byte} (h : ¬ ((16 ≤ b.toNat ∧ b.toNat ≤ 48) ∨ (64 ≤ b.toNat ∧ b.toNat < 76)
    ∨ (80 ≤ b.toNat ∧ b.toNat < 88) ∨ (96 ≤ b.toNat ∧ b.toNat < 104) ∨ b.toNat = 112 ∨ b.toNat = 113 ∨ b.toNat = 127)) :
    Object.ofByte b = none := by
  unfold Object.ofByte
  iterate 13 rw [if_neg (by omega)]

/-- A byte of a range names no writable object where its own object is not writable, or the byte is not of the range. -/
theorem ite_bind_writable_eq_none {c : Prop} [Decidable c] {x y : Option Object} (hx : c → x.bind Object.writable = none)
    (hy : y.bind Object.writable = none) : (if c then x else y).bind Object.writable = none := by
  by_cases h : c
  · rw [if_pos h, hx h]
  · rw [if_neg h, hy]

theorem Object.writable_ofByte_eq_none {b : Byte} (h : ¬ ((16 ≤ b.toNat ∧ b.toNat < 32) ∨ (64 ≤ b.toNat ∧ b.toNat < 68)
    ∨ (96 ≤ b.toNat ∧ b.toNat < 100) ∨ b.toNat = 112)) : (Object.ofByte b).bind Object.writable = none := by
  unfold Object.ofByte
  refine ite_bind_writable_eq_none (fun hshadow => absurd hshadow (by omega)) ?_
  iterate 2 refine ite_bind_writable_eq_none (fun _ => rfl) ?_
  refine ite_bind_writable_eq_none (fun hconfig => absurd hconfig (by omega)) ?_
  iterate 4 refine ite_bind_writable_eq_none (fun _ => rfl) ?_
  refine ite_bind_writable_eq_none (fun htrigger => absurd htrigger (by omega)) ?_
  refine ite_bind_writable_eq_none (fun _ => rfl) ?_
  refine ite_bind_writable_eq_none (fun halert => absurd halert (by omega)) ?_
  iterate 2 refine ite_bind_writable_eq_none (fun _ => rfl) ?_
  rfl

theorem decideRead_of_object {bytes : List Byte} {o : Object} (h : Object.ofByte (byteAt bytes 1) = some o) :
    decideRead bytes = if fieldAt bytes 2 2 + (byteAt bytes 4).toNat ≤ o.size then
      .read o (fieldAt bytes 2 2) (byteAt bytes 4).toNat else .refuse .range := by
  unfold decideRead
  rw [h]
  rfl

theorem decideWrite_of_object {bytes : List Byte} {o : Object} {w : Writable} (en : Bool)
    (h : Object.ofByte (byteAt bytes 1) = some o) (hw : o.writable = some w) :
    decideWrite bytes en = if en = false then .refuse .locked
      else if w.takes { off := fieldAt bytes 2 2, data := (bytes.drop 5).take (byteAt bytes 4).toNat } = false then
        .refuse .range
      else if (byteAt bytes 4).toNat = 0 then .zeroWrite
      else .write w { off := fieldAt bytes 2 2, data := (bytes.drop 5).take (byteAt bytes 4).toNat } := by
  unfold decideWrite
  rw [h, Option.bind_some, hw]
  change (if en = false then _ else
    if w.takes { off := fieldAt bytes 2 2, data := (bytes.drop 5).take (byteAt bytes 4).toNat } = true then _ else _) = _
  cases w.takes { off := fieldAt bytes 2 2, data := (bytes.drop 5).take (byteAt bytes 4).toNat } <;> rfl

theorem decideOther_clearAlerts {bytes : List Byte} (en : Bool) (hoff : fieldAt bytes 2 2 = 0)
    (hlen : (byteAt bytes 4).toNat = 3) :
    decideOther .clearAlerts bytes en = if byteAt bytes 1 = 0#8 ∧ fieldAt bytes 5 3 < 2 ^ 21 then
      .clearAlerts (BitVec.ofNat 21 (fieldAt bytes 5 3)) else .refuse .range := by
  have hdata : leNat (frameData bytes) = fieldAt bytes 5 3 := by rw [frameData, frameLength, hlen, fieldAt]
  rw [decideOther_of_unlocked (c := .clearAlerts) hoff hlen nofun]
  change (if byteAt bytes 1 = 0#8 then if leNat (frameData bytes) < 2 ^ 21 then
    Decision.clearAlerts (BitVec.ofNat 21 (leNat (frameData bytes))) else .refuse .range else .refuse .range) = _
  rw [hdata]
  by_cases harg : byteAt bytes 1 = 0#8
  · rw [if_pos harg]
    simp only [harg, true_and]
  · rw [if_neg harg, if_neg fun h => harg h.1]

theorem State.decideAs_refuse (s : State) (st : Status) : s.tick.decideAs (.refuse st) = s.answeredWith st := rfl

theorem State.decideAs_zeroWrite (s : State) : s.tick.decideAs .zeroWrite = s.answeredWith .ok := rfl

/-- Settles O53: each check in its turn, and the row that answers a refused request. -/
theorem requestChecksComeInOrder : Obligations.RequestChecksComeInOrder := by
  refine ⟨fun bytes en n hn => ?_, fun s => ⟨fun st h => exec_of_awaits h rfl, fun h => exec_of_awaits h rfl⟩⟩
  subst hn
  refine ⟨fun h => decideFrame_of_misshapen en fun hshape => ?_, fun hlong hdata hlength => ?_⟩
  · obtain ⟨hlong, hdata, hlength⟩ := (frameShape_iff bytes).1 hshape
    rcases h with hshort | hlarge | hother
    · exact hshort.not_ge hlong
    · exact hlarge.not_ge hdata
    · exact hother hlength
  have hshape := (frameShape_iff bytes).2 ⟨hlong, hdata, hlength⟩
  refine ⟨fun hsum => decideFrame_of_missummed en hshape (mt (frameSummed_iff bytes).1 hsum), fun hsum => ?_⟩
  have hsound : frameSound bytes := ⟨hshape, (frameSummed_iff bytes).2 hsum⟩
  refine ⟨fun h => decideFrame_of_no_command en hsound (Command.ofByte_eq_none h), fun h hbad => ?_, fun h hoff hlen hlow => ?_,
    fun h hoff hlen hen harg => ?_, fun d k hk hbyte hoff hlen hen g hg => ?_, fun d k hk hbyte hoff hlen hen => ?_,
    fun hbyte hoff hlen => ?_, fun m hbyte hm hno => ?_, fun o hbyte ho => ?_, fun m hbyte hm hno => ?_,
    fun o w hbyte ho hw => ?_⟩
  · obtain ⟨c, hc, hlength⟩ := exists_named h
    rw [decideFrame_of_named en hsound hc, decideOther_of_bad_fields (hlength ▸ hbad)]
  · obtain ⟨c, hc, hlength, hneeds⟩ := exists_named_needsCfg h
    rw [decideFrame_of_named en hsound hc, decideOther_of_locked hoff (hlen.trans hlength.symm) hneeds hlow]
  · obtain ⟨d, hd⟩ := exists_indexCommand h
    obtain ⟨c, hc, hlength, hneeds, hoperation⟩ := exists_named_index hd
    rw [decideFrame_of_named en hsound hc, decideOther_of_unlocked hoff (hlen.trans hlength.symm) fun hcfg =>
      hen.resolve_right (not_not.2 (hneeds hcfg)), hoperation, withIndex_of_gt harg]
  · subst hbyte
    obtain ⟨c, hc, hlength, hneeds, hoperation⟩ := exists_named_index hk
    rw [decideFrame_of_named en hsound hc, decideOther_of_unlocked hoff (hlen.trans hlength.symm) fun hcfg =>
      hen.resolve_right (not_not.2 (hneeds hcfg)), hoperation, withIndex_of_lt hg]
  · subst hbyte
    obtain ⟨c, hc, hlength, hneeds, hoperation⟩ := exists_named_zero hk
    rw [decideFrame_of_named en hsound hc, decideOther_of_unlocked hoff (hlen.trans hlength.symm) fun hcfg =>
      hen.resolve_right (hneeds hcfg), hoperation]
    rfl
  · have hc : Command.clearAlerts.named (byteAt bytes 0) := hbyte ▸ ⟨rfl, nofun, nofun⟩
    rw [decideFrame_of_named en hsound hc, decideOther_clearAlerts en hoff hlen]
  · subst hm
    rw [decideFrame_of_read en hsound hbyte]
    unfold decideRead
    rw [Object.ofByte_eq_none hno]
  · rw [decideFrame_of_read en hsound hbyte, decideRead_of_object ho]
  · subst hm
    rw [decideFrame_of_write en hsound hbyte]
    unfold decideWrite
    rw [Object.writable_ofByte_eq_none hno]
  · rw [decideFrame_of_write en hsound hbyte, decideWrite_of_object en ho hw]

/-! ### Frames in and across a reset (R171, R180) -/

theorem execRequestFrame_of_resetPin {s : State} (h : s.resetPin = true) (b : Byte) (more : List Byte) (en : Bool) :
    exec (.requestFrame (b :: more) en .whole) s = .next (s.idleOut (more.length + 1)) := if_pos h

theorem execFetch_of_resetPin {s : State} (h : s.resetPin = true) (more : List Byte) :
    exec (.fetch more .whole) s = .next (s.idleOut (more.length + 1)) := by
  rw [Nat.add_comm]
  exact if_pos h

theorem execRequestFrame_stale {b : Byte} (hb : b ≠ 0#8) (s : State) (more inReset : List Byte) (en : Bool) :
    exec (.requestFrame (b :: more) en (.stale inReset)) s = .next (s.idleOut (more.length + 1)) :=
  congrArg Host.Outcome.next (if_neg hb)

/-- The bytes of a stale FETCH frame after its first. -/
def staleTail (n draws : Nat) (inReset : List Byte) : List Byte :=
  (List.range n).map fun i => inReset.getD i 0x00#8 ||| Config.staleByte draws i

/-- Each bit clocked in reset is 1 (R171). -/
theorem staleTail_bits {n draws : Nat} {inReset : List Byte} {i : Nat} {m x : Byte} (hm : inReset[i]? = some m)
    (hx : (staleTail n draws inReset)[i]? = some x) : x &&& m = m := by
  obtain ⟨k, hk, rfl⟩ : ∃ k, (List.range n)[i]? = some k ∧ inReset.getD k 0x00#8 ||| Config.staleByte draws k = x := by
    simpa [staleTail] using hx
  obtain rfl : i = k := by
    obtain ⟨hlt, heq⟩ := List.getElem?_eq_some_iff.1 hk
    simpa using heq
  rw [List.getD_eq_getElem?_getD, hm, Option.getD_some]
  apply BitVec.eq_of_getLsbD_eq
  intro j _
  rw [BitVec.getLsbD_and, BitVec.getLsbD_or]
  cases m.getLsbD j <;> simp

/-! ### A request frame is taken (R172, R179) -/

section
variable {s : State} {b : Byte} {more : List Byte} {en : Bool}

theorem execRequestFrame_of_taken (hb : b ≠ 0#8) (h : s.resetPin = false) :
    exec (.requestFrame (b :: more) en .whole) s = .next (s.requestFrame (b :: more) en) := by
  refine (if_neg (Bool.eq_false_iff.1 h)).trans ?_
  exact congrArg Host.Outcome.next (if_neg hb)

theorem State.decideHeld_of_undecided_none (h : s.mgmt.undecided = none) : s.decideHeld = s := by
  unfold State.decideHeld
  rw [h]

theorem Mgmt.undecided_of_resetting {m : Mgmt} (h : m.resetting = true) : m.undecided = none := if_pos h

theorem Mgmt.undecided_of_answered {m : Mgmt} (h : m.resetting = false) (hall : ∀ x, m.held = some x → x.response ≠ none) :
    m.undecided = none := by
  unfold Mgmt.undecided
  rw [if_neg (Bool.eq_false_iff.1 h), Option.filter_eq_none_iff]
  intro x hx
  simpa [Option.isNone_iff_eq_none] using hall x hx

theorem Mgmt.undecided_of_waiting {m : Mgmt} {x : HeldRequest} (h : m.resetting = false) (hx : m.held = some x)
    (hresponse : x.response = none) : m.undecided = some x := by
  unfold Mgmt.undecided
  rw [if_neg (Bool.eq_false_iff.1 h), hx]
  simp [Option.filter, hresponse]

theorem State.holdRequest_of_resetting {bytes : List Byte} (h : s.mgmt.resetting = true) : s.holdRequest bytes en = s :=
  if_pos h

theorem State.holdRequest_of_not_resetting {bytes : List Byte} (h : s.mgmt.resetting = false) :
    s.holdRequest bytes en = s.modMgmt fun m => { m with held := some (HeldRequest.fresh bytes en) } :=
  if_neg (Bool.eq_false_iff.1 h)

theorem State.requestFrame_of_nothing_waiting {bytes : List Byte} (h : s.mgmt.undecided = none) :
    s.requestFrame bytes en = (s.tick.holdRequest bytes en).idleOut bytes.length := by
  unfold State.requestFrame
  rw [State.decideHeld_of_undecided_none (s := s.tick) h]

end

theorem State.writeObject_mgmt (s : State) (o : Writable) (w : Span) : (s.writeObject o w).1.mgmt = s.mgmt := by
  cases o with
  | domainShadow i =>
    change (s.writeShadow _ w).1.mgmt = _
    unfold State.writeShadow
    split <;> [rfl; (split <;> rfl)]
  | groupConfig g =>
    change (s.writeConfig _ w).1.mgmt = _
    unfold State.writeConfig
    split <;> rfl
  | triggerConfig n =>
    change (s.writeTrigger _ w).1.mgmt = _
    unfold State.writeTrigger
    split <;> rfl
  | alert =>
    change (s.writeMask w).1.mgmt = _
    unfold State.writeMask
    split <;> rfl

theorem State.activate_mgmt (s : State) : s.activate.1.mgmt = s.mgmt := by
  unfold State.activate
  split
  next => rfl
  next =>
    split
    next => rfl
    next => split <;> rfl

theorem State.cancel_mgmt (s : State) : s.cancel.1.mgmt = s.mgmt := by
  unfold State.cancel
  split <;> rfl

/-- Every decision but a SOFT_RESET leaves the management port to its response (R172, R179). -/
theorem State.carryOut_mgmt {s : State} {d : Decision} (h : d ≠ .softReset) :
    (s.carryOut d).1.mgmt = s.mgmt ∧ ∃ r, (s.carryOut d).2 = some r := by
  cases d with
  | refuse | zeroWrite => exact ⟨rfl, _, rfl⟩
  | read o off len => exact ⟨(calm_readObject (P := fun _ => True) s o off len).mgmt, _, rfl⟩
  | write o w => exact ⟨s.writeObject_mgmt o w, _, rfl⟩
  | activateMap => exact ⟨s.activate_mgmt, _, rfl⟩
  | cancelMap => exact ⟨s.cancel_mgmt, _, rfl⟩
  | format g => exact ⟨(calm_format (P := fun _ => True) s g).mgmt, _, rfl⟩
  | recover g => exact ⟨(calm_recover (P := fun _ => True) s g).mgmt, _, rfl⟩
  | forceAbort g => exact ⟨(calm_forceAbort (P := fun _ => True) s g).mgmt, _, rfl⟩
  | clearFault g => exact ⟨(calm_clearFault (P := fun _ => True) s g).mgmt, _, rfl⟩
  | clearRefusal p => exact ⟨(calm_clearRefusal (P := fun _ => True) s p).mgmt, _, rfl⟩
  | clearAlerts set => exact ⟨rfl, _, rfl⟩
  | clearStats g => exact ⟨(calm_clearStats (P := fun _ => True) s g).mgmt, _, rfl⟩
  | softReset => exact absurd rfl h

/-- A decision is given its response, or a SOFT_RESET waits for it (R172, R179). -/
theorem State.decideAs_answers {s : State} {x : HeldRequest} (hx : s.mgmt.held = some x) (d : Decision) :
    (s.tick.decideAs d).mgmt.resetting = true
      ∨ ∃ r, (s.tick.decideAs d).mgmt.held = some { x with response := some r } := by
  by_cases hd : d = .softReset
  · subst hd
    exact .inl rfl
  · obtain ⟨hmgmt, r, hr⟩ := State.carryOut_mgmt (s := s.tick) hd
    refine .inr ⟨r, ?_⟩
    rw [State.decideAs, State.modMgmt_mgmt, hmgmt, hr]
    change s.mgmt.held.map _ = _
    rw [hx]
    rfl

theorem State.holdRequest_eq (s : State) (bytes : List Byte) (en : Bool) : s.holdRequest bytes en = { s with
    mgmt := if s.mgmt.resetting = true then s.mgmt
      else { s.mgmt with held := some { bytes := bytes, cfgEn := en, response := none } } } := by
  unfold State.holdRequest
  split <;> rfl

/-! ### The bytes that a FETCH gives (R171, R173) -/

theorem execFetch_of_taken {s : State} (h : s.resetPin = false) (more : List Byte) :
    exec (.fetch more .whole) s = .next (s.fetchFrame (more.length + 1)) := by
  rw [Nat.add_comm]
  exact if_neg (Bool.eq_false_iff.1 h)

theorem fetchBytes_length (n : Nat) (r : Response) : (fetchBytes n r).length = n := by
  simp [fetchBytes, idleBytes]
  omega

theorem Response.wire_length (r : Response) : r.wire.length = r.data.length + 3 := by
  simp [Response.wire, Response.body]

/-- A FETCH long enough for the response gives it whole. -/
theorem fetchBytes_eq {n : Nat} {r : Response} (h : r.data.length + 3 ≤ n) :
    fetchBytes (n + 1) r = 0xFF#8 :: r.wire ++ List.replicate (n - 3 - r.data.length) 0xFF#8 := by
  unfold fetchBytes
  rw [List.take_succ_cons, List.cons_append]
  congr 1
  rw [List.take_append, List.take_of_length_le (by rw [r.wire_length]; exact h), r.wire_length, idleBytes,
    List.take_replicate]
  congr 2
  omega

theorem fetchBytes_plain {n : Nat} (st : Status) (h : 3 ≤ n) :
    (fetchBytes (n + 1) (Response.plain st)).take 4 = 0xFF#8 :: (Response.plain st).wire := by
  rw [fetchBytes_eq h]
  rfl

theorem Mgmt.fetched_of_answered {m : Mgmt} {x : HeldRequest} {r : Response} (hx : m.held = some x)
    (h : m.resetting = false) (hr : x.response = some r) : m.fetched = r := by
  unfold Mgmt.fetched
  rw [hx]
  simp only [h, hr, Bool.false_eq_true, if_false, Option.getD_some]

theorem Mgmt.fetched_of_pending {m : Mgmt} {x : HeldRequest} (hx : m.held = some x)
    (h : m.resetting = true ∨ x.response = none) : m.fetched = Response.plain .pending := by
  unfold Mgmt.fetched
  rw [hx]
  rcases h with h | h
  · simp only [h, if_true]
  · simp only [h, Option.getD_none, ite_self]

theorem Mgmt.fetched_of_none {m : Mgmt} (h : m.held = none) : m.fetched = Response.plain .unknown := by
  unfold Mgmt.fetched
  rw [h]

/-- Settles O54: each kind of frame, in and out of reset. -/
theorem framesAreTakenAndAnswered : Obligations.FramesAreTakenAndAnswered := by
  intro s b more en hb
  refine ⟨fun hpin => ⟨execRequestFrame_of_resetPin hpin b more en, execFetch_of_resetPin hpin more⟩,
    fun inReset => ⟨execRequestFrame_stale hb s more inReset en,
      _, staleTail more.length s.draws inReset, rfl, by simp [staleTail], rfl, fun i m x hm hx =>
        ⟨staleTail_bits hm hx, fun hall => ?_⟩⟩,
    fun hpin hresetting hanswered => ?_, fun hpin hresetting => ?_, fun hpin hresetting x hx hresponse => ?_,
    fun hpin => ⟨_, fetchBytes (more.length + 1) s.mgmt.fetched, execFetch_of_taken hpin more, rfl, fetchBytes_length _ _,
      fun x r hx hresetting hr _ hlong => ?_, fun hlong => ⟨fun hnone => ?_, fun x hx hpending => ?_⟩⟩⟩
  · have hbits := staleTail_bits hm hx
    rw [hall] at hbits
    rwa [show (0xFF#8 : Byte) = BitVec.allOnes 8 from rfl, BitVec.and_allOnes] at hbits
  · rw [execRequestFrame_of_taken hb hpin,
      State.requestFrame_of_nothing_waiting (Mgmt.undecided_of_answered hresetting hanswered),
      State.holdRequest_of_not_resetting (s := s.tick) hresetting]
    rfl
  · rw [execRequestFrame_of_taken hb hpin,
      State.requestFrame_of_nothing_waiting (Mgmt.undecided_of_resetting hresetting),
      State.holdRequest_of_resetting (s := s.tick) hresetting]
    rfl
  · obtain ⟨c, hc, hrow⟩ := exists_row_decides x.decision
    refine ⟨c, _, hc, exec_of_awaits ⟨hresetting, x, hx, hresponse, rfl⟩ hrow, State.decideAs_answers hx x.decision, ?_⟩
    have hdecided : s.tick.decideHeld = s.tick.decideAs x.decision := by
      unfold State.decideHeld
      rw [show s.tick.mgmt.undecided = some x from Mgmt.undecided_of_waiting hresetting hx hresponse]
    rw [execRequestFrame_of_taken hb hpin]
    unfold State.requestFrame
    rw [hdecided, State.holdRequest_eq]
    rfl
  · rw [Mgmt.fetched_of_answered hx hresetting hr, fetchBytes_eq (by omega)]
    simp [Response.wire, Response.body, frameChecksum]
  · rw [Mgmt.fetched_of_none hnone, fetchBytes_plain _ hlong]
    decide
  · rw [Mgmt.fetched_of_pending hx hpending, fetchBytes_plain _ hlong]
    decide

end Sys2Proof.Machine
end

section
/-! The formats (R88 to R91, R97, R175): what stands at each place of a byte string, the layouts of the catalogue's objects and of the media slots, and that what is written reads back. -/

namespace Sys2Proof.Machine

/-! ### Reading a place of a byte string -/

section
variable {l k : List Byte} {i n : Nat}

@[simp] theorem byteAt_append_of_lt (h : i < l.length) : byteAt (l ++ k) i = byteAt l i := by
  simp [byteAt, List.getD_eq_getElem?_getD, List.getElem?_append_left h]

@[simp] theorem byteAt_append_of_le (h : l.length ≤ i) : byteAt (l ++ k) i = byteAt k (i - l.length) := by
  simp [byteAt, List.getD_eq_getElem?_getD, List.getElem?_append_right h]

@[simp] theorem fieldAt_append_of_le (h : l.length ≤ i) : fieldAt (l ++ k) i n = fieldAt k (i - l.length) n := by
  simp [fieldAt, List.drop_append, List.drop_eq_nil_of_le h]

@[simp] theorem byteAt_cons_zero (b : Byte) : byteAt (b :: l) 0 = b := rfl

@[simp] theorem byteAt_cons_of_pos {b : Byte} (h : 0 < i) : byteAt (b :: l) i = byteAt l (i - 1) :=
  byteAt_append_of_le (l := [b]) h

@[simp] theorem fieldAt_cons_of_pos {b : Byte} (h : 0 < i) : fieldAt (b :: l) i n = fieldAt l (i - 1) n :=
  fieldAt_append_of_le (l := [b]) h

@[simp] theorem fieldAt_leBytes_append (v : Nat) : fieldAt (leBytes n v ++ k) 0 n = v % 256 ^ n := fieldAt_append [] k n v 0 rfl

@[simp] theorem fieldAt_leBytes (v : Nat) : fieldAt (leBytes n v) 0 n = v % 256 ^ n := by
  simpa using fieldAt_leBytes_append (k := []) v

theorem fieldAt_append_of_fits (h : i + n ≤ l.length) : fieldAt (l ++ k) i n = fieldAt l i n := by
  unfold fieldAt
  rw [List.drop_append_of_le_length (by omega), List.take_append_of_le_length (by rw [List.length_drop]; omega)]

/-- A field of one byte is that byte. -/
theorem fieldAt_one (h : i < l.length) : fieldAt l i 1 = (byteAt l i).toNat := by
  rw [fieldAt, byteAt, List.getD_eq_getElem?_getD, List.getElem?_eq_getElem h, List.drop_eq_getElem_cons h,
    List.take_succ_cons, List.take_zero]
  exact Nat.add_zero _

@[simp] theorem zeroBytes_length (n : Nat) : (zeroBytes n).length = n := List.length_replicate ..

end

/-- A field of zero bytes is 0. -/
theorem leNat_zeroBytes (n : Nat) : leNat (zeroBytes n) = 0 := by
  induction n with
  | zero => rfl
  | succ n ih =>
    change (0#8).toNat + 256 * leNat (zeroBytes n) = 0
    rw [ih]
    rfl

@[simp] theorem fieldAt_zeroBytes_append {k : List Byte} (n : Nat) : fieldAt (zeroBytes n ++ k) 0 n = 0 := by
  rw [fieldAt, List.drop_zero, List.take_append_of_le_length (by simp), List.take_of_length_le (by simp), leNat_zeroBytes]

@[simp] theorem fieldAt_zeroBytes (n : Nat) : fieldAt (zeroBytes n) 0 n = 0 := by
  simpa using fieldAt_zeroBytes_append (k := []) n

theorem epoch_lt (e : Epoch) : e.toNat < 4294967296 := e.isLt

theorem toNat_mod_of_le {w n : Nat} (x : BitVec w) (h : 2 ^ w ≤ n) : x.toNat % n = x.toNat :=
  Nat.mod_eq_of_lt (x.isLt.trans_le h)

/-! ### Single fields (R175) -/

theorem setByte_bits : ∀ (a b c d : Bool) (n : Fin 8),
    (setByte { at0 := a, at1 := b, at2 := c, at3 := d }).getLsbD n
      = if h : n.val < 4 then Four.get { at0 := a, at1 := b, at2 := c, at3 := d } ⟨n.val, h⟩ else false := by
  decide +kernel

theorem showsSet_setByte (v : FourSet) : showsSet (setByte v) v := by
  intro n
  rcases Nat.lt_or_ge n 8 with h | h
  · exact setByte_bits v.at0 v.at1 v.at2 v.at3 ⟨n, h⟩
  · rw [BitVec.getLsbD_of_ge _ _ h, dif_neg (by omega)]

theorem showsIndex_indexByte {n : Nat} (o : Option (Fin n)) : showsIndex (indexByte o) o := by
  cases o <;> rfl

@[simp] theorem addrBytes_length (o : Option Addr) : (addrBytes o).length = 8 := by
  cases o with
  | none => rfl
  | some a => exact leBytes_length ..

@[simp] theorem wordBytes_length (draw : Nat) (o : Option Nat) : (wordBytes draw o).length = 4 := by
  cases o <;> exact leBytes_length ..

theorem fieldAt_addrBytes (o : Option Addr) : showsAddr (addrBytes o) 0 o := by
  cases o with
  | none => rfl
  | some a => exact (fieldAt_leBytes _).trans (toNat_mod_of_le a (by decide))

@[simp] theorem fieldAt_wordBytes_append {k : List Byte} (draw v : Nat) :
    fieldAt (wordBytes draw (some v) ++ k) 0 4 = v % 4294967296 := fieldAt_leBytes_append v

theorem decide_flagByte (b : Bool) : flagByte b = if b = true then 1#8 else 0#8 := rfl


/-! ### The objects of the catalogue (R175) -/

theorem DomainEntry.shownBy_bytes (d : DomainEntry) : d.shownBy d.bytes := by
  refine ⟨rfl, ?_, showsIndex_indexByte d.group, fun p => ?_, rfl, ?_, ?_⟩
  · change d.kind.code = _
    cases d.kind <;> rfl
  · have hcode : byteAt d.bytes (3 + p.val) = (d.grants.get p).code := by fin_cases p <;> rfl
    rw [hcode]
    cases d.grants.get p <;> rfl
  · simpa [DomainEntry.bytes] using toNat_mod_of_le d.base (by decide : 2 ^ 30 ≤ 4294967296)
  · simpa [DomainEntry.bytes] using toNat_mod_of_le d.limit (by decide : 2 ^ 30 ≤ 4294967296)

theorem GroupConfig.shownBy_bytes (c : GroupConfig) : c.shownBy c.bytes := by
  refine ⟨?_, ?_, ?_, ?_, ?_, ?_, ?_, ?_, ?_, ?_⟩
  · simpa [GroupConfig.bytes] using toNat_mod_of_le c.base (by decide : 2 ^ 36 ≤ 18446744073709551616)
  · simp [GroupConfig.bytes]
  · simpa [GroupConfig.bytes] using showsSet_setByte c.participants
  · have hcode : byteAt c.bytes 13 = c.policy.code := by simp [GroupConfig.bytes]
    rw [hcode]
    cases c.policy <;> rfl
  · simp [GroupConfig.bytes, flagByte]
  · simp [GroupConfig.bytes]
  · simp [GroupConfig.bytes]
  · simp [GroupConfig.bytes]
  · simp [GroupConfig.bytes]
  · simp [GroupConfig.bytes]

theorem Stats.shownBy_bytes (c : Stats) : c.shownBy c.bytes := by
  refine ⟨?_, ?_, ?_, ?_, ?_, ?_⟩ <;> simp [Stats.bytes]

theorem FaultRecord.presence_bits (f : FaultRecord) (n : Nat) : f.presence.getLsbD n
    = (decide (n = 0) && f.slot.isSome || decide (n = 1) && f.block.isSome) := by
  have hbits : ∀ (a b : Bool) (k : Fin 8), (flagByte a ||| (flagByte b <<< 1)).getLsbD k
      = (decide (k.val = 0) && a || decide (k.val = 1) && b) := by decide +kernel
  rcases Nat.lt_or_ge n 8 with h | h
  · exact hbits f.slot.isSome f.block.isSome ⟨n, h⟩
  · rw [BitVec.getLsbD_of_ge _ _ h, decide_eq_false (by omega : ¬ n = 0), decide_eq_false (by omega : ¬ n = 1)]
    rfl

theorem State.showsStatus_bytes (s : State) (g : GroupId) : s.showsStatus g (s.groupStatusBytes g) := by
  refine ⟨?state, ?level, ?votes, ?flight, ?closed, ?current, ?length, ?entries, ?quota, ?queue, ?putBack, fun k hk => ?marks,
    ?close, ?source, ?kind, fun n => ?presence, ?zero, ?epoch, fun n hn => ?slot, fun b hb => ?block, ?copy, ?outcome,
    ?zeros, ?found, ?records, ?replayed, ?tail⟩
  case votes => simpa [State.groupStatusBytes] using showsSet_setByte (s.group g).voteSet
  case flight =>
    cases hstep : (s.group g).step <;> simp [State.groupStatusBytes, Group.recordInFlight, hstep, flagByte]
  case marks =>
    have hcode : byteAt (s.groupStatusBytes g) (20 + k) = (s.group g).markByte k := by
      interval_cases k <;> simp [State.groupStatusBytes]
    rw [hcode, Group.markByte]
    cases (s.group g).marks[k]? <;> rfl
  case presence => simpa [State.groupStatusBytes] using (s.group g).fault.presence_bits n
  case slot => simp [State.groupStatusBytes, hn]
  case block =>
    simpa [State.groupStatusBytes, hb] using toNat_mod_of_le b (by decide : 2 ^ 30 ≤ 4294967296)
  case copy =>
    have hcode : byteAt (s.groupStatusBytes g) 44 = copyByte (s.group g).recoveryResult.copy := by
      simp [State.groupStatusBytes]
    rw [hcode]
    rcases (s.group g).recoveryResult.copy with _ | _ | _ <;> rfl
  all_goals simp [State.groupStatusBytes, byteOf, Group.level, Group.currentEpoch, State.entriesOf, epoch_lt]

@[simp] theorem channelBytes_length (c : Option Outstanding) : (channelBytes c).length = 4 := by
  cases c <;> rfl

theorem State.groupOf_eq_some_iff (s : State) (p : PortId) (g : GroupId) :
    s.groupOf p = some g ↔ (s.group g).config.participants.get p = true
      ∧ ∀ k, k < g → (s.group k).config.participants.get p = false :=
  find?_eq_some_iff_least fourIds_pairwise mem_fourIds

theorem State.groupOf_eq_none_iff (s : State) (p : PortId) :
    s.groupOf p = none ↔ ∀ g : GroupId, (s.group g).config.participants.get p = false := by
  simp [State.groupOf, mem_fourIds]

theorem State.shownHeadGroup_eq (s : State) (p : PortId) : s.shownHeadGroup p =
    if s.headStage p = none ∨ s.headStage p = some .classifying then none else (s.port p).headGroup := by
  unfold State.shownHeadGroup
  rcases s.headStage p with _ | _ | _ | _ | _ | _ | _ | _ <;> simp

theorem showsAddr_of_drop {x y : List Byte} {off : Nat} {o : Option Addr} (h : fieldAt x off 8 = fieldAt y 0 8)
    (hy : showsAddr y 0 o) : showsAddr x off o := h.trans hy

theorem fieldAt_addrBytes_append (o : Option Addr) (k : List Byte) :
    fieldAt (addrBytes o ++ k) 0 8 = fieldAt (addrBytes o) 0 8 := fieldAt_append_of_fits (by simp)

theorem State.showsPort_bytes (s : State) (p : PortId) : s.showsPort p (s.portStatusBytes p) := by
  refine ⟨?length, ?issued, ?answered, ?stage, ?reason, ?headGroup, fun g hg hless => ?group, fun hnone => ?noGroup, ?pin,
    ?channel, ?zeros, ?lastWrite⟩
  case length => simp [State.portStatusBytes, byteOf]
  case issued =>
    have hcode : byteAt (s.portStatusBytes p) 1 = byteOf ((s.port p).queue.countP Request.isIssued) := by
      simp [State.portStatusBytes]
    rw [hcode, List.countP_eq_length_filter]
    rfl
  case answered =>
    have hcode : byteAt (s.portStatusBytes p) 2 = byteOf ((s.port p).queue.countP fun r => r.stage == .answered) := by
      simp [State.portStatusBytes]
    rw [hcode, List.countP_eq_length_filter]
    rfl
  case stage =>
    have hcode : byteAt (s.portStatusBytes p) 3 = headStageCode (s.headStage p) := by simp [State.portStatusBytes]
    rw [hcode]
    rcases s.headStage p with _ | _ | _ | _ | _ | _ | _ | _ <;> rfl
  case reason =>
    have hcode : byteAt (s.portStatusBytes p) 4 = holdByte (s.headStage p) := by simp [State.portStatusBytes]
    rw [hcode]
    rcases s.headStage p with _ | _ | _ | (_ | _ | _ | _ | _) | _ | _ | _ | _ <;> rfl
  case headGroup =>
    rw [← s.shownHeadGroup_eq p]
    simpa [State.portStatusBytes] using showsIndex_indexByte (s.shownHeadGroup p)
  case group =>
    have hgroup := (s.groupOf_eq_some_iff p g).2 ⟨hg, hless⟩
    simp [State.portStatusBytes, hgroup, indexByte, optionByte, byteOf]
  case noGroup =>
    have hgroup := (s.groupOf_eq_none_iff p).2 hnone
    simp [State.portStatusBytes, hgroup, indexByte, optionByte]
  case pin => simp [State.portStatusBytes, flagByte]
  case channel =>
    rcases hchannel : (s.port p).channel with _ | ⟨_ | _ | _, arg, g⟩ <;>
      simp [State.portStatusBytes, hchannel, channelBytes, byteOf, WaitingKind.code]
  case zeros => simp [State.portStatusBytes]
  case lastWrite => exact showsAddr_of_drop (by simp [State.portStatusBytes]) (fieldAt_addrBytes (s.port p).lastWrite)

theorem Port.refusalShownBy_bytes (y : Port) (draw : Nat) :
    y.refusalShownBy (refusalBytes draw y.refusal y.refusalCount) := by
  unfold Port.refusalShownBy
  cases y.refusal with
  | none => exact ⟨by simp [refusalBytes], by simp [refusalBytes], by simp [refusalBytes], rfl⟩
  | some r =>
    refine ⟨by simp [refusalBytes], by simp [refusalBytes], by simp [refusalBytes], rfl, ?_, rfl, rfl,
      showsIndex_indexByte r.domain, showsIndex_indexByte r.group, ?_, ?_, fun e he => ?_⟩
    · cases hkind : r.kind <;> simp [refusalBytes, hkind, accessCode]
    · cases hepoch : r.epoch <;> simp [refusalBytes, hepoch, flagByte]
    · simpa [refusalBytes] using toNat_mod_of_le r.addr (by decide : 2 ^ 36 ≤ 18446744073709551616)
    · simp [refusalBytes, he, epoch_lt]

@[simp] theorem GroupShot.bytes_length (x : GroupShot) : x.bytes.length = 12 := by simp [GroupShot.bytes]

/-- The bytes `x` show a group of a snapshot from the offset `off` on (R164). -/
def GroupShot.shownAt (z : GroupShot) (x : List Byte) (off : Nat) : Prop :=
  byteAt x off = z.state.code ∧ byteAt x (off + 1) = BitVec.ofNat 8 z.level ∧ byteAt x (off + 2) = z.outcome.code
    ∧ byteAt x (off + 3) = 0#8 ∧ fieldAt x (off + 4) 4 = z.closedEpoch.toNat
    ∧ fieldAt x (off + 8) 2 = z.journalLength % 65536 ∧ fieldAt x (off + 10) 2 = 0

theorem GroupShot.shownAt_bytes (z : GroupShot) (k : List Byte) : z.shownAt (z.bytes ++ k) 0 := by
  refine ⟨rfl, rfl, rfl, rfl, ?_, ?_, ?_⟩ <;> simp [GroupShot.bytes, epoch_lt]

theorem byteAt_of_drop {x : List Byte} (off i : Nat) : byteAt x (off + i) = byteAt (x.drop off) i := by
  simp [byteAt, List.getD_eq_getElem?_getD]

theorem fieldAt_of_drop {x : List Byte} (off i n : Nat) : fieldAt x (off + i) n = fieldAt (x.drop off) i n := by
  simp [fieldAt]

theorem GroupShot.shownAt_of_drop {z : GroupShot} {x : List Byte} {off : Nat} (h : z.shownAt (x.drop off) 0) :
    z.shownAt x off := by
  obtain ⟨hstate, hlevel, houtcome, hzero, hepoch, hlength, hpad⟩ := h
  exact ⟨(byteAt_of_drop off 0).trans hstate, (byteAt_of_drop off 1).trans hlevel, (byteAt_of_drop off 2).trans houtcome,
    (byteAt_of_drop off 3).trans hzero, (fieldAt_of_drop off 4 4).trans hepoch, (fieldAt_of_drop off 8 2).trans hlength,
    (fieldAt_of_drop off 10 2).trans hpad⟩

/-- The items of a snapshot behind its first eight bytes. -/
def Snapshot.items (z : Snapshot) : List Byte :=
  z.groups.at0.bytes ++ (z.groups.at1.bytes ++ (z.groups.at2.bytes ++ (z.groups.at3.bytes
    ++ (addrBytes z.lastWrites.at0 ++ (addrBytes z.lastWrites.at1 ++ (addrBytes z.lastWrites.at2
    ++ addrBytes z.lastWrites.at3))))))

theorem Trigger.snapshotBytes_eq (y : Trigger) : y.snapshotBytes =
    [flagByte y.snapshot.isSome, y.shot.action.code] ++ (leBytes 2 y.shot.number ++ (leBytes 2 y.count ++ (zeroBytes 2
      ++ y.shot.items))) := by
  simp only [Trigger.snapshotBytes, Snapshot.items, List.append_assoc]

theorem Trigger.snapshotBytes_drop (y : Trigger) (n : Nat) : y.snapshotBytes.drop (8 + n) = y.shot.items.drop n := by
  rw [Trigger.snapshotBytes_eq, ← List.drop_drop]
  congr 1

theorem Snapshot.items_group (z : Snapshot) (g : GroupId) : ∃ k, z.items.drop (12 * g.val) = (z.groups.get g).bytes ++ k := by
  fin_cases g <;> exact ⟨_, rfl⟩

theorem Snapshot.items_lastWrite (z : Snapshot) (p : PortId) :
    fieldAt z.items (48 + 8 * p.val) 8 = fieldAt (addrBytes (z.lastWrites.get p)) 0 8 := by
  fin_cases p <;> simp [Snapshot.items, fieldAt_addrBytes_append, Four.get]

theorem Trigger.snapshotBytes_lastWrite (y : Trigger) (p : PortId) :
    showsAddr y.snapshotBytes (56 + 8 * p.val) (y.shot.lastWrites.get p) := by
  refine showsAddr_of_drop ?_ (fieldAt_addrBytes (y.shot.lastWrites.get p))
  rw [show 56 + 8 * p.val = 8 + (48 + 8 * p.val) by omega, fieldAt_of_drop, ← y.shot.items_lastWrite p]
  exact congrArg (fieldAt · (48 + 8 * p.val) 8) (y.snapshotBytes_drop 0)

theorem Trigger.snapshotShownBy_bytes (y : Trigger) : y.snapshotShownBy y.snapshotBytes := by
  refine ⟨by simp [Trigger.snapshotBytes_eq], by simp [Trigger.snapshotBytes_eq], ?_⟩
  have hwrites := y.snapshotBytes_lastWrite
  cases hsnapshot : y.snapshot with
  | none =>
    have hshot : y.shot = Snapshot.blank := by rw [Trigger.shot, hsnapshot]; rfl
    refine ⟨?_, fun g => ?_, fun p => ?_⟩
    · rw [Trigger.snapshotBytes_eq, hshot, hsnapshot]
      rfl
    · rw [Trigger.snapshotBytes_drop, hshot]
      fin_cases g <;> rfl
    · have hwrite := hwrites p
      rw [hshot, Snapshot.blank, Four.get_const] at hwrite
      exact hwrite
  | some z =>
    have hshot : y.shot = z := by rw [Trigger.shot, hsnapshot]; rfl
    refine ⟨?_, ?_, ?_, fun g => ?_, hshot ▸ hwrites⟩
    · rw [Trigger.snapshotBytes_eq, hsnapshot]
      rfl
    · rw [Trigger.snapshotBytes_eq, hshot]
      rfl
    · simp [Trigger.snapshotBytes_eq, hshot]
    · obtain ⟨k, hk⟩ := z.items_group g
      have hshown : (z.groups.get g).shownAt y.snapshotBytes (8 + 12 * g.val) := by
        refine GroupShot.shownAt_of_drop ?_
        rw [Trigger.snapshotBytes_drop, hshot, hk]
        exact (z.groups.get g).shownAt_bytes k
      obtain ⟨hstate, hlevel, houtcome, hzero, hepoch, hlength, hpad⟩ := hshown
      rw [show 9 + 12 * g.val = 8 + 12 * g.val + 1 by omega, show 10 + 12 * g.val = 8 + 12 * g.val + 2 by omega,
        show 11 + 12 * g.val = 8 + 12 * g.val + 3 by omega, show 12 + 12 * g.val = 8 + 12 * g.val + 4 by omega,
        show 16 + 12 * g.val = 8 + 12 * g.val + 8 by omega, show 18 + 12 * g.val = 8 + 12 * g.val + 10 by omega]
      exact ⟨hstate, hlevel, houtcome, hzero, hepoch, hlength, hpad⟩

/-! ### READ (R175) -/

theorem Trigger.configBytes_shown (x : Trigger) :
    byteAt x.configBytes 0 = x.action.code ∧ showsSet (byteAt x.configBytes 1) x.mask := ⟨rfl, showsSet_setByte x.mask⟩

theorem State.trackUsageBytes_group (s : State) (g : GroupId) :
    fieldAt s.trackUsageBytes (2 + 2 * g.val) 2 = s.entriesOf g % 65536 := by
  fin_cases g <;> simp [State.trackUsageBytes]

theorem State.alertBytes_shown (s : State) : fieldAt s.alertBytes 0 3 = s.alerts.latched.toNat ∧ byteAt s.alertBytes 3 = 0#8
    ∧ fieldAt s.alertBytes 4 3 = s.alerts.mask.toNat
    ∧ byteAt s.alertBytes 7 = if s.alerts.latched &&& s.alerts.mask = 0#21 then 0#8 else 1#8 := by
  refine ⟨?_, by simp [State.alertBytes], ?_, ?_⟩
  · simpa [State.alertBytes] using toNat_mod_of_le s.alerts.latched (by decide : 2 ^ 21 ≤ 16777216)
  · simpa [State.alertBytes] using toNat_mod_of_le s.alerts.mask (by decide : 2 ^ 21 ≤ 16777216)
  · have hcode : byteAt s.alertBytes 7 = flagByte s.alertLine := by simp [State.alertBytes]
    rw [hcode, State.alertLine, flagByte]
    by_cases h : s.alerts.latched &&& s.alerts.mask = 0#21 <;> simp [h]

theorem State.objectBytes_length (s : State) (o : Object) : (s.objectBytes o).length = o.size := by
  cases o with
  | domainShadow i => simp [State.objectBytes, DomainEntry.bytes, Object.size]
  | domainActive i => simp [State.objectBytes, DomainEntry.bytes, Object.size]
  | mapState => rfl
  | groupConfig g => simp [State.objectBytes, GroupConfig.bytes, Object.size]
  | groupStatus g => simp [State.objectBytes, State.groupStatusBytes, Object.size]
  | groupStats g => simp [State.objectBytes, Stats.bytes, Object.size]
  | portStatus p => simp [State.objectBytes, State.portStatusBytes, Object.size]
  | refusal p =>
    cases hrefusal : (s.port p).refusal <;> simp [State.objectBytes, hrefusal, refusalBytes, Object.size]
  | triggerConfig n => rfl
  | snapshot n => simp [State.objectBytes, Trigger.snapshotBytes, Object.size]
  | alert => simp [State.objectBytes, State.alertBytes, Object.size]
  | trackUsage => simp [State.objectBytes, State.trackUsageBytes, Object.size]
  | ident => rfl

theorem codes_as_given : codesAsGiven := ⟨rfl, fun _ _ _ => rfl, rfl, rfl, rfl, rfl, rfl⟩

/-- Settles O55: the row READ, the size of each object, and each object's layout. -/
theorem readReturnsTheObject : Obligations.ReadReturnsTheObject :=
  ⟨fun _ _ _ _ h => ⟨_, exec_of_awaits (c := .read) h rfl, rfl⟩, State.objectBytes_length, codes_as_given,
    fun s g => ⟨s.showsStatus_bytes g, (s.group g).stats.shownBy_bytes, (s.group g).config.shownBy_bytes,
      s.trackUsageBytes_group g⟩,
    fun s p => ⟨s.showsPort_bytes p, (s.port p).refusalShownBy_bytes s.draws⟩,
    fun s n => ⟨(s.trigger n).snapshotShownBy_bytes, (s.trigger n).configBytes_shown⟩,
    fun s i => ⟨s.map.shadow[i].shownBy_bytes, s.map.active[i].shownBy_bytes⟩,
    fun s => ⟨rfl, by simp [State.objectBytes, State.trackUsageBytes], rfl⟩,
    fun s _ hx => hx ▸ s.alertBytes_shown⟩

/-! ### What a configuration object shows, a write gives back (R107, R161, R175) -/

/-- A write of a whole object carries each of its fields. -/
theorem Span.value_whole {x : List Byte} {off size : Nat} (h : off + size ≤ x.length) :
    Span.value { off := 0, data := x } off size = some (fieldAt x off size) := by
  rw [Span.value_eq, if_pos ⟨Nat.zero_le _, by simpa using h⟩]
  rfl

theorem Span.value_whole_byte {x : List Byte} {off : Nat} (h : off < x.length) :
    Span.value { off := 0, data := x } off 1 = some (byteAt x off).toNat := by
  rw [Span.value_whole h, fieldAt_one h]

theorem Span.pick_whole {α : Type} {x : List Byte} {off size : Nat} (old : α) (read : Nat → α) (h : off + size ≤ x.length) :
    Span.pick { off := 0, data := x } off size old read = read (fieldAt x off size) :=
  Span.pick_of_some (Span.value_whole h)

theorem Span.pick_whole_byte {α : Type} {x : List Byte} {off : Nat} (old : α) (read : Nat → α) (h : off < x.length) :
    Span.pick { off := 0, data := x } off 1 old read = read (byteAt x off).toNat :=
  Span.pick_of_some (Span.value_whole_byte h)

theorem flagByte_ofCode (b : Bool) : ((flagByte b).toNat == 1) = b := by cases b <;> rfl

theorem DomainKind.ofCode_code (k : DomainKind) : DomainKind.ofCode k.code.toNat = k := by cases k <;> rfl

theorem Grant.ofCode_code (x : Grant) : Grant.ofCode x.code.toNat = x := by cases x <;> rfl

theorem Policy.ofCode_code (x : Policy) : Policy.ofCode x.code.toNat = x := by cases x <;> rfl

theorem TriggerAction.ofCode_code (x : TriggerAction) : TriggerAction.ofCode x.code.toNat = x := by cases x <;> rfl

theorem groupOfByte_indexByte (o : Option GroupId) : groupOfByte (indexByte o).toNat = o := by
  cases o with
  | none => rfl
  | some g => fin_cases g <;> rfl

theorem setOfByte_setByte (v : FourSet) : setOfByte (setByte v).toNat = v := by
  refine Four.ext_get _ _ fun p => ?_
  rw [setOfByte_get, showsSet_setByte v p.val, dif_pos p.isLt]

theorem DomainEntry.bytes_length (d : DomainEntry) : d.bytes.length = 16 := by simp [DomainEntry.bytes]

theorem GroupConfig.bytes_length (c : GroupConfig) : c.bytes.length = 24 := by simp [GroupConfig.bytes]

theorem DomainEntry.written_bytes (d old : DomainEntry) : old.written { off := 0, data := d.bytes } = d := by
  have hlen := d.bytes_length
  have hbase : fieldAt d.bytes 8 4 = d.base.toNat := d.shownBy_bytes.2.2.2.2.2.1
  have hlimit : fieldAt d.bytes 12 4 = d.limit.toNat := d.shownBy_bytes.2.2.2.2.2.2
  simp only [DomainEntry.written]
  rw [Span.pick_whole_byte _ _ (by omega), Span.pick_whole_byte _ _ (by omega), Span.pick_whole_byte _ _ (by omega),
    Span.pick_whole_byte _ _ (by omega), Span.pick_whole_byte _ _ (by omega), Span.pick_whole_byte _ _ (by omega),
    Span.pick_whole_byte _ _ (by omega), Span.pick_whole _ _ (by omega), Span.pick_whole _ _ (by omega), hbase, hlimit]
  simp only [DomainEntry.bytes, List.cons_append, Nat.reduceSub, Nat.reduceLT, byteAt_cons_zero, byteAt_cons_of_pos,
    flagByte_ofCode, DomainKind.ofCode_code, Grant.ofCode_code, groupOfByte_indexByte, BitVec.ofNat_toNat,
    BitVec.setWidth_eq]

end Sys2Proof.Machine
end

section
/-! The formats that read back (R88 to R91, R97, R107, R161, R175): a configuration object's bytes written to it, and the slots of the journal area. -/

namespace Sys2Proof.Machine

/-! ### A whole object as a write (R175) -/

/-- The zero fields of an object's layout. -/
def Writable.zeroFields (o : Writable) : List Field := o.fields.filter fun f => f.access == .zero

/-- A whole object may be written where its zero fields are zero and it has no read-only field. -/
theorem Writable.takes_whole {o : Writable} {x : List Byte} (hlength : x.length = o.size)
    (hbounds : o.fields.any (fun f => f.off == 0) = true ∧ o.fields.any (fun f => f.off + f.size == o.size) = true)
    (hplain : o.fields.all (fun f => decide (f.access ≠ .readOnly) && decide (f.off + f.size ≤ o.size)) = true)
    (hzeros : ∀ f ∈ o.zeroFields, fieldAt x f.off f.size = 0) : o.takes { off := 0, data := x } = true := by
  have hstop : Span.stop { off := 0, data := x } = o.size := (Nat.zero_add _).trans hlength
  have haligned : Span.aligned { off := 0, data := x } o.fields = true := by
    rw [Span.aligned, hstop, hbounds.1, hbounds.2]
    rfl
  have hfits : o.fields.all (Span.fits { off := 0, data := x }) = true := List.all_eq_true.2 fun f hf => by
    obtain ⟨hwritable, hplace⟩ := Bool.and_eq_true_iff.1 (List.all_eq_true.1 hplain f hf)
    unfold Span.fits
    cases haccess : f.access with
    | plain => rfl
    | readOnly => exact absurd haccess (of_decide_eq_true hwritable)
    | zero =>
      have hmem : f ∈ o.zeroFields := List.mem_filter.2 ⟨hf, by rw [haccess]; rfl⟩
      rw [Span.value_whole ((of_decide_eq_true hplace).trans hlength.ge), hzeros f hmem]
      rfl
  rw [Writable.takes, hstop, haligned, hfits, decide_eq_true le_rfl, Bool.and_true, Bool.or_true, Bool.and_true]

/-- A value that a whole object carries for one of its bytes is that byte. -/
theorem Span.value_whole_byte_le {x : List Byte} {off v n : Nat} (h : off < x.length) (hle : (byteAt x off).toNat ≤ n)
    (hv : Span.value { off := 0, data := x } off 1 = some v) : v ≤ n := by
  rw [Span.value_whole_byte h] at hv
  cases hv
  exact hle

theorem Span.value_whole_eq {x : List Byte} {off size v n : Nat} (h : off + size ≤ x.length) (hn : fieldAt x off size = n)
    (hv : Span.value { off := 0, data := x } off size = some v) : v = n := by
  rw [Span.value_whole h, hn] at hv
  cases hv
  rfl

theorem flagByte_le (b : Bool) : (flagByte b).toNat ≤ 1 := by cases b <;> decide

theorem DomainKind.code_le (k : DomainKind) : k.code.toNat ≤ 2 := by cases k <;> decide

theorem Grant.code_le (x : Grant) : x.code.toNat ≤ 2 := by cases x <;> decide

theorem Policy.code_le (x : Policy) : x.code.toNat ≤ 2 := by cases x <;> decide

theorem TriggerAction.code_le (x : TriggerAction) : x.code.toNat ≤ 2 := by cases x <;> decide

theorem setByte_le (v : FourSet) : (setByte v).toNat ≤ 15 := by
  have hbytes : ∀ a b c d : Bool, (setByte { at0 := a, at1 := b, at2 := c, at3 := d }).toNat ≤ 15 := by decide
  exact hbytes v.at0 v.at1 v.at2 v.at3

theorem indexByte_value (o : Option GroupId) : (indexByte o).toNat ≤ 3 ∨ (indexByte o).toNat = 255 := by
  cases o with
  | none => exact .inr rfl
  | some g => fin_cases g <;> exact .inl (by decide)

/-! ### Domain entries (R106, R107) -/

theorem DomainEntry.takes_bytes (d : DomainEntry) (i : EntryId) :
    (Writable.domainShadow i).takes { off := 0, data := d.bytes } = true := by
  refine Writable.takes_whole d.bytes_length ⟨rfl, rfl⟩ rfl fun f hf => ?_
  obtain rfl : f = field 7 1 .zero := List.mem_singleton.1 hf
  exact fieldAt_one (i := 7) (by rw [d.bytes_length]; decide)

theorem DomainEntry.shadowInRange_bytes (d : DomainEntry) : shadowInRange { off := 0, data := d.bytes } = true := by
  have hlen := d.bytes_length
  obtain ⟨-, -, -, -, -, hbase, hlimit⟩ := d.shownBy_bytes
  refine (shadowInRange_iff _).2 ⟨fun v => Span.value_whole_byte_le (by omega) (flagByte_le d.valid),
    fun v => Span.value_whole_byte_le (by omega) d.kind.code_le, fun v hv => ?_, fun k v hlow hhigh => ?_, fun v hv => ?_,
    fun v hv => ?_⟩
  · rw [Span.value_whole_byte (by omega)] at hv
    cases hv
    exact indexByte_value d.group
  · refine Span.value_whole_byte_le (by omega) ?_
    have hcode : byteAt d.bytes k = (d.grants.get ⟨k - 3, by omega⟩).code := by interval_cases k <;> rfl
    rw [hcode]
    exact Grant.code_le _
  · rw [Span.value_whole_eq (by omega) hbase hv]
    exact Nat.le_pred_of_lt d.base.isLt
  · rw [Span.value_whole_eq (by omega) hlimit hv]
    exact Nat.le_pred_of_lt d.limit.isLt

/-! ### Group configurations (R1, R2) -/

theorem GroupConfig.takes_bytes (c : GroupConfig) (g : GroupId) :
    (Writable.groupConfig g).takes { off := 0, data := c.bytes } = true := by
  refine Writable.takes_whole c.bytes_length ⟨rfl, rfl⟩ rfl fun f hf => ?_
  have hzero : fieldAt c.bytes 15 1 = 0 := by simp [GroupConfig.bytes, fieldAt_one]
  have hpad : fieldAt c.bytes 22 2 = 0 := by simp [GroupConfig.bytes]
  rcases List.mem_pair.1 hf with rfl | rfl
  · exact hzero
  · exact hpad

/-- The configuration's values are those of R1. -/
structure GroupConfig.inRange (c : GroupConfig) : Prop where
  aligned : c.base.toNat % 128 = 0
  slots : c.slots = 0 ∨ (3 ≤ c.slots ∧ c.slots ≤ 65536)
  holdLimit : 1 ≤ c.holdLimit ∧ c.holdLimit ≤ 65535
  voteWindow : c.voteWindow ≤ 65535
  quota : 1 ≤ c.quota ∧ c.quota ≤ 1024

/-- The bytes of a configuration with values of R1 carry those values. -/
theorem GroupConfig.fields_bytes {c : GroupConfig} (h : c.inRange) :
    fieldAt c.bytes 0 8 = c.base.toNat ∧ fieldAt c.bytes 8 4 = c.slots ∧ fieldAt c.bytes 16 2 = c.holdLimit
      ∧ fieldAt c.bytes 18 2 = c.voteWindow ∧ fieldAt c.bytes 20 2 = c.quota := by
  obtain ⟨-, hslots, ⟨-, hhold⟩, hwindow, -, hquota⟩ := h
  obtain ⟨hbase, hs, -, -, -, -, hh, hv, hq, -⟩ := c.shownBy_bytes
  exact ⟨hbase, hs.trans (Nat.mod_eq_of_lt (by omega)), hh.trans (Nat.mod_eq_of_lt (by omega)),
    hv.trans (Nat.mod_eq_of_lt (by omega)), hq.trans (Nat.mod_eq_of_lt (by omega))⟩

theorem GroupConfig.byteAt_bytes (c : GroupConfig) : byteAt c.bytes 12 = setByte c.participants
    ∧ byteAt c.bytes 13 = c.policy.code ∧ byteAt c.bytes 14 = flagByte c.autoOpen := by
  refine ⟨?_, ?_, ?_⟩ <;> simp [GroupConfig.bytes]

theorem GroupConfig.configInRange_bytes {c : GroupConfig} (h : c.inRange) :
    configInRange { off := 0, data := c.bytes } = true := by
  have hlen := c.bytes_length
  obtain ⟨hbase, hslots, hhold, hwindow, hquota⟩ := GroupConfig.fields_bytes h
  obtain ⟨hset, hpolicy, hauto⟩ := c.byteAt_bytes
  refine (configInRange_iff _).2 ⟨fun v hv => ?_, fun v hv => ?_,
    fun v => Span.value_whole_byte_le (by omega) (hset ▸ setByte_le _),
    fun v => Span.value_whole_byte_le (by omega) (hpolicy ▸ c.policy.code_le),
    fun v => Span.value_whole_byte_le (by omega) (hauto ▸ flagByte_le _), fun v hv => ?_, fun v hv => ?_⟩
  · rw [Span.value_whole_eq (by omega) hbase hv]
    exact ⟨c.base.isLt, h.aligned⟩
  · rw [Span.value_whole_eq (by omega) hslots hv]
    exact h.slots
  · rw [Span.value_whole_eq (by omega) hhold hv]
    exact h.holdLimit.1
  · rw [Span.value_whole_eq (by omega) hquota hv]
    exact h.quota

theorem GroupConfig.written_bytes {c : GroupConfig} (h : c.inRange) (old : GroupConfig) :
    old.written { off := 0, data := c.bytes } = c := by
  have hlen := c.bytes_length
  obtain ⟨hbase, hslots, hhold, hwindow, hquota⟩ := GroupConfig.fields_bytes h
  obtain ⟨hset, hpolicy, hauto⟩ := c.byteAt_bytes
  simp only [GroupConfig.written]
  rw [Span.pick_whole _ _ (by omega), Span.pick_whole _ _ (by omega), Span.pick_whole_byte _ _ (by omega),
    Span.pick_whole_byte _ _ (by omega), Span.pick_whole_byte _ _ (by omega), Span.pick_whole _ _ (by omega),
    Span.pick_whole _ _ (by omega), Span.pick_whole _ _ (by omega), hbase, hslots, hset, hpolicy, hauto, hhold, hwindow,
    hquota, setOfByte_setByte, Policy.ofCode_code, flagByte_ofCode]
  simp only [id, BitVec.ofNat_toNat, BitVec.setWidth_eq]

/-! ### Trigger configurations (R161) -/

theorem Trigger.takes_configBytes (x : Trigger) (n : TrigId) :
    (Writable.triggerConfig n).takes { off := 0, data := x.configBytes } = true :=
  Writable.takes_whole rfl ⟨rfl, rfl⟩ rfl nofun

theorem Trigger.triggerInRange_configBytes (x : Trigger) : triggerInRange { off := 0, data := x.configBytes } = true :=
  (triggerInRange_iff _).2 ⟨fun _ => Span.value_whole_byte_le (Nat.zero_lt_two) x.action.code_le,
    fun _ => Span.value_whole_byte_le (Nat.one_lt_two) (setByte_le x.mask)⟩

theorem Trigger.written_configBytes (x old : Trigger) :
    old.written { off := 0, data := x.configBytes } = { old with action := x.action, mask := x.mask } := by
  have haction : byteAt x.configBytes 0 = x.action.code := rfl
  have hmask : byteAt x.configBytes 1 = setByte x.mask := rfl
  rw [Trigger.written, Span.pick_whole_byte _ _ Nat.zero_lt_two, Span.pick_whole_byte _ _ Nat.one_lt_two, haction, hmask,
    TriggerAction.ofCode_code, setOfByte_setByte]

/-- Settles O52: the bytes of each object carry its values, and decoding undoes coding. -/
theorem configurationBytesReadBack : Obligations.ConfigurationBytesReadBack :=
  ⟨fun d old i => ⟨d.bytes_length, d.takes_bytes i, d.shadowInRange_bytes, d.written_bytes old⟩,
    fun c old g haligned hslots hlow hhigh hwindow hqlow hqhigh =>
      have h : c.inRange := ⟨haligned, hslots, ⟨hlow, hhigh⟩, hwindow, ⟨hqlow, hqhigh⟩⟩
      ⟨c.bytes_length, c.takes_bytes g, GroupConfig.configInRange_bytes h, GroupConfig.written_bytes h old⟩,
    fun x old n => ⟨rfl, x.takes_configBytes n, x.triggerInRange_configBytes, x.written_configBytes old⟩⟩

/-! ### Record slots (R88, R90) -/

section
variable (g : GroupId) (st : JournalStep) {contents : List Byte}

/-- A record slot, its fields one behind the other. -/
theorem recordSlot_eq (contents : List Byte) : ∃ sum, recordSlot g st contents =
    [0xA5#8, BitVec.ofNat 8 g.val, BitVec.ofNat 8 st.level, levelByte st.prior] ++ (leBytes 4 st.epoch.toNat
      ++ (leBytes 2 st.sequence ++ (zeroBytes 2 ++ (leBytes 4 st.block.toNat ++ (contents ++ (zeroBytes 44 ++ sum)))))) := by
  simp only [recordSlot, sealSlot, List.append_assoc]
  exact ⟨_, rfl⟩

theorem recordSlot_bytes (contents : List Byte) :
    byteAt (recordSlot g st contents) 0 = 0xA5#8 ∧ byteAt (recordSlot g st contents) 1 = BitVec.ofNat 8 g.val
      ∧ byteAt (recordSlot g st contents) 2 = BitVec.ofNat 8 st.level
      ∧ byteAt (recordSlot g st contents) 3 = levelByte st.prior := ⟨rfl, rfl, rfl, rfl⟩

theorem recordSlot_fields (contents : List Byte) : fieldAt (recordSlot g st contents) 4 4 = st.epoch.toNat
    ∧ fieldAt (recordSlot g st contents) 8 2 = st.sequence % 65536
    ∧ fieldAt (recordSlot g st contents) 12 4 = st.block.toNat := by
  obtain ⟨sum, hslot⟩ := recordSlot_eq g st contents
  have hblock := toNat_mod_of_le st.block (by decide : 2 ^ 30 ≤ 4294967296)
  rw [hslot]
  exact ⟨by simp [epoch_lt], by simp, by simpa using hblock⟩

theorem recordContents_recordSlot (h : contents.length = 64) : recordContents (recordSlot g st contents) = contents := by
  obtain ⟨sum, hslot⟩ := recordSlot_eq g st contents
  have hdrop : (recordSlot g st contents).drop 16 = contents ++ (zeroBytes 44 ++ sum) := by
    rw [hslot]
    rfl
  rw [recordContents, hdrop, ← h, List.take_left]

theorem matchesRecord_recordSlot (h : contents.length = 64) (hsequence : st.sequence ≤ 65535) (k : GroupId) (e : Epoch)
    (n : Nat) : matchesRecord k e n (recordSlot g st contents) = true ↔ k = g ∧ e = st.epoch ∧ n = st.sequence := by
  obtain ⟨hmark, hgroup, -, -⟩ := recordSlot_bytes g st contents
  obtain ⟨hepoch, hseq, -⟩ := recordSlot_fields g st contents
  have hval : (BitVec.ofNat 8 g.val).toNat = g.val := by
    rw [BitVec.toNat_ofNat]
    omega
  simp only [matchesRecord, hmark, hgroup, hepoch, hseq, hval, checkGood_recordSlot g st contents h, beq_self_eq_true,
    Bool.true_and, Bool.and_true, Bool.and_eq_true, decide_eq_true_eq, Nat.mod_eq_of_lt (show st.sequence < 65536 by omega),
    and_assoc]
  rw [← Fin.ext_iff, BitVec.toNat_inj, eq_comm, eq_comm (a := st.epoch), eq_comm (a := st.sequence)]

theorem recordLevel_recordSlot (contents : List Byte) (h : st.level ≤ 7) :
    recordLevel (recordSlot g st contents) = st.level := by
  obtain ⟨-, -, hlevel, -⟩ := recordSlot_bytes g st contents
  rw [recordLevel, hlevel, BitVec.toNat_ofNat]
  omega

theorem recordPrior_recordSlot (contents : List Byte) (h : ∀ l, st.prior = some l → l ≤ 7) :
    recordPrior (recordSlot g st contents) = st.prior := by
  obtain ⟨-, -, -, hprior⟩ := recordSlot_bytes g st contents
  rw [recordPrior, hprior]
  cases hp : st.prior with
  | none => rfl
  | some l =>
    have hl := h l hp
    interval_cases l <;> rfl

theorem recordBlock_recordSlot (contents : List Byte) : recordBlock (recordSlot g st contents) = st.block := by
  obtain ⟨-, -, hblock⟩ := recordSlot_fields g st contents
  rw [recordBlock, hblock, BitVec.ofNat_toNat, BitVec.setWidth_eq]

end

/-! ### Header slots (R89, R91, R97) -/

section
variable (g : GroupId) (y : Copy) (h : HeaderState) (e : Epoch) (n : Nat)

theorem headerSlot_bytes : byteAt (headerSlot g y h e n) 0 = 0x5A#8 ∧ byteAt (headerSlot g y h e n) 1 = BitVec.ofNat 8 g.val
    ∧ byteAt (headerSlot g y h e n) 2 = BitVec.ofNat 8 y.slot ∧ byteAt (headerSlot g y h e n) 3 = h.code :=
  ⟨rfl, rfl, rfl, rfl⟩

theorem headerSlot_fields : fieldAt (headerSlot g y h e n) 4 4 = e.toNat
    ∧ fieldAt (headerSlot g y h e n) 8 4 = n % 4294967296 := by
  refine ⟨?_, ?_⟩ <;> simp [headerSlot, sealSlot, epoch_lt]

theorem Copy.slot_inj {y z : Copy} : y.slot = z.slot ↔ y = z := by
  cases y <;> cases z <;> decide

theorem headerWellFormed_headerSlot (he : e.toNat ≤ 0xFFFFFFFE) (k : GroupId) (z : Copy) :
    headerWellFormed k z (headerSlot g y h e n) = decide (k = g ∧ z = y) := by
  obtain ⟨hmark, hgroup, hcopy, hstate⟩ := headerSlot_bytes g y h e n
  obtain ⟨hepoch, -⟩ := headerSlot_fields g y h e n
  have hval : (BitVec.ofNat 8 g.val).toNat = g.val := by
    rw [BitVec.toNat_ofNat]
    omega
  have hslot : (BitVec.ofNat 8 y.slot).toNat = y.slot := by cases y <;> rfl
  have hcode : 1 ≤ h.code.toNat ∧ h.code.toNat ≤ 3 := by cases h <;> decide
  simp only [headerWellFormed, hmark, hgroup, hcopy, hstate, hepoch, hval, hslot, checkGood_headerSlot g y h e n,
    beq_self_eq_true, decide_eq_true hcode.1, decide_eq_true hcode.2, decide_eq_true he, Bool.true_and, Bool.and_true,
    ← Bool.decide_and, ← Fin.ext_iff, Copy.slot_inj, eq_comm (b := k), eq_comm (b := z)]

theorem judgeHeader_headerSlot (he : e.toNat ≤ 0xFFFFFFFE) (hn : n ≤ 65536) (k : GroupId) (z : Copy) (m : Nat) :
    judgeHeader k z m (headerSlot g y h e n)
      = if k = g ∧ z = y then (if m = n then .valid e else .otherSize) else .malformed := by
  obtain ⟨hepoch, hslots⟩ := headerSlot_fields g y h e n
  rw [judgeHeader, headerWellFormed_headerSlot g y h e n he, hepoch, hslots,
    Nat.mod_eq_of_lt (show n < 4294967296 by omega), BitVec.ofNat_toNat, BitVec.setWidth_eq]
  simp only [decide_eq_true_eq, eq_comm (a := n)]

end

/-! ### Cleared slots (R88) -/

theorem matchesRecord_cleared (g : GroupId) (e : Epoch) (n : Nat) :
    matchesRecord g e n (List.replicate 128 0#8) = false := by
  simp [matchesRecord]

theorem judgeHeader_cleared (g : GroupId) (y : Copy) (m : Nat) :
    judgeHeader g y m (List.replicate 128 0#8) = .malformed := by
  simp [judgeHeader, headerWellFormed]

/-- Settles O51: the fields of the slots at their places, with their checks. -/
theorem mediaSlotsReadBack : Obligations.MediaSlotsReadBack :=
  ⟨fun g st contents hlength hlevel hprior hsequence => ⟨recordSlot_length g st contents hlength,
      matchesRecord_recordSlot g st hlength hsequence, recordLevel_recordSlot g st contents hlevel,
      recordPrior_recordSlot g st contents hprior, recordBlock_recordSlot g st contents,
      recordContents_recordSlot g st hlength⟩,
    fun g y h e n he hn => ⟨headerSlot_length g y h e n, judgeHeader_headerSlot g y h e n he hn⟩,
    fun g y e n m => ⟨matchesRecord_cleared g e n, judgeHeader_cleared g y m⟩⟩

end Sys2Proof.Machine
end

section
/-! A group's own transactions and FORMAT and RECOVER (R87, R92 to R101, R156): what an answer to one of them comes to, and each step of the two. -/

namespace Sys2Proof.Machine

/-! ### The answer to a group's own transaction (R156) -/

@[simp] theorem State.placeFreed_group (s : State) (i : PlaceId) (g : GroupId) : (s.placeFreed i).group g = s.group g := rfl

@[simp] theorem State.placeFreed_port (s : State) (i : PlaceId) (p : PortId) : (s.placeFreed i).port p = s.port p := rfl

section
variable {s : State} {i : PlaceId} {g : GroupId} {r : Role} {n : Nat} {role : Role → Bool}
  {onOk : GroupId → Role → List Byte → State → State} {onError : GroupId → Role → State → State}

/-- The row of a live own transaction's role frees the place and takes the answer. -/
theorem State.takeOwn_of_ownAt (h : s.ownAt i g r n) (hrole : role r = true) (a : MemAnswer) :
    s.takeOwn i a role onOk onError = .next (match a with
      | .ok data => onOk g r (fitBytes n data) (s.placeFreed i)
      | .error => onError g r (s.placeFreed i)) := by
  obtain ⟨hpin, x, hplace, hsource, hlive, rfl, rfl⟩ := h
  have hown : x.ownGroup = some g := by rw [Txn.ownGroup, hsource, hlive]
  have hwanted : ((x.ownGroup.isSome && role x.role) = true) ∧ s.resetPin = false := by
    rw [hown, hrole]
    exact ⟨rfl, hpin⟩
  rw [State.takeOwn, State.takeAnswer, hplace]
  refine (if_pos hwanted).trans ?_
  rw [hown]
  cases a <;> rfl

theorem State.takeOwn_ok (h : s.ownAt i g r n) (hrole : role r = true) (data : List Byte) :
    s.takeOwn i (.ok data) role onOk onError = .next (onOk g r (fitBytes n data) (s.placeFreed i)) :=
  State.takeOwn_of_ownAt h hrole (.ok data)

theorem State.takeOwn_error (h : s.ownAt i g r n) (hrole : role r = true) :
    s.takeOwn i .error role onOk onError = .next (onError g r (s.placeFreed i)) :=
  State.takeOwn_of_ownAt h hrole .error

end

/-! ### Each row's answer OK (R156) -/

section
variable {s : State} {i : PlaceId} {g : GroupId} {n : Nat} (data : List Byte)

theorem exec_oldBlockRead_ok (h : s.ownAt i g .oldBlockRead n) :
    exec (.oldBlockRead i (.ok data)) s = .next ((s.placeFreed i).writeRecord g (fitBytes n data)) := by
  rw [exec, execOldBlockRead]
  exact State.takeOwn_ok h rfl data

theorem exec_recordWrite_ok (h : s.ownAt i g .recordWrite n) :
    exec (.recordWrite i (.ok data)) s = .next ((s.placeFreed i).finishRecord g) := by
  rw [exec, execRecordWrite]
  exact State.takeOwn_ok h rfl data

theorem exec_clearPhaseWrite_ok (h : s.ownAt i g .clearPhase n) :
    exec (.clearPhaseWrite i (.ok data)) s = .next ((s.placeFreed i).nextPop g) := by
  rw [exec, execClearPhaseWrite]
  exact State.takeOwn_ok h rfl data

theorem exec_recordRead_ok (h : s.ownAt i g .popRead n) :
    exec (.recordRead i (.ok data)) s = .next ((s.placeFreed i).slotRead g (fitBytes n data)) := by
  rw [exec, execRecordRead]
  exact State.takeOwn_ok h rfl data

theorem exec_restoreWrite_ok {b : Block} {prior : Option Nat} (h : s.ownAt i g (.popRestore b prior) n) :
    exec (.restoreWrite i (.ok data)) s = .next ((s.placeFreed i).clearPopped g (.popRestore b prior)) := by
  rw [exec, execRestoreWrite]
  exact State.takeOwn_ok h rfl data

theorem exec_popComplete_ok {b : Block} {prior : Option Nat} (h : s.ownAt i g (.popClear b prior) n) :
    exec (.popComplete i (.ok data)) s = .next ((s.placeFreed i).popDone g (.popClear b prior)) := by
  rw [exec, execPopComplete]
  exact State.takeOwn_ok h rfl data

theorem exec_commitHeaderWrite_ok (h : s.ownAt i g .commitHeader n) :
    exec (.commitHeaderWrite i (.ok data)) s = .next (((s.placeFreed i).commitPoint g).retakeAll) := by
  rw [exec, execCommitHeaderWrite]
  exact State.takeOwn_ok h rfl data

theorem exec_rollbackHeaderWrite_ok (h : s.ownAt i g .rollbackHeader n) :
    exec (.rollbackHeaderWrite i (.ok data)) s = .next (((s.placeFreed i).rollbackClose g).retakeAll) := by
  rw [exec, execRollbackHeaderWrite]
  exact State.takeOwn_ok h rfl data

theorem exec_formatClearingWrite_ok {slot : Nat} (h : s.ownAt i g (.formatClear slot) n) :
    exec (.formatClearingWrite i (.ok data)) s = .next ((s.placeFreed i).formatCleared g (.formatClear slot)) := by
  rw [exec, execFormatClearingWrite]
  exact State.takeOwn_ok h rfl data

theorem exec_formatHeaderWrite_ok {y : Copy} (h : s.ownAt i g (.formatHeader y) n) :
    exec (.formatHeaderWrite i (.ok data)) s = .next ((s.placeFreed i).formatHeaderDone g (.formatHeader y)) := by
  rw [exec, execFormatHeaderWrite]
  exact State.takeOwn_ok h rfl data

theorem exec_headerRead_ok {y : Copy} (h : s.ownAt i g (.headerRead y) n) :
    exec (.headerRead i (.ok data)) s = .next ((s.placeFreed i).headerWasRead g (.headerRead y) (fitBytes n data)) := by
  rw [exec, execHeaderRead]
  exact State.takeOwn_ok h rfl data

theorem exec_scanRead_ok (h : s.ownAt i g .scanRead n) :
    exec (.scanRead i (.ok data)) s = .next ((s.placeFreed i).slotScanned g (fitBytes n data)) := by
  rw [exec, execScanRead]
  exact State.takeOwn_ok h rfl data

theorem exec_replayRead_ok (h : s.ownAt i g .replayRead n) :
    exec (.replayRead i (.ok data)) s = .next ((s.placeFreed i).slotReplayed g (fitBytes n data)) := by
  rw [exec, execReplayRead]
  exact State.takeOwn_ok h rfl data

theorem exec_recoveryRestoreWrite_ok {b : Block} (h : s.ownAt i g (.recoveryRestore b) n) :
    exec (.recoveryRestoreWrite i (.ok data)) s = .next ((s.placeFreed i).recordRestored g) := by
  rw [exec, execRecoveryRestoreWrite]
  exact State.takeOwn_ok h rfl data

theorem exec_recoveryHeaderWrite_ok (h : s.ownAt i g .recoveryHeader n) :
    exec (.recoveryHeaderWrite i (.ok data)) s = .next ((s.placeFreed i).recoveryClosed g) := by
  rw [exec, execRecoveryHeaderWrite]
  exact State.takeOwn_ok h rfl data

end

/-! ### Handing on (R87, R88, R91) -/

section
variable (s : State) (g : GroupId) (f : Group → Group)

theorem State.handSlotRead_eq (slot : Nat) (r : Role) :
    s.handSlotRead g slot r = s.handOn ((s.group g).slotRead g slot r) := rfl

theorem State.handClearing_eq (slot : Nat) (r : Role) :
    s.handClearing g slot r = s.handOn ((s.group g).clearing g slot r) := rfl

/-- The bit of R91: an even epoch number closes by copy A, an odd one by copy B. -/
theorem copyFor_eq (e : Epoch) : copyFor e = if e.toNat % 2 = 0 then .a else .b := by
  have hbit : e.getLsbD 0 = decide (e.toNat % 2 = 1) := by
    rw [BitVec.getLsbD, Nat.testBit_zero]
  rw [copyFor, hbit]
  rcases Nat.mod_two_eq_zero_or_one e.toNat with h | h <;> simp [h]

theorem State.handHeader_eq (h : HeaderState) (r : Role) :
    s.handHeader g h r = s.handOn ((s.group g).closingHeader g h r) := by
  rw [State.handHeader, Group.closingHeader, Group.currentEpoch, copyFor_eq]
  by_cases heven : ((s.group g).closedEpoch + 1).toNat % 2 = 0
  · rw [if_pos heven, if_pos heven, State.handSlotWrite]
    congr 2
    simp [Group.slotAddr, Copy.slot]
  · rw [if_neg heven, if_neg heven]
    rfl

theorem State.handOn_modGroup_mem (x : Txn) : ((s.modGroup g f).handOn x).mem = (s.handOn x).mem := rfl

end

/-- One group replaced. -/
theorem State.group_of_groups {t : State} {v : Four Group} {g : GroupId} {x : Group} (h : t.groups = v.set g x) :
    t.group g = x := by
  rw [State.group, h, Four.get_set_self]

/-- One group replaced keeps the others, whatever else moves. -/
theorem State.othersKept_of_groups {s t : State} {g : GroupId} {x : Group} (h : t.groups = s.groups.set g x) :
    s.othersKept t g := fun k hk => by
  rw [State.group, h, Four.get_set_ne _ _ hk]
  rfl

@[simp] theorem State.isLatched_latch (s : State) (c : Cause) : (s.latch c).isLatched c = true := by
  rw [State.isLatched, State.latch, BitVec.getLsbD_or, Cause.flag, BitVec.getLsbD_ofNat]
  simp [c.bit_lt]

/-! ### FORMAT (R92 to R94) -/

theorem State.decideAs_format_of_unverified {s : State} {g : GroupId} (h : (s.group g).state = .unverified) :
    s.tick.decideAs (.format g) = (s.tick.beginFormat g).modMgmt fun m => m.responded (some (Response.plain .accepted)) := by
  rw [State.decideAs, State.carryOut, State.format, if_pos (show (s.tick.group g).state = .unverified from h)]

theorem State.decideAs_format_of_other {s : State} {g : GroupId} (h : (s.group g).state ≠ .unverified) :
    s.tick.decideAs (.format g) = s.answeredWith .state := by
  refine State.decideAs_of_refusal ?_
  rw [State.carryOut, State.format, if_neg (show ¬ (s.tick.group g).state = .unverified from h)]
  rfl

theorem State.handFormatHeader_eq (s : State) (g : GroupId) (y : Copy) : s.handFormatHeader g y = s.handOn
    (ownOf g .journal .write ((s.group g).config.base + BitVec.ofNat 36 (128 * y.slot)) 128
      (headerSlot g y .formatted 0 (s.group g).config.slots) (.formatHeader y)) := rfl

/-- Settles O47: each event of a FORMAT, from its acceptance to the header of copy B. -/
theorem formatRunsToClosed : Obligations.FormatRunsToClosed := by
  refine ⟨fun s g h => ⟨_, exec_of_awaits (c := .format) h rfl, fun hstate => ?accepted, State.decideAs_format_of_other⟩,
    fun s i g n data h => ?cleared, fun s i g data => ⟨fun h => exec_formatHeaderWrite_ok data h,
      fun h => ⟨_, exec_formatHeaderWrite_ok data h, ?closed, ?others, ?latched, rfl⟩⟩⟩
  case accepted =>
    rw [State.decideAs_format_of_unverified hstate]
    refine ⟨State.group_of_groups (v := s.groups) rfl, State.othersKept_of_groups rfl, ?_⟩
    rw [State.beginFormat, State.handClearing_eq, State.modGroup_group_self]
    rfl
  case cleared =>
    rw [exec_formatClearingWrite_ok data h, State.formatCleared]
    split
    next => rfl
    next =>
      rw [State.handFormatHeader_eq, show BitVec.ofNat 36 (128 * Copy.a.slot) = 0#36 from rfl, BitVec.add_zero]
      rfl
  case closed => exact State.group_of_groups (v := s.groups) rfl
  case others => exact State.othersKept_of_groups rfl
  case latched => exact State.isLatched_latch ..

/-! ### RECOVER up to the replay (R96 to R99, R101) -/

theorem State.decideAs_recover_of_unverified {s : State} {g : GroupId} (h : (s.group g).state = .unverified) :
    s.tick.decideAs (.recover g)
      = (s.tick.beginRecover g).modMgmt fun m => m.responded (some (Response.plain .accepted)) := by
  rw [State.decideAs, State.carryOut, State.recover, if_pos (show (s.tick.group g).state = .unverified from h)]

theorem State.decideAs_recover_of_other {s : State} {g : GroupId} (h : (s.group g).state ≠ .unverified) :
    s.tick.decideAs (.recover g) = s.answeredWith .state := by
  refine State.decideAs_of_refusal ?_
  rw [State.carryOut, State.recover, if_neg (show ¬ (s.tick.group g).state = .unverified from h)]
  rfl

theorem Group.recoveryContext_of_some {y : Group} {x : RecoveryContext} (h : y.recovery = some x) : y.recoveryContext = x := by
  rw [Group.recoveryContext, h]
  rfl

/-- The choice takes copy A where its epoch is not below that of copy B (R98). -/
theorem chooseHeader_a {ja jb : CopyJudgement} {e : Epoch} (ha : ja = .valid e)
    (hb : ∀ f, jb = .valid f → f.toNat ≤ e.toNat) : chooseHeader ja jb = .chosen .a e := by
  subst ha
  cases jb with
  | malformed => rfl
  | otherSize => rfl
  | valid f => exact if_neg (hb f rfl).not_gt

theorem chooseHeader_b {ja jb : CopyJudgement} {e : Epoch} (hb : jb = .valid e)
    (ha : ∀ f, ja = .valid f → f.toNat < e.toNat) : chooseHeader ja jb = .chosen .b e := by
  subst hb
  cases ja with
  | malformed => rfl
  | otherSize => rfl
  | valid f => exact if_pos (ha f rfl)

section
variable {s : State} {g : GroupId}

theorem State.choose_chosen {jb : CopyJudgement} {y : Copy} {e : Epoch}
    (h : chooseHeader (s.group g).recoveryContext.judgedA jb = .chosen y e) : s.choose g jb = s.chooseCopy g y e := by
  rw [State.choose, h]

/-- With neither copy valid the recovery ends in UNVERIFIED (R98). -/
theorem State.choose_none {jb : CopyJudgement} (ha : ∀ e, (s.group g).recoveryContext.judgedA ≠ .valid e)
    (hb : ∀ e, jb ≠ .valid e) : s.choose g jb = s.endRecovery g .unverified { RecoveryResult.reset with
      outcome := if (s.group g).recoveryContext.judgedA = .otherSize ∨ jb = .otherSize then .areaMismatch else .noJournal } := by
  rw [State.choose]
  cases hja : (s.group g).recoveryContext.judgedA with
  | valid e => exact absurd hja (ha e)
  | malformed | otherSize =>
    cases jb with
    | valid e => exact absurd rfl (hb e)
    | malformed | otherSize => rfl

theorem State.endRecovery_group (st : GroupState) (r : RecoveryResult) : (s.endRecovery g st r).group g
    = { s.group g with state := st, recovery := none, recoveryResult := r } :=
  State.group_of_groups (v := s.groups) rfl

theorem State.othersKept_endRecovery (st : GroupState) (r : RecoveryResult) : s.othersKept (s.endRecovery g st r) g :=
  State.othersKept_of_groups rfl

theorem State.chooseCopy_group (y : Copy) (e : Epoch) : (s.chooseCopy g y e).group g = { s.group g with
    closedEpoch := e, recovery := some { (s.group g).recoveryContext with chosen := some y, named := e } } :=
  State.group_of_groups (v := s.groups) rfl

theorem State.chooseCopy_mem (y : Copy) (e : Epoch) (h : (s.group g).journalLength = 0) :
    (s.chooseCopy g y e).mem = (s.handOn ((s.group g).slotRead g 2 .scanRead)).mem := by
  rw [State.chooseCopy, State.scanNext, State.handSlotRead_eq, State.handOn_modGroup_mem, State.modGroup_group_self, h]
  rfl

end

section
variable {s : State} {g : GroupId} {slot : List Byte}

/-- The next slot of a scan, with its number from the count. -/
theorem State.scanNext_mem (f : Group → Group) {n : Nat} (h : 2 + (f (s.group g)).journalLength = n)
    (hconfig : (f (s.group g)).config = (s.group g).config) :
    ((s.modGroup g f).scanNext g).mem = (s.handOn ((s.group g).slotRead g n .scanRead)).mem := by
  rw [State.scanNext, State.handSlotRead_eq, State.modGroup_group_self, h, State.handOn_modGroup_mem, Group.slotRead, hconfig]
  rfl

theorem State.replayNext_mem (f : Group → Group) {n : Nat} (h : 1 + (f (s.group g)).journalLength = n)
    (hconfig : (f (s.group g)).config = (s.group g).config) :
    ((s.modGroup g f).replayNext g).mem = (s.handOn ((s.group g).slotRead g n .replayRead)).mem := by
  rw [State.replayNext, State.handSlotRead_eq, State.modGroup_group_self, h, State.handOn_modGroup_mem, Group.slotRead, hconfig]
  rfl

theorem State.slotScanned_of_match
    (h : matchesRecord g ((s.group g).closedEpoch + 1) ((s.group g).journalLength + 1) slot = true) :
    s.slotScanned g slot = s.countRecord g := if_pos h

theorem State.slotScanned_of_no_match
    (h : matchesRecord g ((s.group g).closedEpoch + 1) ((s.group g).journalLength + 1) slot = false) :
    s.slotScanned g slot = s.endScan g := if_neg (Bool.eq_false_iff.1 h)

theorem State.countRecord_of_lt (h : (s.group g).journalLength + 1 < (s.group g).config.slots - 2) : s.countRecord g
    = (s.modGroup g fun x => { x with journalLength := x.journalLength + 1 }).scanNext g := if_pos h

theorem State.countRecord_of_ge (h : (s.group g).config.slots - 2 ≤ (s.group g).journalLength + 1) : s.countRecord g
    = (s.modGroup g fun x => { x with journalLength := x.journalLength + 1 }).endScan g := if_neg h.not_gt

theorem State.endScan_of_zero (h : (s.group g).journalLength = 0) :
    s.endScan g = s.endRecovery g .closed ((s.group g).recoveryReport .clean) := if_pos h

theorem State.endScan_of_ne (h : (s.group g).journalLength ≠ 0) : s.endScan g
    = (s.modGroup g fun x => { x with recovery := some { x.recoveryContext with found := some x.journalLength } }).replayNext g :=
  if_neg h

theorem Group.recoveryReport_of_some {y : Group} {x : RecoveryContext} (h : y.recovery = some x) (o : RecoveryOutcome) :
    y.recoveryReport o = {
      copy := x.chosen, closedFound := x.named, found := x.found.getD y.journalLength,
      replayed := x.found.getD y.journalLength - y.journalLength, outcome := o } := by
  rw [Group.recoveryReport, Group.recoveryContext_of_some h]

end

/-- Two changes of one group make one. -/
theorem State.modGroup_modGroup (s : State) (g : GroupId) (f h : Group → Group) :
    (s.modGroup g f).modGroup g h = s.modGroup g fun x => h (f x) := by
  have hset : ∀ (v : Four Group) (x y : Group), (v.set g x).set g y = v.set g y := fun v x y =>
    Four.ext_get _ _ fun k => by
      rw [Four.get_set, Four.get_set, Four.get_set]
      split <;> rfl
  rw [State.modGroup, State.modGroup_group_self, State.setGroup, State.modGroup_groups, hset]
  rfl

section
variable {s : State} {g : GroupId} {x : RecoveryContext}

theorem State.othersKept_choose (jb : CopyJudgement) : s.othersKept (s.choose g jb) g := by
  rw [State.choose]
  split <;> exact State.othersKept_of_groups rfl

/-- The scan that ends takes the replay to the newest record, or the recovery to CLEAN (R99, R101). -/
theorem State.endScan_spec (hx : (s.group g).recovery = some x) (hfound : x.found = none) :
    s.othersKept (s.endScan g) g ∧ ((s.endScan g).group g).closedEpoch = (s.group g).closedEpoch
      ∧ ((s.endScan g).group g).journalLength = (s.group g).journalLength
      ∧ ((s.group g).journalLength = 0 → ((s.endScan g).group g).state = .closed
        ∧ (s.endScan g).isLatched (.recoveryDone g) = true ∧ (s.endScan g).mem = s.mem
        ∧ ((s.endScan g).group g).recoveryResult
          = { copy := x.chosen, closedFound := x.named, found := 0, replayed := 0, outcome := .clean })
      ∧ ((s.group g).journalLength ≠ 0 →
        ((s.endScan g).group g).recovery = some { x with found := some (s.group g).journalLength }
        ∧ (s.endScan g).mem = (s.handOn ((s.group g).slotRead g (1 + (s.group g).journalLength) .replayRead)).mem) := by
  by_cases hlength : (s.group g).journalLength = 0
  · rw [State.endScan_of_zero hlength, State.endRecovery_group, Group.recoveryReport_of_some hx, hlength, hfound]
    exact ⟨State.othersKept_endRecovery _ _, rfl, rfl, fun _ => ⟨rfl, State.isLatched_latch .., rfl, rfl⟩,
      fun h => absurd rfl h⟩
  · rw [State.endScan_of_ne hlength]
    have hgroup : ∀ slot r, (((s.modGroup g fun y =>
        { y with recovery := some { y.recoveryContext with found := some y.journalLength } }).handSlotRead g slot r).group g)
        = { s.group g with recovery := some { x with found := some (s.group g).journalLength } } := fun slot r => by
      rw [State.handSlotRead_eq, State.handOn_group, State.modGroup_group_self, Group.recoveryContext_of_some hx]
    rw [State.replayNext_mem _ rfl rfl, State.replayNext, hgroup]
    exact ⟨State.othersKept_of_groups rfl, rfl, rfl, fun h => absurd h hlength, fun _ => ⟨rfl, rfl⟩⟩

/-- A record that is counted lets the scan go on to the next slot, or ends it at the end of the area (R99). -/
theorem State.countRecord_spec (hx : (s.group g).recovery = some x) (hfound : x.found = none) :
    s.othersKept (s.countRecord g) g ∧ ((s.countRecord g).group g).closedEpoch = (s.group g).closedEpoch
      ∧ ((s.countRecord g).group g).journalLength = (s.group g).journalLength + 1
      ∧ ((s.group g).journalLength + 1 < (s.group g).config.slots - 2 → (s.countRecord g).mem
        = (s.handOn ((s.group g).slotRead g (3 + (s.group g).journalLength) .scanRead)).mem)
      ∧ ((s.group g).config.slots - 2 ≤ (s.group g).journalLength + 1 →
        ((s.countRecord g).group g).recovery = some { x with found := some ((s.group g).journalLength + 1) }
        ∧ (s.countRecord g).mem
          = (s.handOn ((s.group g).slotRead g (2 + (s.group g).journalLength) .replayRead)).mem) := by
  rcases Nat.lt_or_ge ((s.group g).journalLength + 1) ((s.group g).config.slots - 2) with hlt | hge
  · rw [State.countRecord_of_lt hlt, State.scanNext_mem (n := 3 + (s.group g).journalLength) _ (Nat.add_right_comm 2 _ 1) rfl, State.scanNext,
      State.handSlotRead_eq, State.handOn_group, State.modGroup_group_self]
    exact ⟨State.othersKept_of_groups rfl, rfl, rfl, fun _ => rfl, fun h => absurd hlt h.not_gt⟩
  · rw [State.countRecord_of_ge hge]
    have hgroup := s.modGroup_group_self g fun y => { y with journalLength := y.journalLength + 1 }
    obtain ⟨hothers, hepoch, hlength, -, hreplay⟩ :=
      State.endScan_spec (s := s.modGroup g fun y => { y with journalLength := y.journalLength + 1 }) (g := g) (x := x)
        (by rw [hgroup]; exact hx) hfound
    rw [hgroup] at hepoch hlength hreplay
    obtain ⟨hrecovery, hmem⟩ := hreplay (Nat.succ_ne_zero _)
    refine ⟨fun k hk => ?_, hepoch, hlength, fun h => absurd hge h.not_ge, fun _ => ⟨hrecovery, ?_⟩⟩
    · rw [hothers k hk, State.modGroup_group, if_neg hk]
    · rw [hmem, State.handOn_modGroup_mem, show 1 + ((s.group g).journalLength + 1) = 2 + (s.group g).journalLength by omega]
      rfl

end

/-- Settles O48: the reads of the two headers, the choice, and each slot of the scan. -/
theorem recoveryChoosesAndScans : Obligations.RecoveryChoosesAndScans := by
  refine ⟨fun s g h => ⟨_, exec_of_awaits (c := .recover) h rfl, fun hstate => ?accepted, State.decideAs_recover_of_other⟩,
    fun s i g data h => ⟨_, exec_headerRead_ok data h, ?judged, ?state, ?others, ?second⟩,
    fun s i g data x jb h hx hlength hjb => ⟨_, exec_headerRead_ok data h, ?_⟩,
    fun s i g data x h hx hfound => ⟨_, exec_scanRead_ok data h, ?_⟩⟩
  case accepted =>
    rw [State.decideAs_recover_of_unverified hstate]
    have hgroup : ((s.tick.beginRecover g).modMgmt fun m => m.responded (some (Response.plain .accepted))).group g
        = { s.group g with state := .recovering, journalLength := 0, recovery := some RecoveryContext.start } :=
      State.group_of_groups (v := s.groups) rfl
    rw [hgroup]
    refine ⟨rfl, rfl, State.othersKept_of_groups rfl, ?_⟩
    rw [State.beginRecover, State.handSlotRead_eq, State.modGroup_group_self]
    rfl
  case judged =>
    rw [State.headerWasRead, State.handSlotRead_eq, State.handOn_group, State.modGroup_group_self]
    rfl
  case state =>
    rw [State.headerWasRead, State.handSlotRead_eq, State.handOn_group, State.modGroup_group_self]
    rfl
  case others => exact State.othersKept_of_groups rfl
  case second =>
    rw [State.headerWasRead, State.handSlotRead_eq, State.handOn_modGroup_mem, State.modGroup_group_self]
    rfl
  · have hcontext : ((s.placeFreed i).group g).recoveryContext = x := Group.recoveryContext_of_some hx
    rw [State.headerWasRead, State.placeFreed_group, hjb]
    refine ⟨State.othersKept_choose (s := s.placeFreed i) jb, fun y e hye => ?_, fun ha hb => ?_⟩
    · have hchosen : chooseHeader x.judgedA jb = .chosen y e := by
        rcases hye with ⟨rfl, ha, hb⟩ | ⟨rfl, hb, ha⟩
        · exact chooseHeader_a ha hb
        · exact chooseHeader_b hb ha
      have hchoose := State.choose_chosen (s := s.placeFreed i) (g := g) (hcontext.symm ▸ hchosen)
      have hgroup := State.chooseCopy_group (s := s.placeFreed i) (g := g) y e
      rw [hcontext] at hgroup
      rw [hchoose, hgroup]
      exact ⟨rfl, rfl, rfl, State.chooseCopy_mem (s := s.placeFreed i) y e hlength⟩
    · have hchoose := State.choose_none (s := s.placeFreed i) (g := g) (hcontext.symm ▸ ha) hb
      rw [hcontext] at hchoose
      rw [hchoose, State.endRecovery_group]
      exact ⟨rfl, rfl, State.isLatched_latch .., rfl, rfl⟩
  · cases hmatch : matchesRecord g ((s.group g).closedEpoch + 1) ((s.group g).journalLength + 1) (fitBytes 128 data) with
    | true =>
      rw [State.slotScanned_of_match (s := s.placeFreed i) hmatch]
      obtain ⟨hothers, hepoch, hrest⟩ := State.countRecord_spec (s := s.placeFreed i) hx hfound
      exact ⟨hothers, hepoch, fun _ => hrest, nofun⟩
    | false =>
      rw [State.slotScanned_of_no_match (s := s.placeFreed i) hmatch]
      obtain ⟨hothers, hepoch, hrest⟩ := State.endScan_spec (s := s.placeFreed i) hx hfound
      exact ⟨hothers, hepoch, nofun, fun _ => hrest⟩

/-! ### The replay (R100, R101) -/

theorem State.slotReplayed_of_match {s : State} {g : GroupId} {slot : List Byte}
    (h : matchesRecord g ((s.group g).closedEpoch + 1) (s.group g).journalLength slot = true) : s.slotReplayed g slot
      = s.handRestore g (recordBlock slot) (recordContents slot) (.recoveryRestore (recordBlock slot)) := if_pos h

/-- After the last restore the recovery hands on its closing header, and else the read of the next record (R100, R101). -/
theorem State.recordRestored_eq (s : State) (g : GroupId) : s.recordRestored g
    = (s.modGroup g fun x => { x with journalLength := x.journalLength - 1 }).handOn
      (if (s.group g).journalLength ≤ 1 then (s.group g).closingHeader g .rolledBack .recoveryHeader
        else (s.group g).slotRead g (s.group g).journalLength .replayRead) := by
  rw [State.recordRestored, State.afterRestore, State.modGroup_group_self]
  by_cases hlast : (s.group g).journalLength ≤ 1
  · rw [if_pos hlast, if_pos (show (s.group g).journalLength - 1 = 0 by omega), State.handHeader_eq,
      State.modGroup_group_self]
    rfl
  · rw [if_neg hlast, if_neg (show ¬ (s.group g).journalLength - 1 = 0 by omega), State.replayNext, State.handSlotRead_eq,
      State.modGroup_group_self, show 1 + ((s.group g).journalLength - 1) = (s.group g).journalLength by omega]
    rfl

theorem State.recoveryClosed_groups (s : State) (g : GroupId) : (s.recoveryClosed g).groups = s.groups.set g
    { s.group g with
      closedEpoch := (s.group g).closedEpoch + 1, state := .closed, lastClose := .recovery, recovery := none,
      recoveryResult := (s.group g).recoveryReport .replayed } := by
  rw [State.recoveryClosed, State.endRecovery, State.modGroup_modGroup]
  rfl

/-- Settles O49: the record read, the restore acknowledged, and the closing header acknowledged. -/
theorem replayRestoresAndCloses : Obligations.ReplayRestoresAndCloses := by
  refine ⟨fun s i g data h hmatch => ?_, fun s i g b data h => ⟨_, exec_recoveryRestoreWrite_ok data h, ?_, ?_, ?_⟩,
    fun s i g x n data h hx hn => ⟨_, exec_recoveryHeaderWrite_ok data h, ?_, ?_, State.isLatched_latch .., rfl⟩⟩
  · rw [exec_replayRead_ok data h, State.slotReplayed_of_match (s := s.placeFreed i) hmatch]
    rfl
  · rw [State.recordRestored_eq, State.handOn_group, State.modGroup_group_self]
    rfl
  · rw [State.recordRestored_eq]
    exact State.othersKept_of_groups rfl
  · rw [State.recordRestored_eq]
    rfl
  · have hgroup := State.group_of_groups ((s.placeFreed i).recoveryClosed_groups g)
    rw [State.placeFreed_group, Group.recoveryReport_of_some hx, hn] at hgroup
    exact hgroup
  · exact State.othersKept_of_groups ((s.placeFreed i).recoveryClosed_groups g)

end Sys2Proof.Machine
end

section
/-! The epoch channels' own tests and BEGIN (R139, R140). -/

namespace Sys2Proof.Machine

/-! ### The channel's tests (R139) -/

section
variable {s : State} {p : PortId} (meaning : GroupId → State → State)

theorem State.takesCommands_eq_false_iff : s.takesCommands p = false
    ↔ (s.port p).resetPin = true ∨ s.resetPin = true ∨ s.mgmt.resetting = true := by
  unfold State.takesCommands
  cases (s.port p).resetPin <;> cases s.resetPin <;> cases s.mgmt.resetting <;> decide

theorem State.takesCommands_of_deasserted (hport : (s.port p).resetPin = false) (hpin : s.resetPin = false)
    (hsoft : s.mgmt.resetting = false) : s.takesCommands p = true := by
  simp [State.takesCommands, hport, hpin, hsoft]

theorem State.takeCommand_of_deaf (h : s.takesCommands p = false) : s.takeCommand p meaning = s := by
  simp [State.takeCommand, h]

theorem State.takeCommand_of_busy (h : s.takesCommands p = true) (hbusy : (s.port p).channel ≠ none) :
    s.takeCommand p meaning = s.onlyAnswers s.clock p (.refused .busy) := by
  simp [State.takeCommand, h, Option.isSome_iff_ne_none, hbusy, State.refuseCommand_eq_onlyAnswers]

theorem State.takeCommand_of_noGroup (h : s.takesCommands p = true) (hidle : (s.port p).channel = none)
    (hgroup : ∀ g, (s.group g).config.participants.get p = false) :
    s.takeCommand p meaning = s.onlyAnswers s.clock p (.refused .noGroup) := by
  simp [State.takeCommand, h, hidle, (State.groupOf_eq_none_iff s p).2 hgroup, State.refuseCommand_eq_onlyAnswers]

end

/-- Every row of a named kind meets the channel's tests, at this event or, where it may hand on, at a new one. -/
theorem exec_channelCommand {c : Instr} {p : PortId} {a : Fin 8} (hc : c ∈ channelCommands p a) (s : State) :
    ∃ (n : Nat) (meaning : GroupId → State → State), exec c s = .next (({ s with clock := n } : State).takeCommand p meaning) := by
  simp only [channelCommands, List.mem_cons, List.not_mem_nil, or_false] at hc
  rcases hc with rfl | rfl | rfl | rfl | rfl | rfl
  case inl => exact ⟨s.clock, _, rfl⟩
  case inr.inl => exact ⟨s.clock, _, rfl⟩
  case inr.inr.inl => exact ⟨s.clock + 1, _, rfl⟩
  case inr.inr.inr.inl => exact ⟨s.clock + 1, _, rfl⟩
  case inr.inr.inr.inr.inl => exact ⟨s.clock + 1, _, rfl⟩
  case inr.inr.inr.inr.inr => exact ⟨s.clock, _, rfl⟩

theorem unknownCommand_not_mem_channelCommands (p : PortId) (code : Fin 2) (a : Fin 8) :
    Instr.unknownCommand p code a ∉ channelCommands p a := by
  simp [channelCommands]

theorem exec_unknownCommand_of_deaf {s : State} {p : PortId} (code : Fin 2) (a : Fin 8)
    (h : s.takesCommands p = false) : exec (.unknownCommand p code a) s = .next s := by
  simp [exec, execUnknownCommand, h]

theorem exec_unknownCommand_of_heard {s : State} {p : PortId} (code : Fin 2) (a : Fin 8)
    (h : s.takesCommands p = true) :
    exec (.unknownCommand p code a) s = .next (s.onlyAnswers s.clock p (.refused .unknownCommand)) := by
  simp [exec, execUnknownCommand, h, State.refuseCommand_eq_onlyAnswers]

/-- Settles O25: a named kind goes through the tests in their order, and UNKNOWN_COMMAND through the first alone. -/
theorem channelTestsComeFirst : Obligations.ChannelTestsComeFirst := by
  rintro s p a code c (hc | rfl)
  · obtain ⟨n, meaning, hexec⟩ := exec_channelCommand hc s
    refine ⟨_, hexec, fun hdeaf => ?_, fun hport hpin hsoft => ⟨?_, fun _ hbusy => ?_, fun _ hidle hgroup => ?_⟩⟩
    · rw [State.takeCommand_of_deaf (s := { s with clock := n }) _ (State.takesCommands_eq_false_iff.2 hdeaf)]
    · rintro rfl
      exact absurd hc (unknownCommand_not_mem_channelCommands p code a)
    · rw [State.takeCommand_of_busy (s := { s with clock := n }) _
        (State.takesCommands_of_deasserted hport hpin hsoft) hbusy]
      rfl
    · rw [State.takeCommand_of_noGroup (s := { s with clock := n }) _
        (State.takesCommands_of_deasserted hport hpin hsoft) hidle hgroup]
      rfl
  · have hnamed := unknownCommand_not_mem_channelCommands p code a
    cases h : s.takesCommands p with
    | false =>
      refine ⟨_, exec_unknownCommand_of_deaf code a h, fun _ => rfl, fun hport hpin hsoft => ?_⟩
      rw [State.takesCommands_of_deasserted hport hpin hsoft] at h
      cases h
    | true =>
      refine ⟨_, exec_unknownCommand_of_heard code a h, fun hdeaf => ?_, fun _ _ _ =>
        ⟨fun _ => rfl, fun hc => absurd hc hnamed, fun hc => absurd hc hnamed⟩⟩
      rw [State.takesCommands_eq_false_iff.2 hdeaf] at h
      cases h

/-! ### The opening of an epoch (R7, R8) -/

section
variable {s : State} {g : GroupId}

theorem State.openRefusal_of_pending (h : s.map.pending = true) : s.openRefusal g = some .mapPending := by
  simp [State.openRefusal, h]

theorem State.openRefusal_of_limit (h : s.map.pending = false) (hlast : (s.group g).closedEpoch = 0xFFFFFFFE#32) :
    s.openRefusal g = some .epochLimit := by
  simp [State.openRefusal, h, hlast, lastOpenable]

theorem State.openRefusal_of_room (h : s.map.pending = false) (hroom : (s.group g).closedEpoch.toNat ≤ 0xFFFFFFFD) :
    s.openRefusal g = none := by
  simp [State.openRefusal, h, lastOpenable]
  omega

theorem State.openEpoch_group (s : State) (g : GroupId) : (s.openEpoch g).group g = (s.group g).openedEpoch :=
  State.modGroup_group_self _ g _

theorem State.othersKept_openEpoch (s : State) (g : GroupId) : s.othersKept (s.openEpoch g) g :=
  State.othersKept_of_groups rfl

@[simp] theorem State.openEpoch_table (s : State) (g : GroupId) : (s.openEpoch g).table = dropGroup g s.table := rfl

/-- A group without entries. -/
theorem countP_dropGroup (g : GroupId) (l : List TrackEntry) : (dropGroup g l).countP (fun e => e.group == g) = 0 := by
  simp [dropGroup, List.countP_eq_zero]

theorem State.openEpoch_entriesOf (s : State) (g : GroupId) : (s.openEpoch g).entriesOf g = 0 :=
  countP_dropGroup g s.table

theorem State.beginClosed_of_refusal {o : OpenRefusal} (h : s.openRefusal g = some o) (p : PortId) :
    s.beginClosed g p = s.onlyAnswers s.clock p (.refused o.command) := by
  rw [State.beginClosed, h]
  rfl

theorem State.beginClosed_of_room (h : s.openRefusal g = none) (p : PortId) :
    s.beginClosed g p = (s.openEpoch g).answer p (.beginDone (s.group g).currentEpoch true) := by
  rw [State.beginClosed, h]

end

/-- Settles O26: BEGIN goes by the group's state, and in CLOSED by the refusals of an opening. -/
theorem beginFollowsTheGroupState : Obligations.BeginFollowsTheGroupState := by
  intro s p a g h
  refine ⟨s.begin g p, congrArg Host.Outcome.next (State.takeCommand_of_commands h _), ?_⟩
  cases hstate : (s.group g).state with
  | closed =>
    have hbegin : s.begin g p = s.beginClosed g p := by rw [State.begin, hstate]
    simp only [hbegin]
    refine ⟨fun hpending => State.beginClosed_of_refusal (State.openRefusal_of_pending hpending) p,
      fun hpending hlast => State.beginClosed_of_refusal (State.openRefusal_of_limit hpending hlast) p,
      fun hpending hroom => ?_⟩
    rw [State.beginClosed_of_room (State.openRefusal_of_room hpending hroom) p]
    exact ⟨s.openEpoch_group g, s.othersKept_openEpoch g, s.openEpoch_entriesOf g, rfl, rfl⟩
  | opened | voting | unwinding => simp only [State.begin, hstate]; rfl
  | committing | rollingBack | faulted => simp only [State.begin, hstate]; rfl
  | disabled | unverified | formatting | recovering => simp only [State.begin, hstate]; rfl

end Sys2Proof.Machine
end

section
/-! The heads of the queues (R124): what taking a stage does to a queue, its head and its port, for one port and for several at once. -/

namespace Sys2Proof.Machine

/-! ### The head of one queue -/

theorem headOf_nil : headOf [] = none := rfl

theorem headOf_cons (r : Request) (q : List Request) :
    headOf (r :: q) = if r.stage.undecided then some r else headOf q := by
  rw [headOf, List.find?_cons]
  cases r.stage.undecided <;> rfl

theorem mapHead_cons (f : Request → Request) (r : Request) (q : List Request) :
    mapHead f (r :: q) = if r.stage.undecided then f r :: q else r :: mapHead f q := rfl

/-- A head that stays undecided stays the head. -/
theorem headOf_mapHead {f : Request → Request} (h : ∀ r, (f r).stage.undecided = true) (q : List Request) :
    headOf (mapHead f q) = (headOf q).map f := by
  induction q with
  | nil => rfl
  | cons r q ih =>
    rw [mapHead_cons, headOf_cons]
    cases hr : r.stage.undecided with
    | true => simp [headOf_cons, h r]
    | false => simp [headOf_cons, hr, ih]

theorem mapHead_mapHead {f : Request → Request} (h : ∀ r, (f r).stage.undecided = true) (k : Request → Request)
    (q : List Request) : mapHead k (mapHead f q) = mapHead (fun r => k (f r)) q := by
  induction q with
  | nil => rfl
  | cons r q ih =>
    rw [mapHead_cons, mapHead_cons]
    cases hr : r.stage.undecided with
    | true => simp [mapHead_cons, h r]
    | false => simp [mapHead_cons, hr, ih]

/-- Requests that are decided stand before the head. -/
theorem headOf_append {older : List Request} (h : ∀ x ∈ older, x.stage.undecided = false) (q : List Request) :
    headOf (older ++ q) = headOf q := by
  induction older with
  | nil => rfl
  | cons x older ih =>
    rw [List.cons_append, headOf_cons, h x List.mem_cons_self]
    exact ih fun y hy => h y (List.mem_cons_of_mem x hy)

theorem mapHead_append {older : List Request} (h : ∀ x ∈ older, x.stage.undecided = false) (f : Request → Request)
    (q : List Request) : mapHead f (older ++ q) = older ++ mapHead f q := by
  induction older with
  | nil => rfl
  | cons x older ih =>
    rw [List.cons_append, mapHead_cons, h x List.mem_cons_self]
    exact congrArg (x :: ·) (ih fun y hy => h y (List.mem_cons_of_mem x hy))

theorem undecided_of_headOf {q : List Request} {r : Request} (h : headOf q = some r) : r.stage.undecided = true :=
  List.find?_some (p := fun r : Request => r.stage.undecided) h

theorem undecided_of_head {s : State} {p : PortId} {r : Request} (h : s.head p = some r) : r.stage.undecided = true :=
  undecided_of_headOf h

theorem State.headStage_of_head {s : State} {p : PortId} {r : Request} (h : s.head p = some r) :
    s.headStage p = some r.stage := by
  rw [State.headStage, h]
  rfl

theorem State.headBlock_of_head {s : State} {p : PortId} {r : Request} (h : s.head p = some r) :
    s.headBlock p = blockOf r.addr := by
  rw [State.headBlock, h]

/-! ### Stages taken at several ports at once -/

/-- The port with its head at a stage, where one is given. -/
def Port.staged (x : Port) (o : Option Stage) : Port :=
  match o with
  | none => x
  | some g => { x with queue := mapHead (fun r => r.atStage g) x.queue }

/-- The state with the heads that `σ` names at the stages it gives. -/
def State.stageHeads (s : State) (σ : PortId → Option Stage) : State :=
  { s with ports := {
      at0 := s.ports.at0.staged (σ 0), at1 := s.ports.at1.staged (σ 1), at2 := s.ports.at2.staged (σ 2),
      at3 := s.ports.at3.staged (σ 3) } }

/-- The stages that `σ` gives keep a head a head. -/
def keepsHeads (σ : PortId → Option Stage) : Prop := ∀ p g, σ p = some g → g.undecided = true

section
variable (s : State) (σ : PortId → Option Stage)

@[simp] theorem State.stageHeads_groups : (s.stageHeads σ).groups = s.groups := rfl
@[simp] theorem State.stageHeads_group (g : GroupId) : (s.stageHeads σ).group g = s.group g := rfl
@[simp] theorem State.stageHeads_table : (s.stageHeads σ).table = s.table := rfl
@[simp] theorem State.stageHeads_map : (s.stageHeads σ).map = s.map := rfl
@[simp] theorem State.stageHeads_mem : (s.stageHeads σ).mem = s.mem := rfl
@[simp] theorem State.stageHeads_triggers : (s.stageHeads σ).triggers = s.triggers := rfl
@[simp] theorem State.stageHeads_alerts : (s.stageHeads σ).alerts = s.alerts := rfl
@[simp] theorem State.stageHeads_mgmt : (s.stageHeads σ).mgmt = s.mgmt := rfl
@[simp] theorem State.stageHeads_emitted : (s.stageHeads σ).emitted = s.emitted := rfl
@[simp] theorem State.stageHeads_clock : (s.stageHeads σ).clock = s.clock := rfl

theorem State.stageHeads_port (p : PortId) : (s.stageHeads σ).port p = (s.port p).staged (σ p) := by
  match p with
  | 0 => rfl
  | 1 => rfl
  | 2 => rfl
  | 3 => rfl

/-- Two states with the same ports and otherwise the same are one. -/
theorem State.eq_stageHeads {t : State} (hrest : t = { s with ports := t.ports })
    (hports : ∀ p, t.port p = (s.port p).staged (σ p)) : t = s.stageHeads σ := by
  rw [hrest, State.stageHeads]
  congr 1
  refine Four.ext_get _ _ fun p => ?_
  have := s.stageHeads_port σ p
  exact (hports p).trans this.symm

@[simp] theorem Port.staged_channel (x : Port) (o : Option Stage) : (x.staged o).channel = x.channel := by
  cases o <;> rfl

@[simp] theorem Port.staged_headGroup (x : Port) (o : Option Stage) : (x.staged o).headGroup = x.headGroup := by
  cases o <;> rfl

@[simp] theorem Port.staged_refusal (x : Port) (o : Option Stage) : (x.staged o).refusal = x.refusal := by
  cases o <;> rfl

@[simp] theorem State.stageHeads_channel (p : PortId) :
    ((s.stageHeads σ).port p).channel = (s.port p).channel := by simp [State.stageHeads_port]

@[simp] theorem State.stageHeads_headGroup (p : PortId) :
    ((s.stageHeads σ).port p).headGroup = (s.port p).headGroup := by simp [State.stageHeads_port]

variable {s σ}

theorem State.stageHeads_head_of_none {p : PortId} (h : σ p = none) : (s.stageHeads σ).head p = s.head p := by
  rw [State.head, State.stageHeads_port, h]
  rfl

theorem State.stageHeads_head_of_some {p : PortId} {g : Stage} (h : σ p = some g) (hg : g.undecided = true) :
    (s.stageHeads σ).head p = (s.head p).map (fun r => r.atStage g) := by
  rw [State.head, State.stageHeads_port, h]
  exact headOf_mapHead (fun _ => hg) _

theorem State.stageHeads_headStage_of_none {p : PortId} (h : σ p = none) :
    (s.stageHeads σ).headStage p = s.headStage p := by
  rw [State.headStage, State.stageHeads_head_of_none h]
  rfl

theorem State.stageHeads_headStage_of_some {p : PortId} {g : Stage} (h : σ p = some g) (hg : g.undecided = true) :
    (s.stageHeads σ).headStage p = (s.headStage p).map (fun _ => g) := by
  rw [State.headStage, State.stageHeads_head_of_some h hg, State.headStage, Option.map_map, Option.map_map]
  rfl

/-- A stage does not move the address of a head. -/
theorem State.stageHeads_headBlock (hσ : keepsHeads σ) (p : PortId) : (s.stageHeads σ).headBlock p = s.headBlock p := by
  rw [State.headBlock, State.headBlock]
  cases h : σ p with
  | none => rw [State.stageHeads_head_of_none h]
  | some g =>
    rw [State.stageHeads_head_of_some h (hσ p g h)]
    cases s.head p <;> rfl

/-- Of two stages given to a head the later one stays. -/
theorem State.stageHeads_stageHeads (hσ : keepsHeads σ) (τ : PortId → Option Stage) :
    (s.stageHeads σ).stageHeads τ = s.stageHeads (fun p => (τ p).or (σ p)) := by
  refine State.eq_stageHeads _ _ rfl fun p => ?_
  rw [State.stageHeads_port, State.stageHeads_port]
  cases hτ : τ p with
  | none => rfl
  | some g =>
    cases hp : σ p with
    | none => rfl
    | some k =>
      simp only [Port.staged, Option.some_or, mapHead_mapHead (f := fun r => r.atStage k) (fun _ => hσ p k hp)]
      rfl

theorem State.stageHeads_none : s.stageHeads (fun _ => none) = s :=
  (State.eq_stageHeads s _ rfl fun _ => rfl).symm

theorem State.stageHead_eq (s : State) (p : PortId) (g : Stage) :
    s.stageHead p g = s.stageHeads (fun q => if q = p then some g else none) := by
  refine State.eq_stageHeads _ _ rfl fun q => ?_
  rw [State.stageHead, State.modPort_port]
  split
  next h => subst h; rfl
  next => rfl

theorem State.modGroup_stageHeads (g : GroupId) (f : Group → Group) :
    (s.modGroup g f).stageHeads σ = (s.stageHeads σ).modGroup g f := rfl

end

/-! ### Holding and releasing several heads -/

/-- The heads of the ports in `ps` take the stage `g`. -/
def stagesOf (ps : List PortId) (g : Stage) : PortId → Option Stage := fun p => if p ∈ ps then some g else none

theorem keepsHeads_stagesOf (ps : List PortId) {g : Stage} (h : g.undecided = true) : keepsHeads (stagesOf ps g) := by
  intro p k hk
  rw [stagesOf, Option.ite_none_right_eq_some] at hk
  obtain ⟨-, hk⟩ := hk
  cases hk
  exact h

theorem stagesOf_of_mem {ps : List PortId} {g : Stage} {p : PortId} (h : p ∈ ps) : stagesOf ps g p = some g := if_pos h

theorem stagesOf_of_not_mem {ps : List PortId} {g : Stage} {p : PortId} (h : p ∉ ps) : stagesOf ps g p = none := if_neg h

theorem stagesOf_cons_or (p : PortId) (ps : List PortId) (g : Stage) (q : PortId) :
    (stagesOf ps g q).or (if q = p then some g else none) = stagesOf (p :: ps) g q := by
  by_cases hq : q ∈ ps
  · rw [stagesOf_of_mem hq, stagesOf_of_mem (List.mem_cons_of_mem p hq)]
    rfl
  · rw [stagesOf_of_not_mem hq, Option.none_or]
    by_cases hp : q = p
    · rw [if_pos hp, stagesOf_of_mem (hp ▸ List.mem_cons_self)]
    · rw [if_neg hp, stagesOf_of_not_mem (by simp [hp, hq])]

theorem keepsHeads_single (p : PortId) {g : Stage} (h : g.undecided = true) :
    keepsHeads (fun q => if q = p then some g else none) := by
  intro q k hk
  rw [Option.ite_none_right_eq_some] at hk
  obtain ⟨-, hk⟩ := hk
  cases hk
  exact h

/-- Heads taken to one stage one after the other. -/
theorem State.foldl_stageHead (s : State) (ps : List PortId) {g : Stage} (h : g.undecided = true) :
    ps.foldl (fun s p => s.stageHead p g) s = s.stageHeads (stagesOf ps g) := by
  induction ps generalizing s with
  | nil => exact State.stageHeads_none.symm
  | cons p ps ih =>
    rw [List.foldl_cons, ih, State.stageHead_eq, State.stageHeads_stageHeads (keepsHeads_single p h)]
    exact congrArg s.stageHeads (funext fun q => stagesOf_cons_or p ps g q)

theorem State.foldl_holdHead (s : State) (ps : List PortId) (why : HoldReason) :
    ps.foldl (fun s p => s.holdHead p why) s = s.stageHeads (stagesOf ps (.held why)) :=
  s.foldl_stageHead ps rfl

/-- The ports whose heads the state of `g` holds (R11). -/
def State.heldPorts (s : State) (g : GroupId) : List PortId := fourIds.filter (s.heldByState g)

theorem State.mem_heldPorts {s : State} {g : GroupId} {p : PortId} : p ∈ s.heldPorts g ↔ s.heldByState g p = true := by
  simp [State.heldPorts, mem_fourIds]

theorem State.heldByState_eq (s : State) (g : GroupId) (p : PortId) : s.heldByState g p
    = match s.headStage p with
      | some (.held why) => why.byState && (s.port p).headGroup == some g
      | _ => false := by
  rw [State.heldByState, State.headStage]
  cases s.head p with
  | none => rfl
  | some r =>
    simp only [Option.map_some]
    cases r.stage <;> rfl

theorem State.heldByState_of_port {s t : State} {p : PortId} (h : t.port p = s.port p) (g : GroupId) :
    t.heldByState g p = s.heldByState g p := by
  rw [State.heldByState, State.heldByState, State.head, State.head, h]

/-- A pass over distinct ports that takes the heads held by a group's state to one stage. -/
theorem State.foldl_stageHeld (s : State) (g : GroupId) {k : Stage} (hk : k.undecided = true) (ps : List PortId)
    (hps : ps.Nodup) : ps.foldl (fun s p => if s.heldByState g p then s.stageHead p k else s) s
      = s.stageHeads (stagesOf (ps.filter (s.heldByState g)) k) := by
  induction ps generalizing s with
  | nil => exact State.stageHeads_none.symm
  | cons p ps ih =>
    obtain ⟨hp, hps⟩ := List.nodup_cons.1 hps
    rw [List.foldl_cons, List.filter_cons]
    cases h : s.heldByState g p with
    | false => exact ih s hps
    | true =>
      simp only [if_true]
      have hsame : ps.filter ((s.stageHead p k).heldByState g) = ps.filter (s.heldByState g) :=
        List.filter_congr fun q hq => State.heldByState_of_port (by
          rw [State.stageHead, State.modPort_port, if_neg (ne_of_mem_of_not_mem hq hp)]) g
      rw [ih _ hps, hsame, State.stageHead_eq, State.stageHeads_stageHeads (keepsHeads_single p hk)]
      exact congrArg s.stageHeads (funext fun q => stagesOf_cons_or p _ k q)

theorem State.releaseHeads_eq (s : State) (g : GroupId) :
    s.releaseHeads g = s.stageHeads (stagesOf (s.heldPorts g) .classifying) :=
  s.foldl_stageHeld g rfl fourIds (by decide)

theorem State.foldl_reholdHead (s : State) (g : GroupId) (why : HoldReason) :
    fourIds.foldl (fun s p => s.reholdHead g why p) s = s.stageHeads (stagesOf (s.heldPorts g) (.held why)) :=
  s.foldl_stageHeld g rfl fourIds (by decide)

/-- The heads that a group's state holds return to classifying, and the others keep their stages. -/
theorem State.headsReleased_stageHeads (s : State) (g : GroupId) :
    s.headsReleased (s.stageHeads (stagesOf (s.heldPorts g) .classifying)) g := by
  intro p
  by_cases hp : s.heldByState g p = true
  · rw [if_pos hp, State.stageHeads_headStage_of_some (stagesOf_of_mem (State.mem_heldPorts.2 hp)) rfl]
    rw [State.heldByState_eq] at hp
    cases hstage : s.headStage p with
    | none => rw [hstage] at hp; cases hp
    | some g => rfl
  · rw [if_neg hp, State.stageHeads_headStage_of_none (stagesOf_of_not_mem fun h => hp (State.mem_heldPorts.1 h))]

end Sys2Proof.Machine
end

section
/-! The drains and what follows them (R54 to R56, R70, R72, R77, R78): the phases of an undo and a rollback, the queue put back, and where a drain goes when it ends. -/

namespace Sys2Proof.Machine

/-! ### The phases of an undo or a rollback -/

section
variable {x : Group}

theorem Group.phase_of_unwinding (h : x.state = .unwinding) : x.phase = x.unwind.map (fun u => u.phase) := by
  rw [Group.phase, h]

theorem Group.phase_of_rollingBack (h : x.state = .rollingBack) : x.phase = x.rollback.map (fun r => r.phase) := by
  rw [Group.phase, h]

theorem Group.popSlot_of_unwinding (h : x.state = .unwinding) : x.popSlot = x.unwind.bind (fun u => u.slot) := by
  rw [Group.popSlot, h]

theorem Group.popSlot_of_rollingBack (h : x.state = .rollingBack) : x.popSlot = x.rollback.bind (fun r => r.slot) := by
  rw [Group.popSlot, h]

theorem Group.atPhase_of_unwinding (h : x.state = .unwinding) (ph : Phase) (n : Option Nat) :
    x.atPhase ph n = { x with unwind := x.unwind.map (fun u => { u with phase := ph, slot := n }) } := by
  rw [Group.atPhase, h]

theorem Group.atPhase_of_rollingBack (h : x.state = .rollingBack) (ph : Phase) (n : Option Nat) :
    x.atPhase ph n = { x with rollback := x.rollback.map (fun r => { r with phase := ph, slot := n }) } := by
  rw [Group.atPhase, h]

/-- Only a running undo or rollback has a phase. -/
theorem Group.state_of_phase {ph : Phase} (h : x.phase = some ph) : x.state = .unwinding ∨ x.state = .rollingBack := by
  unfold Group.phase at h
  split at h
  next hs => exact .inl hs
  next hs => exact .inr hs
  next => cases h

theorem Group.phase_atPhase {old : Phase} (h : x.phase = some old) (ph : Phase) (n : Option Nat) :
    (x.atPhase ph n).phase = some ph ∧ (x.atPhase ph n).popSlot = n := by
  rcases Group.state_of_phase h with hs | hs
  · rw [Group.phase_of_unwinding hs, Option.map_eq_some_iff] at h
    obtain ⟨u, hu, -⟩ := h
    have hs' := (atPhase_state x ph n).trans hs
    rw [Group.phase_of_unwinding hs', Group.popSlot_of_unwinding hs', Group.atPhase_of_unwinding hs, hu]
    exact ⟨rfl, rfl⟩
  · rw [Group.phase_of_rollingBack hs, Option.map_eq_some_iff] at h
    obtain ⟨r, hr, -⟩ := h
    have hs' := (atPhase_state x ph n).trans hs
    rw [Group.phase_of_rollingBack hs', Group.popSlot_of_rollingBack hs', Group.atPhase_of_rollingBack hs, hr]
    exact ⟨rfl, rfl⟩

end

/-- A phase keeps the cause of a rollback and the target of an undo. -/
theorem Group.atPhase_rollback_cause (x : Group) (ph : Phase) (n : Option Nat) :
    (x.atPhase ph n).rollback.map (fun r => r.cause) = x.rollback.map (fun r => r.cause) := by
  unfold Group.atPhase
  split
  case h_2 => rw [Option.map_map]; rfl
  all_goals rfl

theorem Group.atPhase_unwind_target (x : Group) (ph : Phase) (n : Option Nat) :
    (x.atPhase ph n).unwind.map (fun u => (u.target, u.port)) = x.unwind.map (fun u => (u.target, u.port)) := by
  unfold Group.atPhase
  split
  case h_1 => rw [Option.map_map]; rfl
  all_goals rfl

/-- What a phase, where it was entered, leaves of a group. -/
theorem Group.kept_of_atPhase {x y : Group} (h : y = x ∨ ∃ ph n, y = x.atPhase ph n) :
    y.state = x.state ∧ y.lastClose = x.lastClose
      ∧ y.rollback.map (fun r => r.cause) = x.rollback.map (fun r => r.cause) ∧ y.voteTimer = x.voteTimer ∧ y.hold = x.hold
      ∧ y.config = x.config ∧ y.closedEpoch = x.closedEpoch ∧ y.voteSet = x.voteSet ∧ y.marks = x.marks
      ∧ y.journalLength = x.journalLength ∧ y.step = x.step ∧ y.queue = x.queue ∧ y.putBack = x.putBack := by
  rcases h with rfl | ⟨ph, n, rfl⟩
  · exact ⟨rfl, rfl, rfl, rfl, rfl, rfl, rfl, rfl, rfl, rfl, rfl, rfl, rfl⟩
  · have hcause := x.atPhase_rollback_cause ph n
    have hstate := atPhase_state x ph n
    revert hcause hstate
    rw [Group.atPhase]
    split
    all_goals exact fun hcause hstate => ⟨hstate, rfl, hcause, rfl, rfl, rfl, rfl, rfl, rfl, rfl, rfl, rfl, rfl⟩

/-! ### Popping goes on, and the end of a drain (R55, R56, R78) -/

section
variable {s : State} {g : GroupId}

theorem State.nextPop_of_record (h : (s.group g).journalLength ≠ 0) : s.nextPop g
    = (s.modGroup g fun x => x.atPhase .pop (some (1 + x.journalLength))).handOn
        ((s.group g).slotRead g (1 + (s.group g).journalLength) .popRead) := by
  rw [State.nextPop, if_neg h, State.handSlotRead_eq, State.modGroup_group_self, Group.slotRead, atPhase_config]
  rfl

theorem State.nextPop_of_rollingBack (h : (s.group g).journalLength = 0) (hstate : (s.group g).state = .rollingBack) :
    s.nextPop g = (s.modGroup g fun x => x.atPhase .header none).handOn
      ((s.group g).closingHeader g .rolledBack .rollbackHeader) := by
  rw [State.nextPop, if_pos h]
  simp only [hstate]
  rw [State.handHeader_eq, State.modGroup_group_self, Group.closingHeader, atPhase_config, atPhase_closedEpoch]
  rfl

theorem State.nextPop_of_unwinding (h : (s.group g).journalLength = 0) (hstate : (s.group g).state = .unwinding) :
    s.nextPop g = s.finishUndo g := by
  rw [State.nextPop, if_pos h]
  simp only [hstate]

/-- The phase and pop in which the end of a drain leaves an undo or a rollback (R55, R78). -/
def Group.drainEnd (x : Group) : Phase × Option Nat :=
  if x.journalLength < x.capacity then (.clear, none) else (.pop, some (1 + x.journalLength))

/-- What the end of a drain hands on (R55, R78). -/
def Group.firstTxn (x : Group) (g : GroupId) : Txn :=
  if x.journalLength < x.capacity then x.clearing g (2 + x.journalLength) .clearPhase
  else x.slotRead g (1 + x.journalLength) .popRead

/-- With at least one record slot the end of a drain begins CLEAR, or POP in a full journal. -/
theorem State.beginClear_eq (h : 3 ≤ (s.group g).config.slots) : s.beginClear g
    = (s.modGroup g fun x => x.atPhase x.drainEnd.1 x.drainEnd.2).handOn ((s.group g).firstTxn g) := by
  rw [State.beginClear, Group.firstTxn]
  by_cases hroom : (s.group g).journalLength < (s.group g).capacity
  · rw [if_pos hroom, if_pos hroom, State.handClearing_eq, State.modGroup_group_self, Group.clearing, atPhase_config]
    simp only [State.modGroup, Group.drainEnd, if_pos hroom]
    rfl
  · have hrecord : (s.group g).journalLength ≠ 0 := by
      rw [Group.capacity] at hroom
      omega
    rw [if_neg hroom, if_neg hroom, State.nextPop_of_record hrecord]
    simp only [State.modGroup, Group.drainEnd, if_neg hroom]

/-- A rollback whose drain ends moves its phase and hands one transaction on, whatever its slots. -/
theorem State.beginClear_of_rollingBack (h : (s.group g).state = .rollingBack) :
    ∃ ph n y, s.beginClear g = (s.modGroup g fun x => x.atPhase ph n).handOn y := by
  rw [State.beginClear]
  split
  · exact ⟨.clear, none, _, rfl⟩
  · by_cases hzero : (s.group g).journalLength = 0
    · exact ⟨.header, none, _, State.nextPop_of_rollingBack hzero h⟩
    · exact ⟨.pop, some (1 + (s.group g).journalLength), _, State.nextPop_of_record hzero⟩

theorem State.drainCheck_of_draining (h : (s.group g).state = .unwinding ∨ (s.group g).state = .rollingBack) :
    s.drainCheck g = if s.drained g then s.beginClear g else s := by
  rw [State.drainCheck]
  rcases h with h | h <;> simp only [h]

theorem State.drainCheck_of_committing (h : (s.group g).state = .committing) : s.drainCheck g
    = if s.commitDrained g then s.handOn ((s.group g).closingHeader g .committed .commitHeader) else s := by
  rw [State.drainCheck]
  simp only [h, State.handHeader_eq]

theorem State.drainCheck_of_other (h : (s.group g).state ∉ drainStates) : s.drainCheck g = s := by
  rw [State.drainCheck]
  cases hstate : (s.group g).state <;> first
    | rfl
    | exact absurd (by simp [hstate, drainStates]) h

/-- A drain check moves at most its own group's phase, and hands on at most one transaction. -/
theorem State.drainCheck_cases (h : (s.group g).state = .unwinding → 3 ≤ (s.group g).config.slots) :
    s.drainCheck g = s ∨ (∃ y, s.drainCheck g = s.handOn y)
      ∨ ∃ ph n y, s.drainCheck g = (s.modGroup g fun x => x.atPhase ph n).handOn y := by
  by_cases hdrains : (s.group g).state ∈ drainStates
  · simp only [drainStates, List.mem_cons, List.not_mem_nil, or_false] at hdrains
    rcases hdrains with hs | hs | hs
    · rw [State.drainCheck_of_draining (.inl hs)]
      split
      · exact .inr (.inr ⟨_, _, _, State.beginClear_eq (h hs)⟩)
      · exact .inl rfl
    · rw [State.drainCheck_of_draining (.inr hs)]
      split
      · exact .inr (.inr (State.beginClear_of_rollingBack hs))
      · exact .inl rfl
    · rw [State.drainCheck_of_committing hs]
      split
      · exact .inr (.inl ⟨_, rfl⟩)
      · exact .inl rfl
  · exact .inl (State.drainCheck_of_other hdrains)

/-- What a drain check leaves alone. -/
theorem State.drainCheck_frame (h : (s.group g).state = .unwinding → 3 ≤ (s.group g).config.slots) :
    s.drainCheck g = { s with groups := (s.drainCheck g).groups, mem := (s.drainCheck g).mem }
      ∧ s.othersKept (s.drainCheck g) g ∧ (s.drainCheck g).mem.places = s.mem.places
      ∧ ((s.drainCheck g).group g = s.group g ∨ ∃ ph n, (s.drainCheck g).group g = (s.group g).atPhase ph n) := by
  rcases State.drainCheck_cases h with heq | ⟨y, heq⟩ | ⟨ph, n, y, heq⟩
  · rw [heq]
    exact ⟨rfl, fun _ _ => rfl, rfl, .inl rfl⟩
  · rw [heq]
    exact ⟨rfl, fun _ _ => rfl, rfl, .inl rfl⟩
  · rw [heq]
    exact ⟨rfl, State.othersKept_of_groups rfl, rfl, .inr ⟨ph, n, by rw [State.handOn_group, State.modGroup_group_self]⟩⟩

/-- The end of a drain, seen from a state with the same memory port and the same configuration. -/
theorem State.clearsFrom_beginClear {u : State} {ph : Phase} (hphase : (s.group g).phase = some ph)
    (hslots : 3 ≤ (s.group g).config.slots) (hmem : u.mem = s.mem) (hclock : u.clock = s.clock)
    (hconfig : (u.group g).config = (s.group g).config) : u.clearsFrom (s.beginClear g) g (s.group g).journalLength := by
  rw [State.beginClear_eq hslots, State.clearsFrom, hconfig]
  split
  next hroom =>
    have hend : (s.group g).drainEnd = (.clear, none) := if_pos hroom
    rw [State.handOn_group, State.modGroup_group_self, hend]
    obtain ⟨hph, hslot⟩ := Group.phase_atPhase hphase .clear none
    refine ⟨hph, hslot, ?_⟩
    rw [Group.firstTxn, if_pos (show (s.group g).journalLength < (s.group g).capacity from hroom), Group.clearing,
      Group.clearing, hconfig]
    simp only [State.handOn_mem, State.modGroup_mem, State.modGroup_clock, hmem, hclock]
  next hfull =>
    have hend : (s.group g).drainEnd = (.pop, some (1 + (s.group g).journalLength)) := if_neg hfull
    rw [State.handOn_group, State.modGroup_group_self, hend]
    obtain ⟨hph, hslot⟩ := Group.phase_atPhase hphase .pop (some (1 + (s.group g).journalLength))
    refine ⟨hph, hslot, ?_⟩
    rw [Group.firstTxn, if_neg (show ¬ (s.group g).journalLength < (s.group g).capacity from hfull), Group.slotRead,
      Group.slotRead, hconfig]
    simp only [State.handOn_mem, State.modGroup_mem, State.modGroup_clock, hmem, hclock]

theorem State.writesUnanswered_of_mem {u : State} (h : u.mem = s.mem) : u.writesUnanswered g = s.writesUnanswered g := by
  rw [State.writesUnanswered, State.writesUnanswered, h]

theorem State.ownTxn_of_mem {u : State} (h : u.mem = s.mem) : u.ownTxn g = s.ownTxn g := by
  rw [State.ownTxn, State.ownTxn, h]

theorem State.drained_of_step (h : (s.group g).step ≠ none) : s.drained g = false := by
  rw [State.drained, Option.isNone_eq_false_iff.2 (Option.isSome_iff_ne_none.2 h), Bool.and_false, Bool.false_and]

theorem State.drained_of_phase (h : (s.group g).phase ≠ some .drain) : s.drained g = false := by
  simp [State.drained, h]

theorem State.drained_of_drain (hphase : (s.group g).phase = some .drain) (hstep : (s.group g).step = none) :
    s.drained g = !s.writesUnanswered g := by
  simp [State.drained, hphase, hstep]

/-- A drain without a step in progress waits for the writes issued, or ends. -/
theorem State.drainsTo_drainCheck {u : State} (hphase : (s.group g).phase = some .drain)
    (hstep : (s.group g).step = none) (hslots : 3 ≤ (s.group g).config.slots) (hmem : u.mem = s.mem)
    (hclock : u.clock = s.clock) (hconfig : (u.group g).config = (s.group g).config) :
    u.drainsTo (s.drainCheck g) g (s.group g).journalLength := by
  rw [State.drainCheck_of_draining (Group.state_of_phase hphase), State.drained_of_drain hphase hstep, State.drainsTo,
    State.writesUnanswered_of_mem hmem]
  cases s.writesUnanswered g with
  | true => exact ⟨hphase, hmem.symm⟩
  | false => exact State.clearsFrom_beginClear hphase hslots hmem hclock hconfig

/-- A commit with nothing queued and no step waits for the writes issued, or hands on its header. -/
theorem State.commitDrainsTo_drainCheck {u : State} (hstate : (s.group g).state = .committing)
    (hqueue : (s.group g).queue = []) (hstep : (s.group g).step = none) (hmem : u.mem = s.mem) (hclock : u.clock = s.clock)
    (hconfig : (u.group g).config = (s.group g).config) (hepoch : (u.group g).closedEpoch = (s.group g).closedEpoch) :
    u.commitDrainsTo (s.drainCheck g) g := by
  have hdrained : s.commitDrained g = (!s.writesUnanswered g && !s.ownTxn g) := by
    simp [State.commitDrained, hqueue, hstep]
  have hheader : (u.group g).closingHeader g .committed .commitHeader
      = (s.group g).closingHeader g .committed .commitHeader := by
    rw [Group.closingHeader, Group.closingHeader, hconfig, hepoch]
  rw [State.drainCheck_of_committing hstate, hdrained, State.commitDrainsTo, State.writesUnanswered_of_mem hmem,
    State.ownTxn_of_mem hmem, hheader]
  cases s.writesUnanswered g with
  | true => exact hmem.symm
  | false =>
    cases s.ownTxn g with
    | true => exact hmem.symm
    | false =>
      simp only [State.handOn_mem, hmem, hclock]
      rfl

end

/-! ### The queue put back (R54, R77) -/

section
variable (x : Group)

theorem Group.begun_eq : x.begun = x.queue.filter (fun p => x.step.any (fun st => st.owner == some p)) := by
  rw [Group.begun]
  cases x.step with
  | none => exact (List.filter_eq_nil_iff.2 fun _ _ => Bool.false_ne_true).symm
  | some st => rfl

theorem Group.unbegun_eq : x.unbegun = x.queue.filter (fun p => !x.step.any (fun st => st.owner == some p)) := by
  rw [Group.unbegun]
  cases x.step with
  | none => exact (List.filter_eq_self.2 fun _ _ => rfl).symm
  | some st => rfl

theorem Group.mem_unbegun {p : PortId} :
    p ∈ x.unbegun ↔ p ∈ x.queue ∧ x.step.any (fun st => st.owner == some p) = false := by
  rw [Group.unbegun_eq, List.mem_filter, Bool.not_eq_true']

/-- The group once its queued writes whose step has not begun are on the put-back list. -/
def Group.queuePutBack : Group := { x with queue := x.begun, hold := none, putBack := x.putBack ++ x.unbegun }

end

theorem State.putBackQueue_eq (s : State) (g : GroupId) (why : HoldReason) : s.putBackQueue g why
    = (s.stageHeads (stagesOf (s.group g).unbegun (.held why))).modGroup g Group.queuePutBack := by
  rw [State.putBackQueue, State.foldl_holdHead]
  rfl

/-! ### Entry to ROLLING_BACK (R61, R76, R77) -/

/-- The group at its entry to ROLLING_BACK, before its drain is looked at. -/
def Group.rolled (x : Group) (c : CloseCause) : Group := (x.intoRollback c).queuePutBack

/-- The ports whose heads the entry to ROLLING_BACK holds: those of the queue without the step's, and those held by the state before. -/
def State.rolledPorts (s : State) (g : GroupId) : List PortId := (s.group g).unbegun ++ s.heldPorts g

theorem stagesOf_or (ps qs : List PortId) (g : Stage) (q : PortId) :
    (stagesOf ps g q).or (stagesOf qs g q) = stagesOf (ps ++ qs) g q := by
  by_cases hp : q ∈ ps
  · rw [stagesOf_of_mem hp, stagesOf_of_mem (List.mem_append_left qs hp)]
    rfl
  · rw [stagesOf_of_not_mem hp, Option.none_or]
    simp [stagesOf, hp]

/-- The entry to ROLLING_BACK: heads held, the group's context changed, and a look at the drain. -/
theorem State.enterRollingBack_eq (s : State) (g : GroupId) (c : CloseCause) : s.enterRollingBack g c
    = ((s.stageHeads (stagesOf (s.rolledPorts g) (.held .rollingBack))).modGroup g fun x => x.rolled c).drainCheck g := by
  rw [State.enterRollingBack, State.foldl_reholdHead, State.putBackQueue_eq, State.modGroup_stageHeads,
    State.stageHeads_stageHeads (keepsHeads_stagesOf _ rfl), State.modGroup_modGroup, State.modGroup_group_self]
  congr 2
  exact congrArg s.stageHeads (funext fun q => stagesOf_or _ _ _ q)

section
variable (x : Group) (c : CloseCause)

theorem Group.rolled_state : (x.rolled c).state = .rollingBack := rfl

/-- A group that was not in an undo begins its rollback with the drain. -/
theorem Group.rolled_rollback_of_not_unwinding (h : x.state ≠ .unwinding) :
    (x.rolled c).rollback = some { cause := c, phase := .drain, slot := none } := by
  rw [Group.rolled, Group.queuePutBack, Group.intoRollback, Group.rollbackAtEntry]
  split
  next hs _ => exact absurd hs h
  next => rfl

/-- A rollback that overtakes an undo stands where the undo stood (R61). -/
theorem Group.rolled_rollback_of_unwinding {u : UnwindContext} (h : x.state = .unwinding) (hu : x.unwind = some u) :
    (x.rolled c).rollback = some { cause := c, phase := u.phase, slot := u.slot } := by
  rw [Group.rolled, Group.queuePutBack, Group.intoRollback, Group.rollbackAtEntry, h, hu]

theorem Group.rolled_cause : (x.rolled c).rollback.map (fun r => r.cause) = some c := by
  rw [Group.rolled, Group.queuePutBack, Group.intoRollback, Group.rollbackAtEntry]
  split <;> rfl

end

/-- The entry to ROLLING_BACK touches its own group, stages of heads, and the memory port. -/
theorem State.enterRollingBack_frame (s : State) (g : GroupId) (c : CloseCause) :
    s.enterRollingBack g c = { s with
        groups := (s.enterRollingBack g c).groups, mem := (s.enterRollingBack g c).mem
        ports := (s.stageHeads (stagesOf (s.rolledPorts g) (.held .rollingBack))).ports }
      ∧ s.othersKept (s.enterRollingBack g c) g ∧ (s.enterRollingBack g c).mem.places = s.mem.places
      ∧ ((s.enterRollingBack g c).group g = (s.group g).rolled c
        ∨ ∃ ph n, (s.enterRollingBack g c).group g = ((s.group g).rolled c).atPhase ph n) := by
  rw [State.enterRollingBack_eq]
  obtain ⟨hrest, hothers, hplaces, hgroup⟩ := State.drainCheck_frame (g := g)
    (s := (s.stageHeads (stagesOf (s.rolledPorts g) (.held .rollingBack))).modGroup g fun x => x.rolled c) (by
      rw [State.modGroup_group_self]
      intro h
      cases h)
  rw [State.modGroup_group_self, State.stageHeads_group] at hgroup
  refine ⟨?_, fun k hk => (hothers k hk).trans ?_, hplaces, hgroup⟩
  · rw [hrest]
    rfl
  · rw [State.modGroup_group, if_neg hk]
    rfl

section
variable {s : State} {g : GroupId} {c : CloseCause}

/-- The heads that the entry to ROLLING_BACK holds. -/
theorem State.enterRollingBack_headStage {p : PortId} (h : p ∈ s.rolledPorts g) {r : Request} (hr : s.head p = some r) :
    (s.enterRollingBack g c).headStage p = some (.held .rollingBack) := by
  obtain ⟨hrest, -⟩ := s.enterRollingBack_frame g c
  have hport : (s.enterRollingBack g c).port p
      = (s.stageHeads (stagesOf (s.rolledPorts g) (.held .rollingBack))).port p := by
    rw [hrest]
    rfl
  have hstage := State.stageHeads_headStage_of_some (s := s) (stagesOf_of_mem h) (g := .held .rollingBack) rfl
  rw [State.headStage_of_head hr] at hstage
  rw [← show _ = some (Stage.held .rollingBack) from hstage, State.headStage, State.headStage, State.head, State.head, hport]

theorem State.heldByState_of_held {p : PortId} {why : HoldReason} (h : s.headStage p = some (.held why))
    (hwhy : why.byState = true) (hg : (s.port p).headGroup = some g) : s.heldByState g p = true := by
  rw [State.heldByState_eq, h]
  simp [hwhy, hg]

theorem State.head_of_headStage {p : PortId} {k : Stage} (h : s.headStage p = some k) :
    ∃ r, s.head p = some r ∧ r.stage = k := by
  rw [State.headStage, Option.map_eq_some_iff] at h
  exact h

/-- What every entry to ROLLING_BACK gives its group. -/
theorem State.rolledInto_enterRollingBack (s : State) (g : GroupId) (c : CloseCause) :
    s.rolledInto (s.enterRollingBack g c) g c := by
  obtain ⟨-, -, -, hgroup⟩ := s.enterRollingBack_frame g c
  obtain ⟨hstate, hclose, hcause, htimer, hhold, hconfig, hepoch, hvotes, hmarks, hlength, hstep, hqueue, hput⟩ :=
    Group.kept_of_atPhase hgroup
  refine ⟨hstate, hclose, hcause.trans ((s.group g).rolled_cause c), htimer, hhold, hconfig, hepoch, hvotes, hmarks, hlength,
    hstep, hqueue.trans (s.group g).begun_eq, hput.trans (congrArg ((s.group g).putBack ++ ·) (s.group g).unbegun_eq),
    fun p r hr hp hstep => ?queued, fun p hheld hg => ?held⟩
  case queued =>
    refine State.enterRollingBack_headStage (List.mem_append_left _ ((s.group g).mem_unbegun.2 ⟨hp, ?_⟩)) hr
    cases hst : (s.group g).step with
    | none => rfl
    | some st => simpa using hstep st hst
  case held =>
    obtain ⟨r, hr, -⟩ := State.head_of_headStage hheld
    exact State.enterRollingBack_headStage
      (List.mem_append_right _ (State.mem_heldPorts.2 (State.heldByState_of_held hheld rfl hg))) hr

end

end Sys2Proof.Machine
end

section
/-! UNDO and the abort causes by command and by time (R13, R52, R54, R67, R144, R177). -/

namespace Sys2Proof.Machine

/-! ### A command that waits on its channel (R138) -/

section
variable (s : State) (p : PortId) (k : WaitingKind) (a : Fin 8) (g : GroupId)

@[simp] theorem State.wait_group (j : GroupId) : (s.wait p k a g).group j = s.group j := rfl
@[simp] theorem State.wait_groups : (s.wait p k a g).groups = s.groups := rfl
@[simp] theorem State.wait_mem : (s.wait p k a g).mem = s.mem := rfl
@[simp] theorem State.wait_table : (s.wait p k a g).table = s.table := rfl

theorem State.wait_port (q : PortId) : (s.wait p k a g).port q
    = if q = p then { s.port p with channel := some { kind := k, arg := a, group := g } } else s.port q :=
  State.modPort_port s p _ q

@[simp] theorem State.wait_port_self : (s.wait p k a g).port p
    = { s.port p with channel := some { kind := k, arg := a, group := g } } := State.modPort_port_self s p _

/-- A command that waits moves no request. -/
@[simp] theorem State.wait_head (q : PortId) : (s.wait p k a g).head q = s.head q := by
  rw [State.head, State.wait_port]
  split
  next h => subst h; rfl
  next => rfl

@[simp] theorem State.wait_headStage (q : PortId) : (s.wait p k a g).headStage q = s.headStage q := by
  rw [State.headStage, State.wait_head, State.headStage]

@[simp] theorem State.wait_headGroup (q : PortId) : ((s.wait p k a g).port q).headGroup = (s.port q).headGroup := by
  rw [State.wait_port]
  split
  next h => subst h; rfl
  next => rfl

end

/-! ### UNDO (R52, R54) -/

/-- The group at its entry to UNWINDING, before its drain is looked at. -/
def Group.undoing (x : Group) (m : Nat) (p : PortId) : Group := (x.intoUnwinding m p).queuePutBack

/-- The state at an UNDO's entry to UNWINDING, before the drain is looked at. -/
def State.undoing (s : State) (g : GroupId) (p : PortId) (m : Fin 8) : State :=
  ((s.wait p .undo m g).stageHeads (stagesOf (s.group g).unbegun (.held .unwinding))).modGroup g fun x => x.undoing m.val p

theorem State.enterUnwinding_eq (s : State) (g : GroupId) (p : PortId) (m : Fin 8) :
    s.enterUnwinding g p m = (s.undoing g p m).drainCheck g := by
  rw [State.enterUnwinding, State.putBackQueue_eq, State.modGroup_stageHeads, State.modGroup_modGroup,
    State.modGroup_group_self]
  rfl

theorem State.undoing_group (s : State) (g : GroupId) (p : PortId) (m : Fin 8) :
    (s.undoing g p m).group g = (s.group g).undoing m.val p := State.modGroup_group_self _ g _

/-- The drain at its beginning: it waits for the step and for the writes issued, or ends at once. -/
theorem State.drainCheck_of_drain {s : State} {g : GroupId} (hphase : (s.group g).phase = some .drain)
    (hslots : 3 ≤ (s.group g).config.slots) : s.drainCheck g
      = if (s.group g).step ≠ none ∨ s.writesUnanswered g = true then s
        else (s.modGroup g fun x => x.atPhase x.drainEnd.1 x.drainEnd.2).handOn ((s.group g).firstTxn g) := by
  rw [State.drainCheck_of_draining (Group.state_of_phase hphase), State.beginClear_eq hslots]
  by_cases hstep : (s.group g).step = none
  · rw [State.drained_of_drain hphase hstep]
    cases s.writesUnanswered g <;> simp [hstep]
  · rw [State.drained_of_step hstep]
    simp [hstep]

/-- The heads that the entry to UNWINDING holds, and the stages of the others. -/
theorem State.stageHeads_unbegun_headStage (s : State) (x : Group) (k : Stage) (hk : k.undecided = true) (q : PortId) :
    (s.stageHeads (stagesOf x.unbegun k)).headStage q
      = if q ∈ x.queue ∧ x.step.any (fun y => y.owner == some q) = false then (s.headStage q).map (fun _ => k)
        else s.headStage q := by
  split
  next h => exact State.stageHeads_headStage_of_some (stagesOf_of_mem (x.mem_unbegun.2 h)) hk
  next h => exact State.stageHeads_headStage_of_none (stagesOf_of_not_mem fun hq => h (x.mem_unbegun.1 hq))

/-- An UNDO that is taken (R52, R54): its drain goes on, or ends at once in CLEAR or in POP. -/
theorem State.enterUnwinding_drain {s : State} {g : GroupId} (h : 3 ≤ (s.group g).config.slots) (p : PortId) (m : Fin 8) :
    s.enterUnwinding g p m = if (s.group g).step ≠ none ∨ s.writesUnanswered g = true then s.undoing g p m
      else ((s.undoing g p m).modGroup g fun x => x.atPhase x.drainEnd.1 x.drainEnd.2).handOn ((s.group g).firstTxn g) := by
  have hcheck := State.drainCheck_of_drain (s := s.undoing g p m) (g := g) (by rw [State.undoing_group]; rfl)
    (by rw [State.undoing_group]; exact h)
  rw [State.undoing_group] at hcheck
  rw [State.enterUnwinding_eq, hcheck]
  rfl

theorem State.undoing_headStage (s : State) (g : GroupId) (p : PortId) (m : Fin 8) (q : PortId) :
    (s.undoing g p m).headStage q
      = if q ∈ (s.group g).queue ∧ (s.group g).step.any (fun y => y.owner == some q) = false
        then (s.headStage q).map (fun _ => .held .unwinding) else s.headStage q := by
  have h := (s.wait p .undo m g).stageHeads_unbegun_headStage (s.group g) (.held .unwinding) rfl q
  rw [State.wait_headStage] at h
  exact h

theorem State.undoing_channel (s : State) (g : GroupId) (p : PortId) (m : Fin 8) :
    ((s.undoing g p m).port p).channel = some { kind := .undo, arg := m, group := g } := by
  rw [State.undoing, State.modGroup_port, State.stageHeads_channel, State.wait_port_self]

theorem State.undo_of_opened {s : State} {g : GroupId} (h : (s.group g).state = .opened) (p : PortId) (m : Fin 8) :
    s.undo g p m = s.undoOpen g p m := by
  simp only [State.undo, h]

theorem State.undoOpen_of_mark {s : State} {g : GroupId} {m : Fin 8}
    (h : 1 ≤ m.val ∧ m.val ≤ (s.group g).marks.length) (p : PortId) : s.undoOpen g p m = s.enterUnwinding g p m := if_pos h

theorem State.undoOpen_of_no_mark {s : State} {g : GroupId} {m : Fin 8} {p : PortId}
    (h : ¬ (1 ≤ m.val ∧ m.val ≤ (s.group g).marks.length)) :
    s.undoOpen g p m = s.onlyAnswers s.clock p (.refused .noSuchMark) := if_neg h

/-- Settles O29: UNDO goes by the group's state; in OPEN it enters UNWINDING, whose drain may end at once. -/
theorem undoFollowsTheGroupState : Obligations.UndoFollowsTheGroupState := by
  intro s p m g h hslots
  refine ⟨s.tick.undo g p m, congrArg Host.Outcome.next (State.takeCommand_of_commands (s := s.tick) h _), ?_⟩
  cases hstate : (s.group g).state with
  | voting | unwinding => simp only [State.undo, State.tick_group, hstate]; rfl
  | disabled | unverified | formatting | recovering => simp only [State.undo, State.tick_group, hstate]; rfl
  | closed | committing | rollingBack | faulted => simp only [State.undo, State.tick_group, hstate]; rfl
  | opened =>
    simp only [State.undo_of_opened (s := s.tick) hstate]
    split
    next hmark =>
      have hstages : ∀ q, _ := s.tick.undoing_headStage g p m
      have hchannel := s.tick.undoing_channel g p m
      have hput : ((s.group g).undoing m.val p).putBack = _ :=
        congrArg ((s.group g).putBack ++ ·) (s.group g).unbegun_eq
      rw [State.undoOpen_of_mark (s := s.tick) hmark, State.enterUnwinding_drain (s := s.tick) hslots]
      by_cases hdrain : (s.group g).step ≠ none ∨ s.writesUnanswered g = true
      · rw [if_pos (show (s.tick.group g).step ≠ none ∨ s.tick.writesUnanswered g = true from hdrain), if_pos hdrain,
          State.undoing_group]
        exact ⟨rfl, hchannel, rfl, rfl, rfl, rfl, rfl, (s.group g).begun_eq, hput, hstages, State.othersKept_of_groups rfl,
          rfl, rfl, rfl, rfl, rfl, rfl⟩
      · rw [if_neg (show ¬ ((s.tick.group g).step ≠ none ∨ s.tick.writesUnanswered g = true) from hdrain), if_neg hdrain,
          State.handOn_group, State.modGroup_group_self, State.undoing_group]
        refine ⟨rfl, hchannel, rfl, rfl, rfl, rfl, rfl, (s.group g).begun_eq, hput, hstages,
          fun k hk => ?_, rfl, rfl, rfl, rfl, ?_⟩
        · rw [State.handOn_group, State.modGroup_group, if_neg hk, State.undoing, State.modGroup_group, if_neg hk]
          rfl
        by_cases hroom : (s.group g).journalLength < (s.group g).config.slots - 2
        · rw [if_pos hroom]
          have hend : ((s.tick.group g).undoing m.val p).drainEnd = (.clear, none) := if_pos hroom
          have hfirst : (s.group g).firstTxn g
              = (s.group g).clearing g (2 + (s.group g).journalLength) .clearPhase := if_pos hroom
          rw [hend]
          exact ⟨rfl, congrArg (fun y => (s.tick.handOn y).mem) hfirst⟩
        · rw [if_neg hroom]
          have hend : ((s.tick.group g).undoing m.val p).drainEnd = (.pop, some (1 + (s.group g).journalLength)) := if_neg hroom
          have hfirst : (s.group g).firstTxn g
              = (s.group g).slotRead g (1 + (s.group g).journalLength) .popRead := if_neg hroom
          rw [hend]
          exact ⟨rfl, congrArg (fun y => (s.tick.handOn y).mem) hfirst⟩
    next hmark => exact State.undoOpen_of_no_mark (s := s.tick) hmark

/-! ### The abort causes by command and by time (R13, R67, R144, R177) -/

/-- The entry to ROLLING_BACK is the same seen from a state with the same group and the same heads. -/
theorem State.rolledInto_of_agrees {s u t : State} {g : GroupId} {c : CloseCause} (hgroup : u.group g = s.group g)
    (hhead : ∀ p, u.head p = s.head p) (hin : ∀ p, (u.port p).headGroup = (s.port p).headGroup)
    (h : u.rolledInto t g c) : s.rolledInto t g c := by
  have hstage : ∀ p, u.headStage p = s.headStage p := fun p => by rw [State.headStage, State.headStage, hhead]
  simp only [State.rolledInto, hgroup, hhead, hin, hstage] at h
  exact h

theorem State.abortable_iff {st : GroupState} : st.abortable = true ↔ st ∈ [GroupState.opened, .voting, .unwinding] := by
  cases st <;> decide

theorem State.voteAbort_of_abortable {s : State} {g : GroupId} (h : (s.group g).state ∈ [GroupState.opened, .voting, .unwinding])
    (p : PortId) (a : Fin 8) : s.voteAbort g p a = (s.wait p .voteAbort a g).enterRollingBack g (.voteAbort p) := by
  simp only [List.mem_cons, List.not_mem_nil, or_false] at h
  rcases h with h | h | h <;> simp only [State.voteAbort, h]

theorem State.voteAbort_of_notOpen {s : State} {g : GroupId}
    (h : (s.group g).state ∈ [GroupState.disabled, .unverified, .formatting, .recovering, .closed, .faulted]) (p : PortId)
    (a : Fin 8) : s.voteAbort g p a = s.onlyAnswers s.clock p (.refused .notOpen) := by
  simp only [List.mem_cons, List.not_mem_nil, or_false] at h
  rcases h with h | h | h | h | h | h <;> simp only [State.voteAbort, h] <;> rfl

/-- FORCE_ABORT by the group's state (R177). -/
theorem State.forceAbort_of_abortable {s : State} {g : GroupId}
    (h : (s.group g).state ∈ [GroupState.opened, .voting, .unwinding]) :
    s.forceAbort g = (s.enterRollingBack g .management, Response.plain .accepted) :=
  if_pos (State.abortable_iff.2 h)

theorem State.forceAbort_of_rollingBack {s : State} {g : GroupId} (h : (s.group g).state = .rollingBack) :
    s.forceAbort g = (s, Response.plain .ok) := by
  rw [State.forceAbort, h]
  rfl

theorem State.forceAbort_of_other {s : State} {g : GroupId}
    (h : (s.group g).state ∉ [GroupState.opened, .voting, .unwinding, .rollingBack]) :
    s.forceAbort g = (s, Response.plain .state) := by
  simp only [List.mem_cons, List.not_mem_nil, or_false, not_or] at h
  obtain ⟨hopened, hvoting, hunwinding, hrolling⟩ := h
  rw [State.forceAbort, if_neg, if_neg hrolling]
  rw [State.abortable_iff]
  simp [hopened, hvoting, hunwinding]

theorem State.enterRollingBack_emitted (s : State) (g : GroupId) (c : CloseCause) :
    (s.enterRollingBack g c).emitted = s.emitted := by
  obtain ⟨hrest, -⟩ := s.enterRollingBack_frame g c
  rw [hrest]

theorem State.enterRollingBack_mgmt (s : State) (g : GroupId) (c : CloseCause) :
    (s.enterRollingBack g c).mgmt = s.mgmt := by
  obtain ⟨hrest, -⟩ := s.enterRollingBack_frame g c
  rw [hrest]

theorem State.othersKept_enterRollingBack (s : State) (g : GroupId) (c : CloseCause) :
    s.othersKept (s.enterRollingBack g c) g := by
  obtain ⟨-, hothers, -⟩ := s.enterRollingBack_frame g c
  exact hothers

/-- Holding heads leaves the epoch channels alone. -/
theorem State.enterRollingBack_channel (s : State) (g : GroupId) (c : CloseCause) (p : PortId) :
    ((s.enterRollingBack g c).port p).channel = (s.port p).channel := by
  obtain ⟨hrest, -⟩ := s.enterRollingBack_frame g c
  rw [hrest]
  exact s.stageHeads_channel _ p

theorem execVoteTimeout_of_running {s : State} {g : GroupId} (hstate : (s.group g).state = .voting)
    (htimer : (s.group g).voteTimer ≠ none) :
    exec (.voteTimeout g) s = .next (s.tick.enterRollingBack g .voteTimeout) := by
  have hruns : (s.group g).windowRuns = true := by
    simp [Group.windowRuns, hstate, Option.isSome_iff_ne_none, htimer]
  rw [exec, execVoteTimeout, if_pos hruns]

theorem execVoteTimeout_of_stopped {s : State} {g : GroupId}
    (h : (s.group g).state ≠ .voting ∨ (s.group g).voteTimer = none) : exec (.voteTimeout g) s = .next s := by
  have hruns : (s.group g).windowRuns = false := by
    rcases h with h | h <;> simp [Group.windowRuns, h]
  rw [exec, execVoteTimeout, hruns]
  rfl

/-- Settles O31: each of the three causes enters ROLLING_BACK from an abortable state, and elsewhere only answers. -/
theorem abortCausesEnterRollingBack : Obligations.AbortCausesEnterRollingBack := by
  refine ⟨fun s p a g h => ?voteAbort, fun s g => ⟨fun hstate htimer => ?timeout, execVoteTimeout_of_stopped⟩,
    fun s g h => ?forceAbort⟩
  case voteAbort =>
    refine ⟨s.tick.voteAbort g p a, congrArg Host.Outcome.next (State.takeCommand_of_commands (s := s.tick) h _),
      fun hstate => ?_, fun hstate => ?_, fun hstate => ?_, fun hstate => ?_⟩
    · rw [State.voteAbort_of_abortable (s := s.tick) hstate]
      refine ⟨State.rolledInto_of_agrees (u := s.tick.wait p .voteAbort a g) rfl
          (s.tick.wait_head p .voteAbort a g) (s.tick.wait_headGroup p .voteAbort a g)
          (State.rolledInto_enterRollingBack _ g _),
        State.othersKept_enterRollingBack (s.tick.wait p .voteAbort a g) g _,
        State.enterRollingBack_emitted (s.tick.wait p .voteAbort a g) g _, ?_⟩
      rw [State.enterRollingBack_channel, State.wait_port_self]
    · simp only [State.voteAbort, State.tick_group, hstate]
      exact ⟨rfl, rfl, rfl, s.tick.wait_port_self p .voteAbort a g⟩
    · simp only [State.voteAbort, State.tick_group, hstate]
      rfl
    · exact State.voteAbort_of_notOpen (s := s.tick) hstate p a
  case timeout =>
    refine ⟨_, execVoteTimeout_of_running hstate htimer, s.tick.rolledInto_enterRollingBack g _,
      s.tick.othersKept_enterRollingBack g _, s.tick.enterRollingBack_emitted g _, ?_⟩
    obtain ⟨hrest, -⟩ := s.tick.enterRollingBack_frame g .voteTimeout
    rw [hrest]
    rfl
  case forceAbort =>
    refine ⟨_, exec_of_awaits (c := .forceAbort) h rfl, fun hstate => ?_, fun hstate => ?_, fun hstate => ?_⟩
    · rw [State.decideAs, State.carryOut, State.forceAbort_of_abortable (s := s.tick) hstate]
      refine ⟨s.tick.rolledInto_enterRollingBack g _, s.tick.othersKept_enterRollingBack g _, ?_⟩
      rw [State.modMgmt_mgmt, State.enterRollingBack_mgmt]
      rfl
    · exact State.decideAs_of_refusal (by rw [State.carryOut, State.forceAbort_of_rollingBack (s := s.tick) hstate]; rfl)
    · exact State.decideAs_of_refusal (by rw [State.carryOut, State.forceAbort_of_other (s := s.tick) hstate]; rfl)

end Sys2Proof.Machine
end

section
/-! Popping, the finish of an undo and the closes of an epoch (R55 to R58, R73, R78 to R81, R145). -/

namespace Sys2Proof.Machine

/-! ### The tracking table after a change of one entry -/

section
variable {l : List TrackEntry} {b : Block}

theorem findEntry_dropEntry (b : Block) (l : List TrackEntry) (x : Block) :
    findEntry (dropEntry b l) x = if x = b then none else findEntry l x := by
  rw [findEntry, dropEntry, List.find?_filter]
  split
  next h =>
    subst h
    exact List.find?_eq_none.2 fun e _ => by simp
  next h =>
    rw [findEntry]
    congr 1
    funext e
    by_cases he : e.block = x
    · simp [he, h]
    · simp [he]

/-- The table once a record is popped: the block's own entry is removed or takes its prior level (R57). -/
theorem findEntry_popEntry (h : sortedTable l) (prior : Option Nat) (x : Block) : findEntry (popEntry b prior l) x
    = if x = b then prior.bind fun n => (findEntry l b).map fun e => { e with durable := some n } else findEntry l x := by
  cases prior with
  | none =>
    rw [popEntry, findEntry_dropEntry]
    rfl
  | some n =>
    cases he : findEntry l b with
    | none =>
      simp only [popEntry, he]
      split
      next hx => rw [hx, he]; rfl
      next => rfl
    | some e =>
      have hblock : e.block = b := findEntry_block he
      simp only [popEntry, he, findEntry_putEntry _ h, hblock]
      by_cases hx : x = b
      · rw [if_pos hx.symm, if_pos hx]
        simp [hblock]
      · rw [if_neg (Ne.symm hx), if_neg hx]

end

theorem State.poppedIn_popEntry {s t : State} {b : Block} {prior : Option Nat} (hsorted : s.tableSorted)
    (h : t.table = popEntry b prior s.table) : s.poppedIn t b prior := by
  refine ⟨fun hprior => ?_, fun n e hprior he => ?_, fun x hx => ?_⟩
  · rw [h, findEntry_popEntry hsorted, if_pos rfl, hprior]
    rfl
  · rw [h, findEntry_popEntry hsorted, if_pos rfl, hprior, he]
    rfl
  · rw [h, findEntry_popEntry hsorted, if_neg hx]

/-! ### Answers to waiting commands (R145) -/

/-- The command of port `p` waits for group `g` and is of a kind asked for. -/
def State.waitsFor (s : State) (g : GroupId) (kinds : WaitingKind → Bool) (p : PortId) : Bool :=
  (s.port p).channel.any fun o => decide (o.group = g) && kinds o.kind

/-- From `s` to `t` the waiting commands of the ports in `ps` that are asked for are answered, and nothing else is done. -/
structure State.Answers (s t : State) (ps : List PortId) (g : GroupId) (kinds : WaitingKind → Bool) (a : Answer) :
    Prop where
  rest : t = { s with ports := t.ports, emitted := t.emitted }
  port : ∀ p, t.port p = if p ∈ ps ∧ s.waitsFor g kinds p = true then { s.port p with channel := none } else s.port p
  given : ∀ p ∈ ps, s.waitsFor g kinds p = true → .answer p a ∈ t.emitted
  kept : ∀ e ∈ s.emitted, e ∈ t.emitted

section
variable {s : State} {g : GroupId} {kinds : WaitingKind → Bool} (a : Answer)

theorem State.answerWaiting_of_waiting {p : PortId} (h : s.waitsFor g kinds p = true) :
    s.answerWaiting g kinds a p = (s.modPort p fun x => { x with channel := none }).answer p a := by
  rw [State.waitsFor, Option.any_eq_true] at h
  obtain ⟨o, ho, hwaits⟩ := h
  rw [State.answerWaiting, ho]
  exact if_pos (by simpa using hwaits)

theorem State.answerWaiting_of_other {p : PortId} (h : s.waitsFor g kinds p = false) :
    s.answerWaiting g kinds a p = s := by
  rw [State.answerWaiting]
  cases ho : (s.port p).channel with
  | none => rfl
  | some o =>
    rw [State.waitsFor, ho] at h
    exact if_neg (by simpa using h)

theorem State.answers_foldl (ps : List PortId) (s : State) :
    s.Answers (ps.foldl (fun s p => s.answerWaiting g kinds a p) s) ps g kinds a := by
  induction ps generalizing s with
  | nil => exact ⟨rfl, fun _ => (if_neg fun h => absurd h.1 List.not_mem_nil).symm,
      fun _ h => absurd h List.not_mem_nil, fun _ h => h⟩
  | cons p ps ih =>
    rw [List.foldl_cons]
    cases h : s.waitsFor g kinds p with
    | false =>
      rw [State.answerWaiting_of_other a h]
      obtain ⟨hrest, hport, hgiven, hkept⟩ := ih s
      refine ⟨hrest, fun q => ?_, fun q hq hw => ?_, hkept⟩
      · rw [hport q]
        by_cases hqp : q = p
        · simp [hqp, h]
        · simp [hqp]
      · rcases List.mem_cons.1 hq with rfl | hq
        · rw [h] at hw
          cases hw
        · exact hgiven q hq hw
    | true =>
      rw [State.answerWaiting_of_waiting a h]
      obtain ⟨hrest, hport, hgiven, hkept⟩ := ih ((s.modPort p fun x => { x with channel := none }).answer p a)
      have hafter : ∀ q, ((s.modPort p fun x => { x with channel := none }).answer p a).port q
          = if q = p then { s.port p with channel := none } else s.port q :=
        fun q => (State.emit_port _ _ q).trans (State.modPort_port s p _ q)
      refine ⟨hrest, fun q => ?_, fun q hq hw => ?_, fun e he => hkept e (List.mem_append_left _ he)⟩
      · rw [hport q, State.waitsFor, hafter]
        by_cases hqp : q = p
        · rw [if_pos hqp]
          simp [hqp, h]
        · rw [if_neg hqp, ← State.waitsFor]
          simp [hqp]
      · by_cases hqp : q = p
        · rw [hqp]
          exact hkept _ (List.mem_append_right _ (List.mem_singleton.2 rfl))
        · refine hgiven q ((List.mem_cons.1 hq).resolve_left hqp) ?_
          rw [State.waitsFor, hafter, if_neg hqp]
          exact hw

theorem State.answers_answerAll (s : State) (g : GroupId) (kinds : WaitingKind → Bool) (a : Answer) :
    s.Answers (s.answerAll g kinds a) fourIds g kinds a := State.answers_foldl a fourIds s

end

/-- An answer moves no request and no classification outcome. -/
theorem State.Answers.heads {s t : State} {ps : List PortId} {g : GroupId} {kinds : WaitingKind → Bool} {a : Answer}
    (h : s.Answers t ps g kinds a) (p : PortId) :
    t.head p = s.head p ∧ (t.port p).headGroup = (s.port p).headGroup := by
  have hport := h.port p
  split at hport
  all_goals
    rw [State.head, hport]
    exact ⟨rfl, rfl⟩

/-- Every waiting command of the kinds is answered, and the other channels stay. -/
theorem State.Answers.answeredIn {s t u : State} {g : GroupId} {kinds : WaitingKind → Bool} {a : Answer}
    (h : s.Answers t fourIds g kinds a) {ks : List WaitingKind} (hks : ∀ k, kinds k = true ↔ k ∈ ks)
    (hchannel : ∀ p, (u.port p).channel = (t.port p).channel) (hemitted : u.emitted = t.emitted) :
    s.answeredIn u g ks a := by
  intro p
  have hport := h.port p
  rw [hchannel, hemitted]
  cases ho : (s.port p).channel with
  | none =>
    have hwaits : s.waitsFor g kinds p = false := by rw [State.waitsFor, ho]; rfl
    rw [if_neg (by simp [hwaits])] at hport
    rw [hport]
    exact ho
  | some o =>
    have hwaits : s.waitsFor g kinds p = true ↔ o.group = g ∧ o.kind ∈ ks := by
      rw [State.waitsFor, ho, ← hks]
      simp
    show if _ then _ else _
    split
    next hin =>
      rw [if_pos ⟨mem_fourIds p, hwaits.2 hin⟩] at hport
      exact ⟨by rw [hport], h.given p (mem_fourIds p) (hwaits.2 hin)⟩
    next hin =>
      rw [if_neg fun hw => hin (hwaits.1 hw.2)] at hport
      rw [hport]
      exact ho

/-! ### The heads that a state held, released (R11, R12) -/

theorem State.heldByState_of_head {s t : State} {p : PortId} (hhead : t.head p = s.head p)
    (hin : (t.port p).headGroup = (s.port p).headGroup) (g : GroupId) : t.heldByState g p = s.heldByState g p := by
  rw [State.heldByState, State.heldByState, hhead, hin]

theorem State.headsReleased_releaseHeads {s t : State} {g : GroupId} (hhead : ∀ p, t.head p = s.head p)
    (hin : ∀ p, (t.port p).headGroup = (s.port p).headGroup) : s.headsReleased (t.releaseHeads g) g := by
  intro p
  rw [State.releaseHeads_eq, t.headsReleased_stageHeads g p, State.heldByState_of_head (hhead p) (hin p),
    State.headStage, hhead, State.headStage]

/-! ### Held heads retake their checks (R41, R43) -/

theorem State.retakeAll_of_noneHeld {s : State} (h : s.noneHeld) : s.retakeAll = s := by
  have hnone : fourIds.filter (fun g => (s.group g).hold.isSome) = [] :=
    List.filter_eq_nil_iff.2 fun g _ => by simp [h g]
  rw [State.retakeAll, State.heldGroups, hnone]
  rfl

theorem State.noneHeld_of_group {s t : State} {g : GroupId} (h : s.noneHeld) (hothers : s.othersKept t g)
    (hg : (t.group g).hold = (s.group g).hold) : t.noneHeld := fun k => by
  by_cases hk : k = g
  · rw [hk, hg, h g]
  · rw [hothers k hk, h k]

/-! ### The finish of an undo (R58) -/

section
variable {s : State} {g : GroupId}

theorem State.finishUndo_of_some {u : UnwindContext} (h : (s.group g).unwind = some u) : s.finishUndo g
    = ((s.modGroup g fun x => x.undone u.target).answerWaiting g WaitingKind.isUndo
        (.undoDone u.target (s.group g).journalLength) u.port).releaseHeads g := by
  rw [State.finishUndo, h]

/-- The finish of an undo whose command waits answers it. -/
theorem State.finishUndo_of_waiting {u : UnwindContext} {a : Fin 8} (h : (s.group g).unwind = some u)
    (hwaits : (s.port u.port).channel = some { kind := .undo, arg := a, group := g }) : s.finishUndo g
    = (((s.modGroup g fun x => x.undone u.target).modPort u.port fun x => { x with channel := none }).answer u.port
        (.undoDone u.target (s.group g).journalLength)).releaseHeads g := by
  rw [State.finishUndo_of_some h, State.answerWaiting_of_waiting]
  rw [State.waitsFor, State.modGroup_port, hwaits]
  simp [WaitingKind.isUndo]

/-- What the finish of an undo leaves alone. -/
theorem State.finishUndo_frame (s : State) (g : GroupId) : s.othersKept (s.finishUndo g) g
    ∧ (s.finishUndo g).table = s.table ∧ ((s.finishUndo g).group g).journalLength = (s.group g).journalLength
    ∧ ((s.finishUndo g).group g).hold = (s.group g).hold := by
  cases h : (s.group g).unwind with
  | none =>
    rw [State.finishUndo, h]
    exact ⟨fun _ _ => rfl, rfl, rfl, rfl⟩
  | some u =>
    have hrest := (State.answers_foldl (g := g) (kinds := WaitingKind.isUndo)
      (.undoDone u.target (s.group g).journalLength) [u.port] (s.modGroup g fun x => x.undone u.target)).rest
    rw [List.foldl_cons, List.foldl_nil] at hrest
    have hgroups : (s.finishUndo g).groups = s.groups.set g ((s.group g).undone u.target) := by
      rw [State.finishUndo_of_some h, State.releaseHeads_eq, State.stageHeads_groups, hrest]
      rfl
    have htable : (s.finishUndo g).table = s.table := by
      rw [State.finishUndo_of_some h, State.releaseHeads_eq, State.stageHeads_table, hrest]
      rfl
    rw [State.group_of_groups hgroups]
    exact ⟨State.othersKept_of_groups hgroups, htable, rfl, rfl⟩

/-- What every next pop leaves alone. -/
theorem State.nextPop_frame (s : State) (g : GroupId) : s.othersKept (s.nextPop g) g ∧ (s.nextPop g).table = s.table
    ∧ ((s.nextPop g).group g).journalLength = (s.group g).journalLength
    ∧ ((s.nextPop g).group g).hold = (s.group g).hold := by
  have hphase : ∀ ph n y, s.othersKept ((s.modGroup g fun x => x.atPhase ph n).handOn y) g
      ∧ ((s.modGroup g fun x => x.atPhase ph n).handOn y).table = s.table
      ∧ (((s.modGroup g fun x => x.atPhase ph n).handOn y).group g).journalLength = (s.group g).journalLength
      ∧ (((s.modGroup g fun x => x.atPhase ph n).handOn y).group g).hold = (s.group g).hold := fun ph n y => by
    obtain ⟨-, -, -, -, hhold, -, -, -, -, hlength, -⟩ := Group.kept_of_atPhase (x := s.group g) (.inr ⟨ph, n, rfl⟩)
    rw [State.handOn_group, State.modGroup_group_self]
    exact ⟨State.othersKept_of_groups rfl, rfl, hlength, hhold⟩
  by_cases hzero : (s.group g).journalLength = 0
  · by_cases hrolling : (s.group g).state = .rollingBack
    · rw [State.nextPop_of_rollingBack hzero hrolling]
      exact hphase _ _ _
    · have hfinish : s.nextPop g = s.finishUndo g := by
        rw [State.nextPop, if_pos hzero]
        split
        next h => exact absurd h hrolling
        next => rfl
      rw [hfinish]
      exact s.finishUndo_frame g
  · rw [State.nextPop_of_record hzero]
    exact hphase .pop (some (1 + (s.group g).journalLength)) _

end

/-! ### Popping (R55 to R57, R78) -/

section
variable {s : State} {g : GroupId}

/-- The next record to pop is read. -/
theorem State.nextPop_reads {ph : Phase} (hphase : (s.group g).phase = some ph) (h : (s.group g).journalLength ≠ 0) :
    ((s.nextPop g).group g).phase = some .pop
      ∧ ((s.nextPop g).group g).popSlot = some (1 + (s.group g).journalLength)
      ∧ ((s.nextPop g).group g).state = (s.group g).state ∧ ((s.nextPop g).group g).marks = (s.group g).marks
      ∧ (s.nextPop g).mem = (s.handOn ((s.group g).slotRead g (1 + (s.group g).journalLength) .popRead)).mem := by
  rw [State.nextPop_of_record h, State.handOn_group, State.modGroup_group_self]
  obtain ⟨hph, hslot⟩ := Group.phase_atPhase hphase .pop (some (1 + (s.group g).journalLength))
  exact ⟨hph, hslot, atPhase_state _ _ _, atPhase_marks _ _ _, rfl⟩

/-- With no record left a rollback hands its closing header on. -/
theorem State.nextPop_closes {ph : Phase} (hphase : (s.group g).phase = some ph) (h : (s.group g).journalLength = 0)
    (hstate : (s.group g).state = .rollingBack) : ((s.nextPop g).group g).phase = some .header
      ∧ (s.nextPop g).mem = (s.handOn ((s.group g).closingHeader g .rolledBack .rollbackHeader)).mem := by
  rw [State.nextPop_of_rollingBack h hstate, State.handOn_group, State.modGroup_group_self]
  obtain ⟨hph, -⟩ := Group.phase_atPhase hphase .header none
  exact ⟨hph, rfl⟩

theorem State.slotRead_of_popped {slot : List Byte}
    (hmatch : matchesRecord g ((s.group g).closedEpoch + 1) (s.group g).journalLength slot = true)
    (hpopped : (s.group g).keepsRecord (recordLevel slot) = false) : s.slotRead g slot
      = s.handRestore g (recordBlock slot) (recordContents slot) (.popRestore (recordBlock slot) (recordPrior slot)) := by
  rw [State.slotRead, if_pos (show matchesRecord g (s.group g).currentEpoch _ slot = true from hmatch), hpopped]
  rfl

theorem State.slotRead_of_kept {slot : List Byte}
    (hmatch : matchesRecord g ((s.group g).closedEpoch + 1) (s.group g).journalLength slot = true)
    (hkept : (s.group g).keepsRecord (recordLevel slot) = true) : s.slotRead g slot = s.finishUndo g := by
  rw [State.slotRead, if_pos (show matchesRecord g (s.group g).currentEpoch _ slot = true from hmatch), if_pos hkept]

theorem Group.keepsRecord_of_rollingBack {x : Group} (h : x.state = .rollingBack) (n : Nat) : x.keepsRecord n = false := by
  rw [Group.keepsRecord, h]

theorem Group.keepsRecord_of_reached {x : Group} {u : UnwindContext} (hu : x.unwind = some u) {n : Nat} (h : u.target ≤ n) :
    x.keepsRecord n = false := by
  rw [Group.keepsRecord]
  split
  next v _ hv =>
    rw [hu] at hv
    cases hv
    simpa using h
  next => rfl

theorem Group.keepsRecord_of_below {x : Group} {u : UnwindContext} (h : x.state = .unwinding) (hu : x.unwind = some u)
    {n : Nat} (hn : n < u.target) : x.keepsRecord n = true := by
  rw [Group.keepsRecord, h, hu]
  simpa using hn

/-- A pop keeps the undo or rollback where it stands, one record shorter. -/
theorem Group.popped_rest {x : Group} {ph : Phase} (h : x.phase = some ph) : x.popped.state = x.state
    ∧ x.popped.phase = some .pop ∧ x.popped.config = x.config ∧ x.popped.closedEpoch = x.closedEpoch
    ∧ x.popped.hold = x.hold ∧ x.popped.journalLength = x.journalLength - 1 := by
  rcases Group.state_of_phase h with hs | hs
  · rw [Group.phase_of_unwinding hs, Option.map_eq_some_iff] at h
    obtain ⟨u, hu, -⟩ := h
    simp [Group.popped, Group.atPhase_of_unwinding hs, Group.phase, hs, hu]
  · rw [Group.phase_of_rollingBack hs, Option.map_eq_some_iff] at h
    obtain ⟨r, hr, -⟩ := h
    simp [Group.popped, Group.atPhase_of_rollingBack hs, Group.phase, hs, hr]

/-- The state at the end of a pop, before the next one begins. -/
def State.recordPopped (s : State) (g : GroupId) (b : Block) (prior : Option Nat) : State :=
  (s.setTable (popEntry b prior s.table)).modGroup g Group.popped

theorem State.recordPopped_group (s : State) (g : GroupId) (b : Block) (prior : Option Nat) :
    (s.recordPopped g b prior).group g = (s.group g).popped := State.modGroup_group_self _ g _

theorem State.othersKept_recordPopped (s : State) (g : GroupId) (b : Block) (prior : Option Nat) :
    s.othersKept (s.recordPopped g b prior) g := State.othersKept_of_groups rfl

theorem State.othersKept_trans {t u : State} (h : s.othersKept t g) (h' : t.othersKept u g) : s.othersKept u g :=
  fun k hk => (h' k hk).trans (h k hk)

theorem Group.hold_popped (x : Group) : x.popped.hold = x.hold := by
  obtain ⟨-, -, -, -, hhold, -⟩ := Group.kept_of_atPhase (x := x) (.inr ⟨.pop, none, rfl⟩)
  exact hhold

/-- With no head held the end of a pop is the next pop. -/
theorem State.popDone_of_noneHeld (h : s.noneHeld) (b : Block) (prior : Option Nat) :
    s.popDone g (.popClear b prior) = (s.recordPopped g b prior).nextPop g := by
  obtain ⟨hothers, -, -, hhold⟩ := (s.recordPopped g b prior).nextPop_frame g
  refine State.retakeAll_of_noneHeld (State.noneHeld_of_group h
    (State.othersKept_trans (s.othersKept_recordPopped g b prior) hothers) ?_)
  exact hhold.trans ((congrArg Group.hold (s.recordPopped_group g b prior)).trans (s.group g).hold_popped)

theorem Group.popSlotNumber_of_some {x : Group} {n : Nat} (h : x.popSlot = some n) : x.popSlotNumber = n := by
  rw [Group.popSlotNumber, h]
  rfl

theorem Group.slotRead_congr {x y : Group} (h : x.config = y.config) (g : GroupId) (n : Nat) (r : Role) :
    x.slotRead g n r = y.slotRead g n r := by
  rw [Group.slotRead, Group.slotRead, h]

theorem Group.closingHeader_congr {x y : Group} (h : x.config = y.config) (he : x.closedEpoch = y.closedEpoch) (g : GroupId)
    (st : HeaderState) (r : Role) : x.closingHeader g st r = y.closingHeader g st r := by
  rw [Group.closingHeader, Group.closingHeader, h, he]

end

/-- Settles O43: each event of a pop, from phase CLEAR to the next record or the closing header. -/
theorem popRunsReadRestoreClear : Obligations.PopRunsReadRestoreClear := by
  refine ⟨fun s i g data h hphase => ⟨_, exec_clearPhaseWrite_ok data h, fun hlength => ?reads, fun hlength hstate => ?closes⟩,
    fun s i g data h hmatch hpops => ?restores, fun s i g b prior n data h hslot => ?clears,
    fun s i g b prior data h hphase hnone hsorted => ⟨_, exec_popComplete_ok data h, ?_⟩⟩
  case reads =>
    obtain ⟨hph, hslot, -, hmarks, hmem⟩ := State.nextPop_reads (s := s.placeFreed i) hphase hlength
    obtain ⟨-, -, hkept, -⟩ := (s.placeFreed i).nextPop_frame g
    exact ⟨hph, hslot, hkept, hmarks, hmem⟩
  case closes => exact State.nextPop_closes (s := s.placeFreed i) hphase hlength hstate
  case restores =>
    have hpopped : (s.group g).keepsRecord (recordLevel (fitBytes 128 data)) = false := by
      rcases hpops with hstate | ⟨u, hu, hlevel⟩
      · exact Group.keepsRecord_of_rollingBack hstate _
      · exact Group.keepsRecord_of_reached hu hlevel
    rw [exec_recordRead_ok data h, State.slotRead_of_popped (s := s.placeFreed i) hmatch hpopped]
    rfl
  case clears =>
    rw [exec_restoreWrite_ok data h, State.clearPopped, State.handClearing_eq, State.placeFreed_group,
      Group.popSlotNumber_of_some hslot]
  · rw [State.popDone_of_noneHeld (s := s.placeFreed i) hnone]
    obtain ⟨hothers, htable, hlength, -⟩ := ((s.placeFreed i).recordPopped g b prior).nextPop_frame g
    have hgroup := (s.placeFreed i).recordPopped_group g b prior
    obtain ⟨hstate, hpop, hconfig, hepoch, -, hshorter⟩ := Group.popped_rest (x := s.group g) hphase
    rw [State.placeFreed_group] at hgroup
    have hpop' : (((s.placeFreed i).recordPopped g b prior).group g).phase = some .pop := hgroup ▸ hpop
    rw [hgroup, hshorter] at hlength
    refine ⟨hlength, State.othersKept_trans ((s.placeFreed i).othersKept_recordPopped g b prior) hothers,
      State.poppedIn_popEntry hsorted htable, fun htwo => ?_, fun hone hrolling => ?_⟩
    · obtain ⟨-, hslot, hsame, -, hmem⟩ := State.nextPop_reads hpop' (by rw [hgroup, hshorter]; omega)
      have hnewest : 1 + (s.group g).popped.journalLength = (s.group g).journalLength := by rw [hshorter]; omega
      rw [hgroup, hnewest, Group.slotRead_congr hconfig] at hmem
      rw [hgroup, hnewest] at hslot
      rw [hgroup, hstate] at hsame
      exact ⟨hsame, hslot, hmem⟩
    · obtain ⟨hheader, hmem⟩ := State.nextPop_closes hpop' (by rw [hgroup, hshorter, hone]) (by rw [hgroup, hstate, hrolling])
      rw [hgroup, Group.closingHeader_congr hconfig hepoch] at hmem
      exact ⟨hheader, hmem⟩

/-! ### An undo at its mark (R56, R58) -/

section
variable {s : State} {g : GroupId}

/-- The finish of an undo that waits on its channel: its group is OPEN, its command answered, its heads released. -/
theorem State.finishUndo_spec {u : UnwindContext} {a : Fin 8} (hu : (s.group g).unwind = some u)
    (hwaits : (s.port u.port).channel = some { kind := .undo, arg := a, group := g }) :
    (s.finishUndo g).group g = (s.group g).undone u.target ∧ s.othersKept (s.finishUndo g) g
      ∧ s.headsReleased (s.finishUndo g) g ∧ (s.finishUndo g).mem = s.mem ∧ (s.finishUndo g).alerts = s.alerts
      ∧ ((s.finishUndo g).port u.port).channel = none
      ∧ (s.finishUndo g).emitted = s.emitted ++ [.answer u.port (.undoDone u.target (s.group g).journalLength)]
      ∧ ∀ q, q ≠ u.port → ((s.finishUndo g).port q).channel = (s.port q).channel := by
  have hport : ∀ q, (((s.modGroup g fun x => x.undone u.target).modPort u.port fun x => { x with channel := none }).answer
      u.port (.undoDone u.target (s.group g).journalLength)).port q
      = if q = u.port then { s.port u.port with channel := none } else s.port q :=
    fun q => (State.emit_port _ _ q).trans (State.modPort_port _ u.port _ q)
  have hheads := State.headsReleased_releaseHeads (g := g) (s := s)
    (t := ((s.modGroup g fun x => x.undone u.target).modPort u.port fun x => { x with channel := none }).answer
      u.port (.undoDone u.target (s.group g).journalLength))
    (fun q => by
      rw [State.head, hport, State.head]
      split
      next h => rw [h]
      next => rfl)
    (fun q => by
      rw [hport]
      split
      next h => rw [h]
      next => rfl)
  rw [State.finishUndo_of_waiting hu hwaits]
  refine ⟨?_, ?_, hheads, ?_⟩
  · rw [State.releaseHeads_eq]
    exact State.group_of_groups (v := s.groups) rfl
  · rw [State.releaseHeads_eq]
    exact State.othersKept_of_groups rfl
  · rw [State.releaseHeads_eq]
    refine ⟨rfl, rfl, ?_, rfl, fun q hq => ?_⟩
    · rw [State.stageHeads_channel, hport, if_pos rfl]
    · rw [State.stageHeads_channel, hport, if_neg hq]

/-- The undo's own context, as the end of the last pop leaves it. -/
theorem Group.popped_unwind {x : Group} {u : UnwindContext} (h : x.state = .unwinding) (hu : x.unwind = some u) :
    x.popped.unwind = some { u with phase := .pop, slot := none } := by
  simp [Group.popped, Group.atPhase_of_unwinding h, h, hu]

theorem Group.undone_popped {x : Group} (h : x.state = .unwinding) (m : Nat) :
    x.popped.undone m = { x.undone m with journalLength := x.journalLength - 1 } := by
  rw [Group.popped, Group.atPhase_of_unwinding h]
  rfl

end

/-- Settles O45: the undo finishes at a record it keeps, after its CLEAR with no record, and after its last pop. -/
theorem undoFinishesAtItsMark : Obligations.UndoFinishesAtItsMark := by
  intro s i g u a data c n hstate hu hnone hwaits hends
  rcases hends with ⟨rfl, h, rfl, hmatch, hkept⟩ | ⟨rfl, h, rfl, hlength⟩ | ⟨b, prior, rfl, h, rfl, hlength⟩
  · refine ⟨_, exec_recordRead_ok data h, ?_⟩
    rw [State.slotRead_of_kept (s := s.placeFreed i) hmatch (Group.keepsRecord_of_below hstate hu hkept)]
    exact State.finishUndo_spec (s := s.placeFreed i) hu hwaits
  · refine ⟨_, exec_clearPhaseWrite_ok data h, ?_⟩
    rw [State.nextPop_of_unwinding (s := s.placeFreed i) hlength hstate]
    have hspec := State.finishUndo_spec (s := s.placeFreed i) hu hwaits
    simp only [State.placeFreed_group, hlength] at hspec
    obtain ⟨hgroup, hrest⟩ := hspec
    refine ⟨?_, hrest⟩
    rw [hgroup, ← hlength]
    rfl
  · refine ⟨_, exec_popComplete_ok data h, ?_⟩
    have hgroup : ((s.placeFreed i).recordPopped g b prior).group g = (s.group g).popped :=
      (s.placeFreed i).recordPopped_group g b prior
    obtain ⟨hpopped, -, -, -, -, hshorter⟩ := Group.popped_rest (x := s.group g)
      ((Group.phase_of_unwinding hstate).trans (congrArg (Option.map _) hu))
    rw [State.popDone_of_noneHeld (s := s.placeFreed i) hnone, State.nextPop_of_unwinding
      (by rw [hgroup, hshorter, hlength]) (by rw [hgroup, hpopped, hstate])]
    obtain ⟨hfinal, hothers, hheads, hmem, halerts, hidle, hanswer, hchannels⟩ :=
      State.finishUndo_spec (s := (s.placeFreed i).recordPopped g b prior) (u := { u with phase := .pop, slot := none })
        (by rw [hgroup]; exact Group.popped_unwind hstate hu) hwaits
    rw [hgroup, hshorter, hlength] at hanswer
    rw [hgroup, Group.undone_popped hstate, hlength] at hfinal
    exact ⟨hfinal, State.othersKept_trans ((s.placeFreed i).othersKept_recordPopped g b prior) hothers, hheads, hmem,
      halerts, hidle, hanswer, hchannels⟩

/-! ### The closes of an epoch (R73, R80, R81, R85) -/

section
variable (s : State) (g : GroupId)

/-- The answers and releases of a close, seen from the state before it. -/
theorem State.answered_and_released {s t u v : State} {g : GroupId} {kinds : WaitingKind → Bool} {a : Answer}
    {ks : List WaitingKind} (hks : ∀ k, kinds k = true ↔ k ∈ ks) (hports : t.ports = s.ports)
    (hanswers : t.Answers u fourIds g kinds a) (huv : v.ports = u.ports) (hvemitted : v.emitted = u.emitted) :
    s.headsReleased (v.releaseHeads g) g ∧ s.answeredIn (v.releaseHeads g) g ks a := by
  have hst : ∀ p, t.port p = s.port p := fun p => by rw [State.port, hports, State.port]
  have hvu : ∀ p, v.port p = u.port p := fun p => by rw [State.port, huv, State.port]
  refine ⟨State.headsReleased_releaseHeads (fun p => ?_) fun p => ?_, ?_⟩
  · rw [State.head, hvu, ← State.head, (hanswers.heads p).1, State.head, hst, State.head]
  · rw [hvu, (hanswers.heads p).2, hst]
  · have hin : t.answeredIn (v.releaseHeads g) g ks a := hanswers.answeredIn hks
      (fun p => by rw [State.releaseHeads_eq, State.stageHeads_channel, hvu])
      (by rw [State.releaseHeads_eq]; exact hvemitted)
    intro p
    have := hin p
    rw [hst] at this
    exact this

theorem WaitingKind.isVote_iff (k : WaitingKind) : k.isVote = true ↔ k ∈ [WaitingKind.voteCommit] := by
  cases k <;> decide

theorem WaitingKind.isAny_iff (k : WaitingKind) :
    k.isAny = true ↔ k ∈ [WaitingKind.undo, .voteCommit, .voteAbort] := by
  cases k <;> decide

/-- The commit point but for the answers and the releases. -/
def State.committed (s : State) (g : GroupId) : State :=
  (s.setTable (dropGroup g s.table)).modGroup g Group.committedEpoch

theorem State.answers_commitPoint : (s.committed g).Answers ((s.committed g).answerAll g WaitingKind.isVote
    (.committed (s.group g).currentEpoch)) fourIds g WaitingKind.isVote (.committed (s.group g).currentEpoch) :=
  (s.committed g).answers_answerAll g _ _

/-- What the commit point does to the state but for the ports and the answers. -/
theorem State.commitPoint_rest : (s.commitPoint g).group g = (s.group g).committedEpoch
    ∧ s.othersKept (s.commitPoint g) g ∧ (s.commitPoint g).table = dropGroup g s.table ∧ (s.commitPoint g).mem = s.mem
    ∧ (s.commitPoint g).alerts = s.alerts := by
  have hrest := (s.answers_commitPoint g).rest
  rw [State.commitPoint, State.releaseHeads_eq, ← State.committed, hrest]
  exact ⟨State.modGroup_group_self _ g _, State.othersKept_of_groups rfl, rfl, rfl, rfl⟩

/-- The close of a rollback but for the answers, the alert and the releases. -/
theorem State.answers_rollbackClose : (s.modGroup g Group.rolledBackEpoch).Answers
    ((s.modGroup g Group.rolledBackEpoch).answerAll g WaitingKind.isAny
      (.rolledBack (s.group g).currentEpoch (s.group g).lastClose)) fourIds g WaitingKind.isAny
    (.rolledBack (s.group g).currentEpoch (s.group g).lastClose) :=
  (s.modGroup g Group.rolledBackEpoch).answers_answerAll g _ _

theorem State.latchRollback_of_voteAbort {c : CloseCause} {p : PortId} (h : c = .voteAbort p) :
    s.latchRollback g c = s := by
  rw [State.latchRollback, h]
  rfl

theorem State.latchRollback_of_automatic {c : CloseCause} (h : ∀ p, c ≠ .voteAbort p) :
    s.latchRollback g c = s.latch (.autoRollback g) := by
  have hauto : c.automatic = true := by
    cases c with
    | voteAbort p => exact absurd rfl (h p)
    | _ => rfl
  rw [State.latchRollback, if_pos hauto]

/-- The latch of a rollback touches the alert causes alone. -/
theorem State.latchRollback_rest (c : CloseCause) : (s.latchRollback g c).groups = s.groups
    ∧ (s.latchRollback g c).ports = s.ports ∧ (s.latchRollback g c).table = s.table ∧ (s.latchRollback g c).mem = s.mem
    ∧ (s.latchRollback g c).emitted = s.emitted := by
  unfold State.latchRollback
  split <;> exact ⟨rfl, rfl, rfl, rfl, rfl⟩

/-- What the close of a rollback does to the state but for the ports, the answers and the alerts. -/
theorem State.rollbackClose_rest : (s.rollbackClose g).group g = (s.group g).rolledBackEpoch
    ∧ s.othersKept (s.rollbackClose g) g ∧ (s.rollbackClose g).table = s.table ∧ (s.rollbackClose g).mem = s.mem := by
  have hrest := (s.answers_rollbackClose g).rest
  have hgroups : (s.rollbackClose g).groups = s.groups.set g (s.group g).rolledBackEpoch := by
    rw [State.rollbackClose, State.releaseHeads_eq, State.stageHeads_groups, (State.latchRollback_rest _ g _).1, hrest]
    rfl
  refine ⟨State.group_of_groups hgroups, State.othersKept_of_groups hgroups, ?_, ?_⟩
  · rw [State.rollbackClose, State.releaseHeads_eq, State.stageHeads_table, (State.latchRollback_rest _ g _).2.2.1, hrest]
    rfl
  · rw [State.rollbackClose, State.releaseHeads_eq, State.stageHeads_mem, (State.latchRollback_rest _ g _).2.2.2.1, hrest]
    rfl

end

/-- Settles O46: the two closes, each with its answers, its releases and its group's new context. -/
theorem closesEndTheEpoch : Obligations.ClosesEndTheEpoch := by
  intro s i g data hnone
  refine ⟨fun h => ⟨_, exec_commitHeaderWrite_ok data h, ?commit⟩, fun h => ⟨_, exec_rollbackHeaderWrite_ok data h, ?rollback⟩⟩
  case commit =>
    obtain ⟨hgroup, hothers, htable, hmem, halerts⟩ := (s.placeFreed i).commitPoint_rest g
    obtain ⟨hreleased, hanswered⟩ := State.answered_and_released (s := s)
      (t := (s.placeFreed i).committed g) WaitingKind.isVote_iff rfl
      ((s.placeFreed i).answers_commitPoint g) rfl rfl
    rw [State.retakeAll_of_noneHeld (State.noneHeld_of_group (s := s) hnone hothers (by rw [hgroup]; rfl))]
    exact ⟨hgroup, hothers, htable, hmem, halerts, hreleased, hanswered⟩
  case rollback =>
    obtain ⟨hgroup, hothers, htable, hmem⟩ := (s.placeFreed i).rollbackClose_rest g
    have hanswers := (s.placeFreed i).answers_rollbackClose g
    obtain ⟨-, hports, -, -, hemitted⟩ := State.latchRollback_rest (((s.placeFreed i).modGroup g Group.rolledBackEpoch).answerAll
      g WaitingKind.isAny (.rolledBack (s.group g).currentEpoch (s.group g).lastClose)) g (s.group g).lastClose
    obtain ⟨hreleased, hanswered⟩ := State.answered_and_released (s := s)
      (t := (s.placeFreed i).modGroup g Group.rolledBackEpoch) WaitingKind.isAny_iff rfl hanswers hports hemitted
    rw [State.retakeAll_of_noneHeld (State.noneHeld_of_group (s := s) hnone hothers (by rw [hgroup]; rfl))]
    refine ⟨hgroup, hothers, htable, hmem, hreleased, hanswered, fun p hp => ?_, fun hp => ?_⟩
    · rw [State.rollbackClose, State.releaseHeads_eq, State.stageHeads_alerts,
        State.latchRollback_of_voteAbort _ g (show ((s.placeFreed i).group g).lastClose = _ from hp), hanswers.rest]
      rfl
    · rw [State.rollbackClose, State.releaseHeads_eq, State.latchRollback_of_automatic (c := ((s.placeFreed i).group g).lastClose) _ g hp]
      exact State.isLatched_latch ..

end Sys2Proof.Machine
end

section
/-! The arbiter's choice by class and age (R152, R153), and the answers that reach nobody (R157). -/

namespace Sys2Proof.Machine

/-! ### The earliest of several (R153) -/

/-- `b` is the earliest handed on of what `f` gives for the numbers in `gs`, of two of the same event that of the lower number. -/
def EarliestOf (f : GroupId → Option Txn) (gs : List GroupId) (b : Option Txn) : Prop :=
  match b with
  | none => ∀ g ∈ gs, f g = none
  | some x => ∃ g ∈ gs, f g = some x
      ∧ ∀ k ∈ gs, ∀ y, f k = some y → x.stamp < y.stamp ∨ (x.stamp = y.stamp ∧ g.val ≤ k.val)

/-- One more number, above those before it. -/
theorem EarliestOf.snoc {f : GroupId → Option Txn} {gs : List GroupId} {b : Option Txn} {k : GroupId}
    (h : EarliestOf f gs b) (hk : ∀ g ∈ gs, g < k) : EarliestOf f (gs ++ [k]) (earlier b (f k)) := by
  cases b with
  | none =>
    cases hfk : f k with
    | none =>
      intro g hg
      rcases List.mem_append.1 hg with hg | hg
      · exact h g hg
      · rw [List.mem_singleton.1 hg, hfk]
    | some y =>
      refine ⟨k, List.mem_append_right _ (List.mem_singleton.2 rfl), hfk, fun j hj z hz => ?_⟩
      rcases List.mem_append.1 hj with hj | hj
      · cases (h j hj).symm.trans hz
      · cases List.mem_singleton.1 hj
        cases hfk.symm.trans hz
        exact .inr ⟨rfl, le_refl _⟩
  | some x =>
    obtain ⟨g, hg, hx, hfirst⟩ := h
    cases hfk : f k with
    | none =>
      refine ⟨g, List.mem_append_left _ hg, hx, fun j hj z hz => ?_⟩
      rcases List.mem_append.1 hj with hj | hj
      · exact hfirst j hj z hz
      · cases List.mem_singleton.1 hj
        cases hfk.symm.trans hz
    | some y =>
      by_cases hlt : y.stamp < x.stamp
      · have hbest : earlier (some x) (some y) = some y := if_pos hlt
        rw [hbest]
        refine ⟨k, List.mem_append_right _ (List.mem_singleton.2 rfl), hfk, fun j hj z hz => ?_⟩
        rcases List.mem_append.1 hj with hj | hj
        · have := hfirst j hj z hz
          omega
        · cases List.mem_singleton.1 hj
          cases hfk.symm.trans hz
          exact .inr ⟨rfl, le_refl _⟩
      · have hbest : earlier (some x) (some y) = some x := if_neg hlt
        rw [hbest]
        refine ⟨g, List.mem_append_left _ hg, hx, fun j hj z hz => ?_⟩
        rcases List.mem_append.1 hj with hj | hj
        · exact hfirst j hj z hz
        · cases List.mem_singleton.1 hj
          cases hfk.symm.trans hz
          have hgk : g.val < k.val := hk g hg
          omega

theorem EarliestOf.foldl {f : GroupId → Option Txn} {l : List GroupId} : ∀ {gs : List GroupId} {b : Option Txn},
    EarliestOf f gs b → (gs ++ l).Pairwise (· < ·) →
    EarliestOf f (gs ++ l) (l.foldl (fun best g => earlier best (f g)) b) := by
  induction l with
  | nil =>
    intro gs b h _
    rw [List.append_nil]
    exact h
  | cons k l ih =>
    intro gs b h hpairs
    obtain ⟨-, -, hbelow⟩ := List.pairwise_append.1 hpairs
    have hstep := ih (h.snoc fun g hg => hbelow g hg k List.mem_cons_self)
    rw [List.append_assoc] at hstep
    exact hstep hpairs

/-! ### The winner of a class, and the choice (R153) -/

section
variable {m : MemPort}

theorem MemPort.earliestOf_winner (m : MemPort) (c : TxnClass) : EarliestOf (m.presentedOf c) fourIds (m.winner c) :=
  EarliestOf.foldl (gs := []) (fun _ h => absurd h List.not_mem_nil) fourIds_pairwise

theorem MemPort.presentedOf_eq_some_iff {c : TxnClass} {g : GroupId} {x : Txn} :
    m.presentedOf c g = some x ↔ (x.source = .group g ∧ m.presents x) ∧ x.cls = c := by
  rw [MemPort.presentedOf, Option.filter_eq_some_iff, m.presented_eq_some_iff, beq_iff_eq]

theorem MemPort.winner_eq_none {c : TxnClass} (h : m.winner c = none) {x : Txn} {g : GroupId} (hx : x.source = .group g)
    (hp : m.presents x) : x.cls ≠ c := by
  intro hc
  have hnone := m.earliestOf_winner c
  rw [h] at hnone
  cases (hnone g (mem_fourIds g)).symm.trans (MemPort.presentedOf_eq_some_iff.2 ⟨⟨hx, hp⟩, hc⟩)

theorem MemPort.winner_eq_some {c : TxnClass} {x : Txn} (h : m.winner c = some x) : m.presents x ∧ x.cls = c
    ∧ ∀ y, m.presents y → y.cls = c → ∀ g k, x.source = .group g → y.source = .group k →
        x.stamp < y.stamp ∨ (x.stamp = y.stamp ∧ g.val ≤ k.val) := by
  have hbest := m.earliestOf_winner c
  rw [h] at hbest
  obtain ⟨j, -, hx, hfirst⟩ := hbest
  obtain ⟨⟨hsource, hp⟩, hc⟩ := MemPort.presentedOf_eq_some_iff.1 hx
  refine ⟨hp, hc, fun y hy hyc g k hg hk => ?_⟩
  cases hsource.symm.trans hg
  exact hfirst k (mem_fourIds k) y (MemPort.presentedOf_eq_some_iff.2 ⟨⟨hk, hy⟩, hyc⟩)

theorem MemPort.presents.mem_waiting {x : Txn} (h : m.presents x) : x ∈ m.waiting := by
  obtain ⟨⟨older, younger, hwaiting, -⟩, -⟩ := h
  rw [hwaiting]
  exact List.mem_append_right _ List.mem_cons_self

/-- Where classes follow sources, a presented transaction of a port is a REQUESTER one, and one of another class a group's. -/
theorem MemPort.presents.class_of_source {x : Txn} (h : m.presents x) (hsound : ∀ y ∈ m.waiting, y.classFits) :
    (∃ p, x.source = .port p ∧ x.cls = .requester) ∨ ∃ g, x.source = .group g ∧ x.cls ≠ .requester := by
  have hfits := hsound x h.mem_waiting
  cases hs : x.source with
  | port p => exact .inl ⟨p, rfl, hfits.2 ⟨p, hs⟩⟩
  | group g =>
    refine .inr ⟨g, rfl, fun hc => ?_⟩
    obtain ⟨p, hp⟩ := hfits.1 hc
    cases hs.symm.trans hp

theorem MemPort.choice_eq_none (hsound : ∀ y ∈ m.waiting, y.classFits) (h : m.choice = none) (x : Txn) :
    ¬ m.presents x := by
  intro hx
  unfold MemPort.choice at h
  split at h
  next => cases h
  next hrestore =>
    split at h
    next => cases h
    next hjournal =>
      rcases hx.class_of_source hsound with ⟨p, hp, -⟩ | ⟨g, hg, hc⟩
      · have hshown := (m.presented_eq_some_iff (.port p) x).2 ⟨hp, hx⟩
        cases hturn : m.turn with
        | none =>
          have := List.find?_eq_none.1 hturn p (mem_rotation m.pointer p)
          rw [hshown] at this
          exact this rfl
        | some q =>
          rw [hturn, Option.bind_some] at h
          have := List.find?_some hturn
          rw [h] at this
          cases this
      · have hr := MemPort.winner_eq_none hrestore hg hx
        have hj := MemPort.winner_eq_none hjournal hg hx
        cases hcls : x.cls <;> simp_all

/-- The choice is presented, no presented transaction has a class before its own, and among groups it is the earliest. -/
theorem MemPort.choice_eq_some (hsound : ∀ y ∈ m.waiting, y.classFits) {x : Txn} (h : m.choice = some x) :
    m.presents x ∧ ∀ y, m.presents y → x.cls.rank ≤ y.cls.rank
      ∧ (y.cls = x.cls → ∀ g k, x.source = .group g → y.source = .group k →
          x.stamp < y.stamp ∨ (x.stamp = y.stamp ∧ g.val ≤ k.val)) := by
  unfold MemPort.choice at h
  split at h
  next hrestore =>
    cases h
    obtain ⟨hp, hc, hfirst⟩ := MemPort.winner_eq_some hrestore
    exact ⟨hp, fun y hy => ⟨by rw [hc]; exact Nat.zero_le _, fun hyc => hfirst y hy (hyc.trans hc)⟩⟩
  next hrestore =>
    have hnot : ∀ y, m.presents y → y.cls ≠ .restore := fun y hy hyc => by
      rcases hy.class_of_source hsound with ⟨p, -, hc⟩ | ⟨g, hg, -⟩
      · cases hc.symm.trans hyc
      · exact MemPort.winner_eq_none hrestore hg hy hyc
    split at h
    next hjournal =>
      cases h
      obtain ⟨hp, hc, hfirst⟩ := MemPort.winner_eq_some hjournal
      refine ⟨hp, fun y hy => ⟨?_, fun hyc => hfirst y hy (hyc.trans hc)⟩⟩
      rw [hc]
      cases hycls : y.cls with
      | restore => exact absurd hycls (hnot y hy)
      | journal => exact le_refl _
      | requester => exact Nat.le_succ _
    next hjournal =>
      obtain ⟨p, -, hshown⟩ := Option.bind_eq_some_iff.1 h
      obtain ⟨hsource, hp⟩ := (m.presented_eq_some_iff _ x).1 hshown
      have hc : x.cls = .requester := (hsound x hp.mem_waiting).2 ⟨p, hsource⟩
      refine ⟨hp, fun y hy => ⟨?_, fun _ g k hg => ?_⟩⟩
      · rcases hy.class_of_source hsound with ⟨q, -, hyc⟩ | ⟨g, hg, hyc⟩
        · rw [hc, hyc]
        · cases hycls : y.cls with
          | restore => exact absurd hycls (hnot y hy)
          | journal => exact absurd hycls (MemPort.winner_eq_none hjournal hg hy)
          | requester => exact absurd hycls hyc
      · cases hsource.symm.trans hg

/-- The chosen transaction leaves the WAITING ones. -/
theorem MemPort.granted_waiting {x : Txn} {older younger : List Txn} (h : m.waiting = older ++ x :: younger)
    (holder : ∀ y ∈ older, y.source ≠ x.source) (i : PlaceId) : (m.granted i x).waiting = older ++ younger := by
  rw [MemPort.granted, h, List.eraseP_append_right _ (fun y hy => by simp [holder y hy]), List.eraseP_cons_of_pos (by simp)]

end

theorem exec_grant_of_choice {s : State} {i : PlaceId} {x : Txn} (hpin : s.resetPin = false)
    (hfree : s.mem.places[i] = none) (h : s.mem.choice = some x) : exec (.grant i) s
      = .next ({ s with mem := s.mem.granted i x }.emit (.memory i x.kind x.addr x.size x.data)) := by
  have hchoice : s.grantChoice i = some x := by
    rw [State.grantChoice, if_neg (by simp [hpin, hfree, -Fin.getElem_fin]), h]
  rw [exec, execGrant, hchoice]

theorem exec_grant_of_none {s : State} {i : PlaceId} (h : s.mem.places[i] ≠ none ∨ s.mem.choice = none) :
    exec (.grant i) s = .next s := by
  have hchoice : s.grantChoice i = none := by
    rw [State.grantChoice]
    split
    next => rfl
    next hgrants =>
      rcases h with h | h
      · exact absurd (.inr (Option.isSome_iff_ne_none.2 h)) hgrants
      · exact h
  rw [exec, execGrant, hchoice]

/-- Settles O34: a grant goes to the arbiter's choice, which is presented and second to nothing presented. -/
theorem arbiterPicksByClassAndAge : Obligations.ArbiterPicksByClassAndAge := by
  intro s i hpin hclasses
  have hsound : ∀ y ∈ s.mem.waiting, y.classFits := ((classesSound_iff s).1 hclasses).1
  refine ⟨fun hnothing => exec_grant_of_none (hnothing.imp_right fun hnone => ?_), fun hfree ⟨z, hz⟩ => ?_⟩
  · cases hchoice : s.mem.choice with
    | none => rfl
    | some x => exact absurd (MemPort.choice_eq_some hsound hchoice).1 (hnone x)
  · cases hchoice : s.mem.choice with
    | none => exact absurd hz (MemPort.choice_eq_none hsound hchoice z)
    | some x =>
      obtain ⟨hp, hfirst⟩ := MemPort.choice_eq_some hsound hchoice
      obtain ⟨⟨older, younger, hwaiting, holder⟩, -⟩ := id hp
      refine ⟨_, x, older, younger, exec_grant_of_choice hpin hfree hchoice, hp, hwaiting, holder, ?_, hfirst⟩
      rw [← MemPort.granted_waiting hwaiting holder i]
      rfl

/-! ### The answer to an orphan (R157) -/

section
variable {s : State} {i : PlaceId} {x : Txn}

theorem State.takeAnswer_of_wanted {wanted : Txn → Bool} (hpin : s.resetPin = false) (hplace : s.mem.places[i] = some x)
    (hwanted : wanted x = true) (body : Txn → State → State) :
    s.takeAnswer i wanted body = .next (body x (s.placeFreed i)) := by
  rw [State.takeAnswer, hplace]
  exact if_pos ⟨hwanted, hpin⟩

theorem State.takeAnswer_of_unwanted {wanted : Txn → Bool} (hplace : s.mem.places[i] = some x)
    (hwanted : wanted x = false) (body : Txn → State → State) : s.takeAnswer i wanted body = .next s := by
  rw [State.takeAnswer, hplace]
  exact if_neg fun h => by rw [hwanted] at h; cases h.1

theorem exec_orphanedAnswer_of_orphan (hpin : s.resetPin = false) (hplace : s.mem.places[i] = some x)
    (horphan : x.orphan ≠ .live) (a : MemAnswer) :
    exec (.orphanedAnswer i a) s = .next ((s.placeFreed i).countAnswered x.countedGroup) := by
  rw [exec, execOrphanedAnswer, State.takeAnswer_of_wanted hpin hplace (by simp [horphan])]

theorem Txn.isRequester_of_orphan (h : x.orphan ≠ .live) : x.isRequester = false := by
  unfold Txn.isRequester
  split
  next hlive => exact absurd hlive h
  next => rfl

theorem Txn.ownGroup_of_orphan (h : x.orphan ≠ .live) : x.ownGroup = none := by
  unfold Txn.ownGroup
  split
  next hlive => exact absurd hlive h
  next => rfl

/-- An own-transaction row named for an orphan is not there. -/
theorem State.takeOwn_of_orphan (hplace : s.mem.places[i] = some x) (horphan : x.orphan ≠ .live) (a : MemAnswer)
    (role : Role → Bool) (onOk : GroupId → Role → List Byte → State → State) (onError : GroupId → Role → State → State) :
    s.takeOwn i a role onOk onError = .next s := by
  refine State.takeAnswer_of_unwanted hplace ?_ _
  rw [Txn.ownGroup_of_orphan horphan]
  rfl

end

/-- Every answer row but the two of the ports and the orphans takes the answer to a group's own transaction. -/
theorem exec_ownRow {c : Instr} {i : PlaceId} {a : MemAnswer} (hc : c ∈ answersOf i a) (hport : c ≠ .requesterAnswer i a)
    (horphan : c ≠ .orphanedAnswer i a) (s : State) :
    ∃ role onOk onError, exec c s = s.takeOwn i a role onOk onError := by
  simp only [answersOf, List.mem_cons, List.not_mem_nil, or_false] at hc
  rcases hc with rfl | rfl | rfl | rfl | rfl | rfl | rfl | rfl | rfl | rfl | rfl | rfl | rfl | rfl | rfl | rfl | rfl
  case inl => exact absurd rfl hport
  case inr.inr.inr.inr.inr.inr.inr.inr.inr.inr.inr.inr.inr.inr.inr.inr => exact absurd rfl horphan
  all_goals
    simp only [exec, execOldBlockRead, execRecordWrite, execClearPhaseWrite, execRecordRead, execRestoreWrite,
      execPopComplete, execCommitHeaderWrite, execRollbackHeaderWrite, execFormatClearingWrite, execFormatHeaderWrite,
      execHeaderRead, execScanRead, execReplayRead, execRecoveryRestoreWrite, execRecoveryHeaderWrite]
    exact ⟨_, _, _, rfl⟩

/-- Settles O37: an orphan's answer frees its place and counts for a drain alone; any other row leaves it there. -/
theorem orphanedAnswerReachesNobody : Obligations.OrphanedAnswerReachesNobody := by
  refine ⟨fun s i a x hpin hplace horphan => ?_, fun s i a x c hplace horphan hc hother => ?_,
    fun s i a x g hpin hplace horphan hgroup hstate => ?_⟩
  · have hcounted : x.orphan ≠ .live ∧ x.countedGroup = none := by
      unfold Txn.countedGroup
      rcases horphan with h | h | ⟨h, hdata⟩
      · simp [h]
      · simp [h]
      · simp [h, hdata]
    rw [exec_orphanedAnswer_of_orphan hpin hplace hcounted.1, hcounted.2]
    rfl
  · by_cases hport : c = .requesterAnswer i a
    · rw [hport, exec, execRequesterAnswer]
      exact State.takeAnswer_of_unwanted hplace (Txn.isRequester_of_orphan horphan) _
    · obtain ⟨role, onOk, onError, hrow⟩ := exec_ownRow hc hport hother s
      rw [hrow]
      exact State.takeOwn_of_orphan hplace horphan a role onOk onError
  · have hcounted : x.countedGroup = some g := by simp [Txn.countedGroup, horphan, hgroup]
    rw [exec_orphanedAnswer_of_orphan hpin hplace (by simp [horphan]), hcounted]
    exact congrArg Host.Outcome.next (State.drainCheck_of_other (s := s.placeFreed i) hstate)

end Sys2Proof.Machine
end

section
/-! The queues of the ports (R121 to R127, R129): what settling does to a queue, and the refusal, the issue and the hold of a head. -/

namespace Sys2Proof.Machine

/-! ### A queue around its head (R124 to R126) -/

theorem Request.response_eq_none_of_undecided {r : Request} (h : r.stage.undecided = true) : r.response = none := by
  unfold Request.response
  cases hs : r.stage with
  | issued a => rw [hs] at h; cases h
  | answered => rw [hs] at h; cases h
  | _ => rfl

/-- Nothing is given out while the oldest request is not ready (R126). -/
theorem dropReady_of_stuck {q : List Request} (h : ∀ x, q.head? = some x → x.response = none) (p : PortId) :
    dropReady q = q ∧ readyResponses p q = [] := by
  cases q with
  | nil => exact ⟨rfl, rfl⟩
  | cons r q =>
    have hr := h r rfl
    simp [dropReady, readyResponses, hr]

theorem nextPresented_stuck (rest : List Request) : ∀ x, (nextPresented rest).head? = some x → x.response = none := by
  cases rest with
  | nil => exact fun x hx => nomatch hx
  | cons y more =>
    rintro x hx
    cases hx
    rfl

/-- Behind decided requests the next one, which waits, enters classifying (R125). -/
theorem mapHead_presented {decided rest : List Request} (h : ∀ x ∈ decided, x.stage.undecided = false)
    (hrest : ∀ x ∈ rest, x.stage = .waiting) :
    mapHead Request.presented (decided ++ rest) = decided ++ nextPresented rest := by
  rw [mapHead_append h]
  cases rest with
  | nil => rfl
  | cons x more =>
    have hx := hrest x List.mem_cons_self
    simp [mapHead_cons, Request.presented, nextPresented, Request.atStage, Stage.undecided, hx]

theorem newHead_of_waiting {decided rest : List Request} (h : ∀ x ∈ decided, x.stage.undecided = false)
    (hrest : ∀ x ∈ rest, x.stage = .waiting) : newHead (decided ++ rest) = true := by
  rw [newHead, headOf_append h]
  cases rest with
  | nil => rfl
  | cons x more =>
    have hx := hrest x List.mem_cons_self
    simp [headOf_cons, Stage.undecided, hx]

/-- A port behind whose decided requests the others wait presents the next one, and gives out what is ready. -/
theorem Port.settled_of_decided {x : Port} {decided rest : List Request} (hq : x.queue = decided ++ rest)
    (h : ∀ y ∈ decided, y.stage.undecided = false) (hrest : ∀ y ∈ rest, y.stage = .waiting) :
    x.settled = { x with queue := dropReady (decided ++ nextPresented rest), headDomain := none, headGroup := none } := by
  rw [Port.settled, hq, mapHead_presented h hrest, newHead_of_waiting h hrest]
  rfl

/-- The older requests are decided. -/
theorem State.queueAround.decided {s : State} {p : PortId} {older rest : List Request} {r : Request}
    (h : s.queueAround p older r rest) : ∀ x ∈ older, x.stage.undecided = false := by
  obtain ⟨-, holder, -, -⟩ := h
  intro x hx
  rcases holder x hx with hs | ⟨a, hs⟩ <;> rw [hs] <;> rfl

/-- A queue around its head, with the head at a decided stage. -/
theorem State.queueAround.mapHead {s : State} {p : PortId} {older rest : List Request} {r : Request}
    (h : s.queueAround p older r rest) (hr : s.head p = some r) (g : Stage) :
    mapHead (fun r => r.atStage g) (s.port p).queue = (older ++ [r.atStage g]) ++ rest := by
  rw [h.1, mapHead_append h.decided, mapHead_cons, if_pos (undecided_of_head hr), List.append_assoc]
  rfl

theorem decided_append {older : List Request} {r : Request} {g : Stage} (h : ∀ x ∈ older, x.stage.undecided = false)
    (hg : g.undecided = false) : ∀ x ∈ older ++ [r.atStage g], x.stage.undecided = false := by
  intro x hx
  rcases List.mem_append.1 hx with hx | hx
  · exact h x hx
  · rw [List.mem_singleton.1 hx]
    exact hg

/-- An older request that waits for the memory holds back every answer behind it. -/
theorem State.queueAround.stuck {s : State} {p : PortId} {older rest : List Request} {r : Request}
    (h : s.queueAround p older r rest) (hne : older ≠ []) (q : List Request) :
    ∀ x, (older ++ q).head? = some x → x.response = none := by
  obtain ⟨-, -, holdest, -⟩ := h
  intro x hx
  cases older with
  | nil => exact absurd rfl hne
  | cons y older =>
    have := holdest x hx
    rw [Request.response, this]

/-! ### The refusal of a head (R129) -/

/-- The port once its head, the request `r`, has been refused, before the port settles. -/
def Port.refused (x : Port) (record : RefusalRecord) : Port :=
  { x with
    queue := mapHead (fun r => r.atStage .answered) x.queue
    refusal := some record
    refusalCount := countUp countLimit x.refusalCount }

/-- The record of the refusal of the head of port `p` (R129). -/
def State.recordOf (s : State) (p : PortId) (r : Request) (why : RefusalReason) : RefusalRecord :=
  r.refusalRecord why (s.port p).headDomain (s.port p).headGroup
    ((s.port p).headGroup.map fun g => (s.group g).currentEpoch)

theorem State.refuseHead_of_head {s : State} {p : PortId} {r : Request} (h : s.head p = some r) (why : RefusalReason) :
    s.refuseHead p why
      = ((s.modPort p fun x => x.refused (s.recordOf p r why)).latch (.refusal p)).settle p := by
  rw [State.refuseHead, h]
  rfl

theorem Port.settled_rest (x : Port) : x.settled.refusal = x.refusal ∧ x.settled.refusalCount = x.refusalCount
    ∧ x.settled.channel = x.channel ∧ x.settled.lastWrite = x.lastWrite ∧ x.settled.resetPin = x.resetPin :=
  ⟨rfl, rfl, rfl, rfl, rfl⟩

theorem State.settle_port (s : State) (p q : PortId) :
    (s.settle p).port q = if q = p then (s.port p).settled else s.port q := State.modPort_port s p _ q

section
variable {s : State} {p : PortId} {r : Request}

/-- The port of a refused head. -/
theorem State.refuseHead_port (h : s.head p = some r) (why : RefusalReason) (q : PortId) : (s.refuseHead p why).port q
    = if q = p then ((s.port p).refused (s.recordOf p r why)).settled else s.port q := by
  rw [State.refuseHead_of_head h, State.settle_port]
  split
  next => rw [State.latch_port, State.modPort_port_self]
  next hq => rw [State.latch_port, State.modPort_port, if_neg hq]

/-- A refusal touches its port, the alert cause of the port, and what is given out. -/
theorem State.refuseHead_rest (h : s.head p = some r) (why : RefusalReason) : s.refuseHead p why = { s with
    ports := (s.refuseHead p why).ports
    alerts := { s.alerts with latched := s.alerts.latched ||| (Cause.refusal p).flag }
    emitted := (s.refuseHead p why).emitted } := by
  rw [State.refuseHead_of_head h]
  rfl

theorem State.refuseHead_refusal (h : s.head p = some r) (why : RefusalReason) :
    ((s.refuseHead p why).port p).refusal = some (s.recordOf p r why)
      ∧ ((s.refuseHead p why).port p).refusalCount = min 65535 ((s.port p).refusalCount + 1)
      ∧ (s.refuseHead p why).isLatched (.refusal p) = true := by
  rw [State.refuseHead_port h, if_pos rfl]
  refine ⟨rfl, rfl, ?_⟩
  rw [State.refuseHead_of_head h]
  exact State.isLatched_latch ..

theorem State.refuseHead_other {q : PortId} (why : RefusalReason) (hq : q ≠ p) :
    (s.refuseHead p why).port q = s.port q := by
  cases h : s.head p with
  | none => rw [State.refuseHead, h]
  | some r => rw [State.refuseHead_port h, if_neg hq]

theorem Request.response_answered (r : Request) : (r.atStage .answered).response = some (.error, r.errorData) := rfl

theorem Request.responseBy_error (r : Request) (p : PortId) : r.responseBy p .error = .response p .error r.errorData := by
  unfold Request.responseBy Request.errorData
  cases r.kind <;> rfl

/-- A refused head is answered in its turn. -/
theorem State.headAnswered_refuseHead (h : s.head p = some r) (why : RefusalReason) :
    s.headAnswered (s.refuseHead p why) p r := by
  intro older rest haround
  have hqueue := haround.mapHead h .answered
  have hdecided := decided_append (r := r) haround.decided (g := .answered) rfl
  have hrest : ∀ x ∈ rest, x.stage = .waiting := haround.2.2.2
  have hport : ((s.refuseHead p why).port p).queue = dropReady ((older ++ [r.atStage .answered]) ++ nextPresented rest) := by
    rw [State.refuseHead_port h, if_pos rfl]
    exact congrArg Port.queue (Port.settled_of_decided (x := (s.port p).refused _) hqueue hdecided hrest)
  have hemitted : (s.refuseHead p why).emitted
      = s.emitted ++ readyResponses p ((older ++ [r.atStage .answered]) ++ nextPresented rest) := by
    rw [State.refuseHead_of_head h, State.settle, State.latch_port, State.modPort_port_self, Port.refused,
      hqueue, mapHead_presented hdecided hrest]
    rfl
  rw [hport, hemitted, List.append_assoc]
  by_cases hempty : older = []
  · obtain ⟨hdrop, hgive⟩ := dropReady_of_stuck (nextPresented_stuck rest) p
    rw [if_pos hempty, if_pos hempty, hempty]
    simp [dropReady, readyResponses, Request.response_answered, hdrop, hgive, Request.responseBy_error]
  · obtain ⟨hdrop, hgive⟩ := dropReady_of_stuck (haround.stuck hempty ([r.atStage .answered] ++ nextPresented rest)) p
    rw [if_neg hempty, if_neg hempty, hdrop, hgive]
    exact ⟨rfl, rfl⟩

end

/-! ### The issue of a head (R29, R117) -/

section
variable {s : State} {p : PortId} {r : Request}

theorem State.issueHead_of_head (h : s.head p = some r) (g : Option GroupId) :
    s.issueHead p g = ((s.handOn (r.txn p g)).stageHead p (.issued none)).settle p := by
  rw [State.issueHead, h]

theorem State.issueHead_port (h : s.head p = some r) (g : Option GroupId) (q : PortId) : (s.issueHead p g).port q
    = if q = p then ({ s.port p with queue := mapHead (fun r => r.atStage (.issued none)) (s.port p).queue } : Port).settled
      else s.port q := by
  rw [State.issueHead_of_head h, State.settle_port]
  split
  next => rw [State.stageHead, State.modPort_port_self, State.handOn_port]
  next hq => rw [State.stageHead, State.modPort_port, if_neg hq, State.handOn_port]

theorem State.issueHead_other {q : PortId} (g : Option GroupId) (hq : q ≠ p) : (s.issueHead p g).port q = s.port q := by
  cases h : s.head p with
  | none => rw [State.issueHead, h]
  | some r => rw [State.issueHead_port h, if_neg hq]

/-- An issue touches its port, the memory port, and what is given out. -/
theorem State.issueHead_rest (h : s.head p = some r) (g : Option GroupId) : s.issueHead p g = { s with
    ports := (s.issueHead p g).ports, mem := (s.handOn (r.txn p g)).mem, emitted := (s.issueHead p g).emitted } := by
  rw [State.issueHead_of_head h]
  rfl

/-- An issued head takes its stage, and the next request becomes the head. -/
theorem State.headIssued_issueHead (h : s.head p = some r) (g : Option GroupId) :
    s.headIssued (s.issueHead p g) p r
      ∧ ∀ older rest, s.queueAround p older r rest → (s.issueHead p g).emitted = s.emitted := by
  have hboth : ∀ older rest, s.queueAround p older r rest →
      (s.issueHead p g).port p = { s.port p with
          queue := older ++ { r with stage := .issued none } :: nextPresented rest, headDomain := none, headGroup := none }
        ∧ (s.issueHead p g).emitted = s.emitted := by
    intro older rest haround
    have hqueue := haround.mapHead h (.issued none)
    have hdecided := decided_append (r := r) haround.decided (g := .issued none) rfl
    have hrest : ∀ x ∈ rest, x.stage = .waiting := haround.2.2.2
    have hstuck : ∀ x, ((older ++ [r.atStage (.issued none)]) ++ nextPresented rest).head? = some x → x.response = none := by
      rw [List.append_assoc]
      by_cases hempty : older = []
      · rw [hempty]
        rintro x hx
        cases hx
        rfl
      · exact haround.stuck hempty _
    obtain ⟨hdrop, hgive⟩ := dropReady_of_stuck hstuck p
    constructor
    · rw [State.issueHead_port h, if_pos rfl, Port.settled_of_decided hqueue hdecided hrest, hdrop, List.append_assoc]
      rfl
    · rw [State.issueHead_of_head h, State.settle, State.stageHead, State.modPort_port_self, State.handOn_port, hqueue,
        mapHead_presented hdecided hrest, hgive, List.append_nil]
      rfl
  exact ⟨fun older rest haround => (hboth older rest haround).1, fun older rest haround => (hboth older rest haround).2⟩

end

/-! ### The outcome of a classification (R116 to R120, R124) -/

section
variable (s : State) (p : PortId) (d : Option EntryId) (g : Option GroupId)

theorem State.setHeadClass_port (q : PortId) : (s.setHeadClass p d g).port q
    = if q = p then { s.port p with headDomain := d, headGroup := g } else s.port q := State.modPort_port s p _ q

@[simp] theorem State.setHeadClass_queue (q : PortId) : ((s.setHeadClass p d g).port q).queue = (s.port q).queue := by
  rw [State.setHeadClass_port]
  split
  next h => rw [h]
  next => rfl

@[simp] theorem State.setHeadClass_head (q : PortId) : (s.setHeadClass p d g).head q = s.head q := by
  rw [State.head, State.setHeadClass_queue, State.head]

@[simp] theorem State.setHeadClass_groups : (s.setHeadClass p d g).groups = s.groups := rfl
@[simp] theorem State.setHeadClass_group (k : GroupId) : (s.setHeadClass p d g).group k = s.group k := rfl
@[simp] theorem State.setHeadClass_table : (s.setHeadClass p d g).table = s.table := rfl
@[simp] theorem State.setHeadClass_mem : (s.setHeadClass p d g).mem = s.mem := rfl
@[simp] theorem State.setHeadClass_clock : (s.setHeadClass p d g).clock = s.clock := rfl

theorem State.setHeadClass_other {q : PortId} (hq : q ≠ p) : (s.setHeadClass p d g).port q = s.port q := by
  rw [State.setHeadClass_port, if_neg hq]

theorem State.queueAround_setHeadClass {older rest : List Request} {r : Request} :
    (s.setHeadClass p d g).queueAround p older r rest ↔ s.queueAround p older r rest := by
  rw [State.queueAround, State.queueAround, State.setHeadClass_queue]

end

/-- The refusal of a head with a classification outcome, as the statements speak of it. -/
theorem State.refusedIn_refuseHead {s : State} {p : PortId} {r : Request} (h : s.head p = some r) (why : RefusalReason)
    (d : Option EntryId) (g : Option GroupId) :
    s.refusedIn ((s.tick.setHeadClass p d g).refuseHead p why) p r why d g := by
  have hr : (s.tick.setHeadClass p d g).head p = some r := ((s.tick.setHeadClass_head p d g p).trans h)
  obtain ⟨hrecord, hcount, hlatched⟩ := State.refuseHead_refusal hr why
  have hrest := State.refuseHead_rest hr why
  refine ⟨?_, ?_, hlatched, fun q hq => ?_, ?_, ?_, ?_, ?_, ?_, ?_, ?_, fun older rest haround => ?_⟩
  · rw [hrecord, State.recordOf, State.setHeadClass_port, if_pos rfl]
    rfl
  · rw [hcount, State.setHeadClass_port, if_pos rfl]
    rfl
  · rw [State.refuseHead_other why hq, State.setHeadClass_other _ _ _ _ hq]
    rfl
  · rw [hrest]; rfl
  · rw [hrest]; rfl
  · rw [hrest]; rfl
  · rw [hrest]; rfl
  · rw [hrest]; rfl
  · rw [hrest]; rfl
  · rw [hrest]; rfl
  · exact State.headAnswered_refuseHead hr why older rest ((State.queueAround_setHeadClass ..).2 haround)

/-- The issue of a head with a classification outcome, as the statements speak of it. -/
theorem State.issuedIn_issueHead {s : State} {p : PortId} {r : Request} (h : s.head p = some r) (d : Option EntryId)
    (k : Option GroupId) (g : Option GroupId) :
    s.issuedIn ((s.tick.setHeadClass p d k).issueHead p g) p r g := by
  have hr : (s.tick.setHeadClass p d k).head p = some r := ((s.tick.setHeadClass_head p d k p).trans h)
  obtain ⟨hissued, hemitted⟩ := State.headIssued_issueHead hr g
  have hrest := State.issueHead_rest hr g
  have hport := State.issueHead_port hr g p
  rw [if_pos rfl, State.setHeadClass_port, if_pos rfl] at hport
  refine ⟨?_, fun older rest haround => ?_, fun older rest haround => ?_, ?_, ?_, fun q hq => ?_, ?_, ?_, ?_, ?_, ?_, ?_⟩
  · rw [hrest]; rfl
  · rw [hissued older rest ((State.queueAround_setHeadClass ..).2 haround), State.setHeadClass_port, if_pos rfl]
    rfl
  · exact hemitted older rest ((State.queueAround_setHeadClass ..).2 haround)
  · rw [hport]; rfl
  · rw [hport]; rfl
  · rw [State.issueHead_other g hq, State.setHeadClass_other _ _ _ _ hq]
    rfl
  · rw [hrest]; rfl
  · rw [hrest]; rfl
  · rw [hrest]; rfl
  · rw [hrest]; rfl
  · rw [hrest]; rfl
  · rw [hrest]; rfl

end Sys2Proof.Machine
end

section
/-! Classification (R115 to R120, R122) and admission (R10): which verdict each request meets, and what the verdict does. -/

namespace Sys2Proof.Machine

/-! ### The event CLASSIFICATION (R115) -/

section
variable {s : State} {p : PortId} {r : Request}

theorem exec_classification (h : s.classifying p r) : exec (.classification p) s = .next (s.tick.classify p) := by
  obtain ⟨hr, hstage⟩ := h
  have hs : s.headStage p = some .classifying := by rw [State.headStage_of_head hr, hstage]
  rw [exec, execClassification, if_pos hs]

theorem State.classify_of_refuse {why : RefusalReason} {d : Option EntryId} {g : Option GroupId} (hr : s.head p = some r)
    (h : s.verdict p r = .refuse why d g) : s.classify p = (s.setHeadClass p d g).refuseHead p why := by
  simp only [State.classify, hr, h]

theorem State.classify_of_pass {d : Option EntryId} (hr : s.head p = some r) (h : s.verdict p r = .pass d) :
    s.classify p = (s.setHeadClass p d none).issueHead p none := by
  simp only [State.classify, hr, h]

theorem State.classify_of_handOver {d : EntryId} {g : GroupId} (hr : s.head p = some r)
    (h : s.verdict p r = .handOver d g) :
    s.classify p = (s.setHeadClass p (some d) (some g)).admission g p r.kind := by
  simp only [State.classify, hr, h]

/-- A refusal by classification, as the statements speak of it. -/
theorem State.refusedIn_classify {why : RefusalReason} {d : Option EntryId} {g : Option GroupId} (hr : s.head p = some r)
    (h : s.verdict p r = .refuse why d g) : s.refusedIn (s.tick.classify p) p r why d g := by
  rw [State.classify_of_refuse (s := s.tick) hr h]
  exact State.refusedIn_refuseHead hr why d g

theorem State.issuedIn_classify {d : Option EntryId} (hr : s.head p = some r) (h : s.verdict p r = .pass d) :
    s.issuedIn (s.tick.classify p) p r none := by
  rw [State.classify_of_pass (s := s.tick) hr h]
  exact State.issuedIn_issueHead hr d none none

/-! ### The verdict, step by step (R122, R116 to R119) -/

theorem Request.wellFormed_iff : r.wellFormed = true ↔ r.size ∈ [1, 2, 4, 8, 16, 32, 64] ∧ r.addr.toNat % r.size = 0 := by
  simp [Request.wellFormed]

theorem blockOf_toNat (a : Addr) : (blockOf a).toNat = a.toNat / 64 := by
  rw [blockOf, BitVec.toNat_ofNat]
  have := a.isLt
  omega

theorem State.inJournalArea_of_area {a : Addr} {g : GroupId} (hslots : (s.group g).config.slots ≠ 0)
    (hlow : (s.group g).config.base.toNat ≤ 64 * (a.toNat / 64))
    (hhigh : 64 * (a.toNat / 64) < (s.group g).config.base.toNat + 128 * (s.group g).config.slots) :
    s.inJournalArea (blockOf a) = true := by
  rw [State.inJournalArea, List.any_eq_true]
  refine ⟨g, mem_fourIds g, ?_⟩
  rw [GroupConfig.areaHolds, blockOf_toNat, Nat.mul_comm (a.toNat / 64)]
  simp [hslots, hlow, hhigh]

theorem State.verdict_malformed (h : r.wellFormed = false) : s.verdict p r = .refuse .malformed none none := by
  simp [State.verdict, h]

theorem State.verdict_journalArea (h : r.wellFormed = true) (harea : s.inJournalArea (blockOf r.addr) = true) :
    s.verdict p r = .refuse .journalArea none none := by
  simp [State.verdict, h, harea]

theorem State.verdict_outside (h : r.wellFormed = true) (harea : s.inJournalArea (blockOf r.addr) = false)
    (hdomain : s.domainOf (blockOf r.addr) = none) : s.verdict p r = .pass none := by
  simp [State.verdict, h, harea, hdomain]

theorem State.verdict_inDomain {i : EntryId} (h : r.wellFormed = true) (harea : s.inJournalArea (blockOf r.addr) = false)
    (hdomain : s.domainOf (blockOf r.addr) = some i) : s.verdict p r = s.domainVerdict p r.kind i := by
  simp [State.verdict, h, harea, hdomain]

variable {k : AccessKind} {i : EntryId}

/-- A grant that stops the access (R118, step 3). -/
theorem Grant.permits_eq_false {x : Grant} (h : x = .noAccess ∨ (k = .write ∧ x = .read)) : x.permits k = false := by
  rcases h with rfl | ⟨rfl, rfl⟩
  · rfl
  · rfl

theorem State.domainVerdict_noGrant (h : (s.map.active[i].grants.get p).permits k = false) :
    s.domainVerdict p k i = .refuse .noGrant (some i)
      (if s.map.active[i].kind = .journaled then s.map.active[i].group else none) := by
  unfold State.domainVerdict DomainEntry.journalGroup
  rw [h]
  cases s.map.active[i].kind <;> rfl

theorem State.domainVerdict_passing (h : (s.map.active[i].grants.get p).permits k = true)
    (hkind : s.map.active[i].kind = .passing) : s.domainVerdict p k i = .pass (some i) := by
  unfold State.domainVerdict
  rw [if_pos h, hkind]

theorem State.domainVerdict_guarded_read (h : (s.map.active[i].grants.get p).permits .read = true)
    (hkind : s.map.active[i].kind = .guarded) : s.domainVerdict p .read i = .pass (some i) := by
  unfold State.domainVerdict
  rw [if_pos h, hkind]

theorem State.domainVerdict_guarded_write (h : (s.map.active[i].grants.get p).permits .write = true)
    (hkind : s.map.active[i].kind = .guarded) : s.domainVerdict p .write i = .refuse .readOnly (some i) none := by
  unfold State.domainVerdict
  rw [if_pos h, hkind]

theorem State.domainVerdict_notParticipant {g : GroupId} (h : (s.map.active[i].grants.get p).permits .write = true)
    (hkind : s.map.active[i].kind = .journaled) (hgroup : s.map.active[i].group = some g)
    (hpart : (s.group g).config.participants.get p = false) :
    s.domainVerdict p .write i = .refuse .notParticipant (some i) (some g) := by
  unfold State.domainVerdict
  rw [if_pos h, hkind, State.journaledVerdict, hgroup]
  simp [hpart]

theorem State.domainVerdict_handOver {g : GroupId} (h : (s.map.active[i].grants.get p).permits k = true)
    (hkind : s.map.active[i].kind = .journaled) (hgroup : s.map.active[i].group = some g)
    (hpart : k = .write → (s.group g).config.participants.get p = true) :
    s.domainVerdict p k i = .handOver i g := by
  unfold State.domainVerdict
  rw [if_pos h, hkind, State.journaledVerdict, hgroup]
  refine if_neg ?_
  rintro ⟨hwrite, hnot⟩
  rw [hpart hwrite] at hnot
  cases hnot

theorem State.verdict_of_reaches {g : GroupId} (h : s.reaches p r i g) : s.verdict p r = .handOver i g := by
  obtain ⟨hformed, harea, hdomain, hgrant, hkind, hgroup, hpart⟩ := h
  rw [State.verdict_inDomain hformed harea hdomain, State.domainVerdict_handOver hgrant hkind hgroup hpart]

end

/-- Settles O17: each clause is one step of the verdict. -/
theorem classificationRefusesInOrder : Obligations.ClassificationRefusesInOrder := by
  intro s p r h
  obtain ⟨hr, -⟩ := id h
  refine ⟨_, exec_classification h, fun hmalformed => ?_, fun hsize halign => ⟨?_, fun i harea hdomain => ⟨fun hgrant => ?_,
    fun hwrite hgrant => ⟨fun hkind => ?_, fun g hkind hgroup hpart => ?_⟩⟩⟩⟩
  · exact State.refusedIn_classify hr
      (State.verdict_malformed (Bool.eq_false_iff.2 fun hw => hmalformed (Request.wellFormed_iff.1 hw)))
  · rintro ⟨g, hslots, hlow, hhigh⟩
    exact State.refusedIn_classify hr (State.verdict_journalArea (Request.wellFormed_iff.2 ⟨hsize, halign⟩)
      (State.inJournalArea_of_area hslots hlow hhigh))
  all_goals
    refine State.refusedIn_classify hr
      ((State.verdict_inDomain (Request.wellFormed_iff.2 ⟨hsize, halign⟩) harea hdomain).trans ?_)
  · exact State.domainVerdict_noGrant (Grant.permits_eq_false (hgrant.imp_right id))
  · rw [hwrite]
    exact State.domainVerdict_guarded_write (by rw [hgrant]; rfl) hkind
  · rw [hwrite]
    exact State.domainVerdict_notParticipant (by rw [hgrant]; rfl) hkind hgroup hpart

/-- Settles O18: a refused request is answered at its turn, whatever the reason. -/
theorem refusedRequestIsAnsweredInTurn : Obligations.RefusedRequestIsAnsweredInTurn := by
  rintro s p r older rest h haround ⟨why, d, g, hverdict⟩
  have hrefused := State.refusedIn_classify h.1 hverdict
  obtain ⟨-, -, -, -, -, -, -, -, -, -, -, hanswered⟩ := hrefused
  obtain ⟨hqueue, hemitted⟩ := hanswered older rest haround
  refine ⟨_, exec_classification h, fun hempty => ?_, fun hne => ?_⟩
  · rw [if_pos hempty] at hqueue hemitted
    refine ⟨?_, hqueue⟩
    rw [hemitted]
    unfold Request.responseBy
    cases r.kind <;> rfl
  · rw [if_neg hne] at hqueue hemitted
    exact ⟨hemitted.trans (List.append_nil _), hqueue⟩

/-! ### Admission (R8 to R12) -/

section
variable {s : State} {g : GroupId} {p : PortId} {k : AccessKind}

/-- A read that its group's state lets through is issued (R10). -/
theorem State.admission_read (h : (s.group g).state ∈ [GroupState.closed, .opened, .voting, .committing]) :
    s.admission g p .read = s.issueHead p none := by
  unfold State.admission
  simp only [List.mem_cons, List.not_mem_nil, or_false] at h
  rcases h with h | h | h | h <;> rw [h]

theorem State.admission_unverified (h : (s.group g).state ∈ [GroupState.unverified, .formatting, .recovering]) :
    s.admission g p k = s.refuseHead p .groupUnverified := by
  unfold State.admission
  simp only [List.mem_cons, List.not_mem_nil, or_false] at h
  rcases h with h | h | h <;> rw [h]

theorem State.admission_faulted (h : (s.group g).state = .faulted) : s.admission g p k = s.refuseHead p .groupFaulted := by
  unfold State.admission
  rw [h]

theorem State.admission_closed_write (h : (s.group g).state = .closed) : s.admission g p .write = s.autoOpen g p := by
  unfold State.admission
  rw [h]

theorem State.admission_opened_write (h : (s.group g).state = .opened) : s.admission g p .write = s.judge g p := by
  unfold State.admission
  rw [h]

theorem State.admission_voted (h : (s.group g).state = .voting) (hvoted : (s.group g).voteSet.get p = true) :
    s.admission g p .write = s.refuseHead p .voted := by
  unfold State.admission
  rw [h]
  exact if_pos hvoted

theorem State.admission_voting_write (h : (s.group g).state = .voting) (hvoted : (s.group g).voteSet.get p = false) :
    s.admission g p .write = s.judge g p := by
  unfold State.admission
  rw [h]
  exact if_neg (Bool.eq_false_iff.1 hvoted)

theorem State.admission_unwinding (h : (s.group g).state = .unwinding) : s.admission g p k = s.holdHead p .unwinding := by
  unfold State.admission
  rw [h]

theorem State.admission_rollingBack (h : (s.group g).state = .rollingBack) :
    s.admission g p k = s.holdHead p .rollingBack := by
  unfold State.admission
  rw [h]

theorem State.admission_committing_write (h : (s.group g).state = .committing) :
    s.admission g p .write = s.holdHead p .committing := by
  unfold State.admission
  rw [h]

theorem State.autoOpen_of_off (h : (s.group g).config.autoOpen = false) : s.autoOpen g p = s.refuseHead p .noEpoch := by
  simp [State.autoOpen, h]

theorem State.autoOpen_of_refusal {o : OpenRefusal} (h : (s.group g).config.autoOpen = true)
    (ho : s.openRefusal g = some o) : s.autoOpen g p = s.refuseHead p o.reason := by
  simp only [State.autoOpen, h, ho, if_true]

theorem State.autoOpen_of_room (h : (s.group g).config.autoOpen = true) (ho : s.openRefusal g = none) :
    s.autoOpen g p = (s.openEpoch g).judge g p := by
  simp only [State.autoOpen, h, ho, if_true]

end

/-- The hold of a head with a classification outcome, as the statements speak of it. -/
theorem State.heldIn_holdHead {s : State} {p : PortId} {r : Request} (h : s.head p = some r) (d : Option EntryId)
    (g : Option GroupId) (why : HoldReason) : s.heldIn ((s.tick.setHeadClass p d g).holdHead p why) p why := by
  refine ⟨?_, fun q hq => ?_, rfl, rfl, rfl, rfl, rfl, rfl⟩
  · have hr : (s.tick.setHeadClass p d g).headStage p = some r.stage :=
      State.headStage_of_head ((s.tick.setHeadClass_head p d g p).trans h)
    rw [State.holdHead, State.stageHead_eq, State.stageHeads_headStage_of_some (if_pos rfl) rfl, hr]
    rfl
  · rw [State.holdHead, State.stageHead, State.modPort_port, if_neg hq, State.setHeadClass_other _ _ _ _ hq]
    rfl

/-- Settles O20: the admission of each state, with the outcome that classification found. -/
theorem admissionFollowsTheGroupState : Obligations.AdmissionFollowsTheGroupState := by
  intro s p r i g h hreaches
  obtain ⟨hr, -⟩ := id h
  obtain ⟨u, hu⟩ : ∃ u, u = s.tick.setHeadClass p (some i) (some g) := ⟨_, rfl⟩
  have hgroup : s.group g = u.group g := by rw [hu]; rfl
  have hmap : s.map = u.map := by rw [hu]; rfl
  have hclassify : s.tick.classify p = u.admission g p r.kind := by
    rw [hu]
    exact State.classify_of_handOver (s := s.tick) hr (State.verdict_of_reaches (s := s.tick) hreaches)
  have hrefused : ∀ why, u.admission g p r.kind = u.refuseHead p why →
      s.refusedIn (s.tick.classify p) p r why (some i) (some g) := fun why hadmission => by
    rw [hclassify, hadmission, hu]
    exact State.refusedIn_refuseHead hr why _ _
  have hheld : ∀ why, u.admission g p r.kind = u.holdHead p why → s.heldIn (s.tick.classify p) p why :=
    fun why hadmission => by
      rw [hclassify, hadmission, hu]
      exact State.heldIn_holdHead hr _ _ why
  rw [hgroup, hmap]
  refine ⟨_, exec_classification h, fun hstate => hrefused _ (State.admission_unverified hstate),
    fun hstate => hrefused _ (State.admission_faulted hstate),
    fun hstate hwrite => ⟨fun hoff => ?noEpoch, fun hon hpending => ?mapPending, fun hon hpending hlast => ?epochLimit⟩,
    fun hstate hwrite hvoted => hrefused _ (by rw [hwrite]; exact State.admission_voted hstate hvoted),
    fun hstate => hheld _ (State.admission_unwinding hstate), fun hstate => hheld _ (State.admission_rollingBack hstate),
    fun hstate hwrite => hheld _ (by rw [hwrite]; exact State.admission_committing_write hstate)⟩
  case noEpoch =>
    refine hrefused _ ?_
    rw [hwrite, State.admission_closed_write hstate, State.autoOpen_of_off hoff]
  case mapPending =>
    refine hrefused _ ?_
    rw [hwrite, State.admission_closed_write hstate, State.autoOpen_of_refusal hon (State.openRefusal_of_pending hpending)]
    rfl
  case epochLimit =>
    refine hrefused _ ?_
    rw [hwrite, State.admission_closed_write hstate,
      State.autoOpen_of_refusal hon (State.openRefusal_of_limit hpending hlast)]
    rfl

/-- Settles O19: what nothing stops passes, by the verdict or by the admission of its group. -/
theorem passThroughIsIssuedUnchanged : Obligations.PassThroughIsIssuedUnchanged := by
  intro s p r h hformed harea hdomain
  obtain ⟨hr, -⟩ := id h
  refine ⟨_, exec_classification h, ?_⟩
  rcases hdomain with hnone | ⟨i, hi, hgrant, hkind | ⟨hread, hkind | ⟨g, hkind, hgroup, hstate⟩⟩⟩
  · exact State.issuedIn_classify hr (State.verdict_outside hformed harea hnone)
  · exact State.issuedIn_classify hr
      ((State.verdict_inDomain hformed harea hi).trans (State.domainVerdict_passing hgrant hkind))
  · rw [hread] at hgrant
    refine State.issuedIn_classify (d := some i) hr ((State.verdict_inDomain hformed harea hi).trans ?_)
    rw [hread]
    exact State.domainVerdict_guarded_read hgrant hkind
  · have hpart : r.kind = .write → (s.group g).config.participants.get p = true := fun hw => by
      rw [hread] at hw
      cases hw
    have hclassify := State.classify_of_handOver (s := s.tick) hr
      (State.verdict_of_reaches (s := s.tick) ⟨hformed, harea, hi, hgrant, hkind, hgroup, hpart⟩)
    have hissue : (s.tick.setHeadClass p (some i) (some g)).admission g p .read
        = (s.tick.setHeadClass p (some i) (some g)).issueHead p none := State.admission_read hstate
    rw [hclassify, hread, hissue]
    exact State.issuedIn_issueHead hr _ _ none

end Sys2Proof.Machine
end

section
/-! Requests and their answers at a port (R121, R126, R127, R134, R156, R157), and the drain that the last answer ends. -/

namespace Sys2Proof.Machine

/-! ### A queue whose head has been presented (R125) -/

/-- Presenting changes nothing where the head has been presented already. -/
theorem mapHead_presented_eq_self {q : List Request} (h : ∀ r, headOf q = some r → r.stage ≠ .waiting) :
    mapHead Request.presented q = q := by
  induction q with
  | nil => rfl
  | cons r q ih =>
    rw [mapHead_cons]
    rw [headOf_cons] at h
    cases hr : r.stage.undecided with
    | true =>
      have hwait : r.stage ≠ .waiting := h r (by rw [hr]; rfl)
      have hself : r.presented = r := by
        unfold Request.presented
        split
        next hs => exact absurd hs hwait
        next => rfl
      rw [hself]
      rfl
    | false =>
      rw [hr] at h
      exact congrArg (r :: ·) (ih h)

theorem headOf_append_of_some {q : List Request} {r : Request} (h : headOf q = some r) (more : List Request) :
    headOf (q ++ more) = some r := by
  rw [headOf, List.find?_append, ← headOf, h]
  rfl

theorem decided_of_headOf_none {q : List Request} (h : headOf q = none) : ∀ x ∈ q, x.stage.undecided = false := fun x hx =>
  Bool.eq_false_iff.2 (List.find?_eq_none.1 h x hx)

theorem newHead_of_presented {q : List Request} {r : Request} (h : headOf q = some r) (hr : r.stage ≠ .waiting) :
    newHead q = false := by
  rw [newHead, h]
  exact beq_eq_false_iff_ne.2 hr

/-! ### A request joins a queue (R121, R124, R125) -/

/-- A port without a head presents the request that joins it. -/
theorem Port.settled_joined_of_none {x : Port} {new : Request} (h : headOf x.queue = none) (hnew : new.stage = .waiting)
    (hstuck : ∀ y, x.queue.head? = some y → y.response = none) :
    mapHead Request.presented (x.queue ++ [new]) = x.queue ++ [new.atStage .classifying]
      ∧ ({ x with queue := x.queue ++ [new] } : Port).settled
        = { x with queue := x.queue ++ [new.atStage .classifying], headDomain := none, headGroup := none } := by
  have hdecided := decided_of_headOf_none h
  have hrest : ∀ y ∈ [new], y.stage = .waiting := fun y hy => List.mem_singleton.1 hy ▸ hnew
  refine ⟨mapHead_presented hdecided hrest, ?_⟩
  rw [Port.settled_of_decided rfl hdecided hrest]
  have hstuck : ∀ y, (x.queue ++ nextPresented [new]).head? = some y → y.response = none := by
    cases hq : x.queue with
    | nil => exact nextPresented_stuck [new]
    | cons z q =>
      rintro y hy
      exact hstuck y (by rw [hq]; exact hy)
  rw [(dropReady_of_stuck hstuck 0).1]
  rfl

/-- Behind a head in presentation the request that joins waits. -/
theorem Port.settled_joined_of_some {x : Port} {new r : Request} (h : headOf x.queue = some r) (hr : r.stage ≠ .waiting)
    (hstuck : ∀ y, x.queue.head? = some y → y.response = none) :
    mapHead Request.presented (x.queue ++ [new]) = x.queue ++ [new]
      ∧ ({ x with queue := x.queue ++ [new] } : Port).settled = { x with queue := x.queue ++ [new] } := by
  have hhead := headOf_append_of_some h [new]
  have hself : mapHead Request.presented (x.queue ++ [new]) = x.queue ++ [new] :=
    mapHead_presented_eq_self fun y hy => by
      rw [hhead] at hy
      cases hy
      exact hr
  refine ⟨hself, ?_⟩
  have hstuck : ∀ y, (x.queue ++ [new]).head? = some y → y.response = none := by
    cases hq : x.queue with
    | nil => rw [hq] at h; cases h
    | cons z q =>
      rintro y hy
      exact hstuck y (by rw [hq]; exact hy)
  rw [Port.settled, hself, newHead_of_presented hhead hr, (dropReady_of_stuck hstuck 0).1]
  rfl

/-- An accepted request joins the tail of its queue, and nothing else of its port settles but the head. -/
theorem Port.settled_joined {x : Port} {new : Request} (hnew : new.stage = .waiting)
    (hqueue : ∀ y ∈ x.queue, y.stage ≠ .waiting ∨ (headOf x.queue).any (fun h => h.stage != .waiting) = true)
    (hstuck : ∀ y, x.queue.head? = some y → y.response = none) (p : PortId) :
    ({ x with queue := x.queue ++ [new] } : Port).settled = { x with
        queue := x.queue ++ [new.atStage (if headOf x.queue = none then .classifying else .waiting)]
        headDomain := if headOf x.queue = none then none else x.headDomain
        headGroup := if headOf x.queue = none then none else x.headGroup }
      ∧ readyResponses p (mapHead Request.presented (x.queue ++ [new])) = [] := by
  have hready : ∀ g : Stage, g.undecided = true →
      ∀ y, (x.queue ++ [new.atStage g]).head? = some y → y.response = none := by
    intro g hg y hy
    cases hq : x.queue with
    | nil =>
      rw [hq] at hy
      cases hy
      exact Request.response_eq_none_of_undecided hg
    | cons z q =>
      rw [hq] at hy
      exact hstuck y (by rw [hq]; exact hy)
  cases hhead : headOf x.queue with
  | none =>
    obtain ⟨hmap, hsettled⟩ := Port.settled_joined_of_none hhead hnew hstuck
    rw [hmap, hsettled, (dropReady_of_stuck (hready .classifying rfl) p).2]
    exact ⟨rfl, rfl⟩
  | some r =>
    have hr : r.stage ≠ .waiting := by
      rcases hqueue r (List.mem_of_find?_eq_some hhead) with h | h
      · exact h
      · rw [hhead] at h
        exact bne_iff_ne.1 h
    have hself : new.atStage .waiting = new := by rw [Request.atStage, ← hnew]
    obtain ⟨hmap, hsettled⟩ := Port.settled_joined_of_some (new := new) hhead hr hstuck
    rw [hmap, hsettled, if_neg nofun, if_neg nofun, if_neg nofun, hself]
    refine ⟨rfl, ?_⟩
    rw [← hself]
    exact (dropReady_of_stuck (hready .waiting rfl) p).2

theorem acceptedRequest_eq (r : BusRequest) (tag : Nat) : acceptedRequest r tag
    = { kind := r.kind, addr := r.addr, size := r.size, data := if r.kind = .write then fitBytes r.size r.data else [],
        tag := tag, stage := .waiting } := by
  unfold acceptedRequest
  cases r.kind <;> rfl

/-- Settles O16, by whether the port has a head. -/
theorem acceptedRequestJoinsItsQueue : Obligations.AcceptedRequestJoinsItsQueue := by
  refine ⟨fun s p r hpin hresetting hport hroom hqueue hstuck => ?_, fun s p r hno => ?_, fun s p => rfl⟩
  · have haccepts : s.accepts p = true := by simp [State.accepts, hpin, hresetting, hport, queuePlaces, hroom]
    have hnew : (acceptedRequest r (s.port p).nextTag).stage = .waiting := rfl
    have hp := State.settle_port (s.modPort p fun x =>
      { x with queue := x.queue ++ [acceptedRequest r x.nextTag], nextTag := x.nextTag + 1 }) p
    obtain ⟨hsettled, hemitted⟩ := Port.settled_joined (x := { s.port p with nextTag := (s.port p).nextTag + 1 }) hnew
      hqueue hstuck p
    rw [State.modPort_port_self] at hp
    have hself := (hp p).trans ((if_pos rfl).trans hsettled)
    have hhead : headOf (s.port p).queue = s.head p := rfl
    simp only [hhead] at hself
    refine ⟨_, if_pos haccepts, ?_, ?_, ?_, fun q hq => ?_⟩
    · rw [hself, acceptedRequest_eq]
      rfl
    · rw [hself]
    · have hnothing : s.emitted ++ readyResponses p (mapHead Request.presented
          ((s.port p).queue ++ [acceptedRequest r (s.port p).nextTag])) = s.emitted := by
        rw [hemitted, List.append_nil]
      have hgiven : ∀ u : State, u.settle p = { u.modPort p Port.settled with emitted := (u.settle p).emitted } := fun _ => rfl
      rw [hgiven]
      have hemit : ((s.modPort p fun x => { x with
          queue := x.queue ++ [acceptedRequest r x.nextTag], nextTag := x.nextTag + 1 }).settle p).emitted = s.emitted := by
        rw [State.settle, State.modPort_port_self]
        exact hnothing
      rw [hemit]
      rfl
    · rw [hp q, if_neg hq, State.modPort_port, if_neg hq]
  · refine if_neg fun haccepts => ?_
    simp only [State.accepts, Bool.and_eq_true, Bool.not_eq_true'] at haccepts
    obtain ⟨⟨⟨hpin, hresetting⟩, hport⟩, hroom⟩ := haccepts
    have hroom : (s.port p).queue.length < 8 := of_decide_eq_true hroom
    rcases hno with h | h | h | h
    · exact Bool.false_ne_true (hpin.symm.trans h)
    · exact Bool.false_ne_true (hresetting.symm.trans h)
    · exact Bool.false_ne_true (hport.symm.trans h)
    · omega

/-! ### Responses in their turn (R126) -/

theorem Request.readyFor_eq (r : Request) (p : PortId) :
    r.readyFor p = r.response.map fun a => Emission.response p a.1 a.2 := by
  unfold Request.readyFor Request.response
  cases r.stage with
  | issued a =>
    cases a with
    | none => rfl
    | some a =>
      unfold Request.responseBy Request.errorData
      cases a <;> cases r.kind <;> rfl
  | answered =>
    change some (r.responseBy p .error) = _
    rw [Request.responseBy_error]
    rfl
  | _ => rfl

theorem Request.response_eq_none_iff (r : Request) (p : PortId) : r.response = none ↔ r.readyFor p = none := by
  rw [Request.readyFor_eq, Option.map_eq_none_iff]

/-- A run of ready requests is given out whole. -/
theorem dropReady_append {ready : List Request} {p : PortId} (h : ∀ y ∈ ready, y.readyFor p ≠ none) (rest : List Request) :
    dropReady (ready ++ rest) = dropReady rest
      ∧ readyResponses p (ready ++ rest) = ready.filterMap (fun y => y.readyFor p) ++ readyResponses p rest := by
  induction ready with
  | nil => exact ⟨rfl, rfl⟩
  | cons y ready ih =>
    obtain ⟨hdrop, hgive⟩ := ih fun z hz => h z (List.mem_cons_of_mem y hz)
    obtain ⟨a, ha⟩ : ∃ a, y.response = some a := by
      refine Option.ne_none_iff_exists'.1 fun hnone => h y List.mem_cons_self ((y.response_eq_none_iff p).1 hnone)
    have hready : y.readyFor p = some (.response p a.1 a.2) := by
      rw [Request.readyFor_eq, ha]
      rfl
    rw [List.filterMap_cons_some (f := fun y : Request => y.readyFor p) hready, List.cons_append, List.cons_append, ← hgive, ← hdrop]
    constructor
    · rw [dropReady, ha]
      rfl
    · rw [readyResponses, ha]

/-- Requests of other tags keep their places. -/
theorem keepAnswer_of_ne {q : List Request} {tag : Nat} (h : ∀ y ∈ q, y.tag ≠ tag) (a : MemAnswer) :
    keepAnswer tag a q = q :=
  (List.map_congr_left fun y hy => if_neg fun hboth => h y hy hboth.1).trans (List.map_id' q)

/-- The answer is kept with the one request of its tag. -/
theorem keepAnswer_around {older younger : List Request} {r : Request} (h : ∀ y ∈ older ++ younger, y.tag ≠ r.tag)
    (hr : r.stage = .issued none) (a : MemAnswer) : keepAnswer r.tag a (older ++ r :: younger)
      = older ++ { r with stage := .issued (some a) } :: younger := by
  have holder := keepAnswer_of_ne (fun y hy => h y (List.mem_append_left younger hy)) a
  have hyounger := keepAnswer_of_ne (fun y hy => h y (List.mem_append_right older hy)) a
  rw [keepAnswer] at holder hyounger ⊢
  rw [List.map_append, List.map_cons, holder, hyounger, if_pos ⟨rfl, hr⟩]
  rfl

/-! ### The answer to a request (R126, R131, R156) -/

section
variable {s : State} {i : PlaceId} {x : Txn} {p : PortId}

/-- The answer, of the transaction `x` of port `p`, as the port takes it, before the group of a data write looks at its drain. -/
def State.answerTaken (s : State) (p : PortId) (x : Txn) (tag : Nat) (a : MemAnswer) : State :=
  (s.modPort p fun y => { y with queue := keepAnswer tag a y.queue, lastWrite := x.lastWriteAfter a y.lastWrite }).settle p

theorem exec_requesterAnswer_of_live {tag : Nat} (hpin : s.resetPin = false) (hplace : s.mem.places[i] = some x)
    (hsource : x.source = .port p) (hrole : x.role = .request tag) (horphan : x.orphan = .live) (a : MemAnswer) :
    exec (.requesterAnswer i a) s = .next (((s.placeFreed i).answerTaken p x tag a).countAnswered x.dataGroup) := by
  have hwanted : x.isRequester = true := by
    unfold Txn.isRequester
    rw [hsource, hrole, horphan]
  rw [exec, execRequesterAnswer, State.takeAnswer_of_wanted hpin hplace hwanted]
  unfold State.requesterAnswered
  rw [hsource, hrole]
  rfl

theorem State.answerTaken_port (s : State) (p : PortId) (x : Txn) (tag : Nat) (a : MemAnswer) (q : PortId) :
    (s.answerTaken p x tag a).port q = if q = p then ({ s.port p with
        queue := keepAnswer tag a (s.port p).queue, lastWrite := x.lastWriteAfter a (s.port p).lastWrite } : Port).settled
      else s.port q := by
  rw [State.answerTaken, State.settle_port]
  split
  next => rw [State.modPort_port_self]
  next hq => rw [State.modPort_port, if_neg hq]

theorem Txn.lastWriteAfter_eq (x : Txn) (a : MemAnswer) (old : Option Addr) : x.lastWriteAfter a old
    = match a, x.kind with
      | .ok _, .write => some x.addr
      | _, _ => old := by
  unfold Txn.lastWriteAfter
  cases a <;> cases x.kind <;> rfl

/-- A drain check after an answer: the group of the transaction alone moves, and only where it drains. -/
theorem State.countAnswered_frame {d : Option GroupId}
    (h : ∀ g, d = some g → (s.group g).state ∈ drainStates → 3 ≤ (s.group g).config.slots) :
    s.countAnswered d = { s with groups := (s.countAnswered d).groups, mem := (s.countAnswered d).mem }
      ∧ (s.countAnswered d).mem.places = s.mem.places
      ∧ (∀ g, d = some g → ((s.countAnswered d).group g).state = (s.group g).state ∧ s.othersKept (s.countAnswered d) g)
      ∧ ((∀ g, d = some g → (s.group g).state ∉ drainStates) → s.countAnswered d = s) := by
  cases d with
  | none => exact ⟨rfl, rfl, nofun, fun _ => rfl⟩
  | some g =>
    obtain ⟨hframe, hothers, hplaces, hgroup⟩ := State.drainCheck_frame (s := s) (g := g) fun hs =>
      h g rfl (hs ▸ List.mem_cons_self)
    refine ⟨hframe, hplaces, fun k hk => ?_, fun hnot => State.drainCheck_of_other (hnot g rfl)⟩
    cases hk
    obtain ⟨hstate, -⟩ := Group.kept_of_atPhase hgroup
    exact ⟨hstate, hothers⟩

end

/-- The queue of a port once an issued request is answered: everything ready at its front is given out. -/
theorem State.answerTaken_queue {s : State} {p : PortId} {x : Txn} {a : MemAnswer} {r : Request}
    {older younger : List Request} (hqueue : (s.port p).queue = older ++ r :: younger) (hr : r.stage = .issued none)
    (htags : ∀ y ∈ older ++ younger, y.tag ≠ r.tag) (hstage : s.headStage p ≠ some .waiting) :
    ((s.answerTaken p x r.tag a).port p).queue = dropReady (older ++ { r with stage := .issued (some a) } :: younger)
      ∧ (s.answerTaken p x r.tag a).emitted
        = s.emitted ++ readyResponses p (older ++ { r with stage := .issued (some a) } :: younger) := by
  have hkeep : keepAnswer r.tag a (s.port p).queue = older ++ { r with stage := .issued (some a) } :: younger := by
    rw [hqueue, keepAnswer_around htags hr]
  have hheads : headOf (older ++ { r with stage := .issued (some a) } :: younger) = s.head p := by
    rw [State.head, hqueue, headOf, headOf, List.find?_append, List.find?_append, List.find?_cons, List.find?_cons, hr]
    rfl
  have hpresented : mapHead Request.presented (older ++ { r with stage := .issued (some a) } :: younger)
      = older ++ { r with stage := .issued (some a) } :: younger := mapHead_presented_eq_self fun y hy hwait =>
    hstage (by rw [State.headStage_of_head (hheads.symm.trans hy), hwait])
  constructor
  · rw [State.answerTaken_port, if_pos rfl, hkeep]
    exact congrArg dropReady hpresented
  · rw [State.answerTaken, State.settle, State.modPort_port_self, hkeep, hpresented]
    rfl

/-- Settles O36: the answer at its port, then the drain that it may end. -/
theorem answerReachesItsRequest : Obligations.AnswerReachesItsRequest := by
  intro s i a x p r older younger hpin hplace hsource horphan hrole hslots hqueue hr htags hstage holdest
  refine ⟨_, exec_requesterAnswer_of_live hpin hplace hsource hrole horphan a, ?_⟩
  have hportOf := (s.placeFreed i).answerTaken_port p x r.tag a
  obtain ⟨hnew, hgiven⟩ := State.answerTaken_queue (s := s.placeFreed i) (x := x) (a := a) hqueue hr htags hstage
  obtain ⟨u, hu⟩ : ∃ u, u = (s.placeFreed i).answerTaken p x r.tag a := ⟨_, rfl⟩
  have hrest : u = { s.placeFreed i with ports := u.ports, emitted := u.emitted } := by
    rw [hu]
    rfl
  rw [← hu] at hportOf hnew hgiven ⊢
  have hgroup : ∀ g, u.group g = s.group g := fun g => by
    rw [hrest]
    rfl
  obtain ⟨hframe, hplaces, hmoved, hstill⟩ := State.countAnswered_frame (s := u) (d := x.dataGroup) fun g hg hdrains =>
    (hgroup g).symm ▸ hslots g hg (hgroup g ▸ hdrains)
  have hport : ∀ q, (u.countAnswered x.dataGroup).port q = u.port q := fun q => by rw [hframe]; rfl
  have hemitted : (u.countAnswered x.dataGroup).emitted = u.emitted := by rw [hframe]
  refine ⟨?_, fun ready rest hempty hyounger hready hstuck => ?_, fun hne => ?_, ?_, ?_, ?_, fun q hq => ?_,
    fun g hg => ?_, fun hnot => ?_, ?_, ?_, ?_, ?_⟩
  · rw [hplaces, hrest]
    rfl
  · have hanswered : ∀ y ∈ { r with stage := .issued (some a) } :: ready, y.readyFor p ≠ none := by
      intro y hy
      rcases List.mem_cons.1 hy with rfl | hy
      · exact nofun
      · exact hready y hy
    obtain ⟨hdrop, hgive⟩ := dropReady_append hanswered rest
    obtain ⟨hkeep, hnone⟩ := dropReady_of_stuck (fun y hy => (y.response_eq_none_iff p).2 (hstuck y hy)) p
    rw [hport, hemitted, hnew, hgiven, hempty, hyounger, List.nil_append, ← List.cons_append, hdrop, hgive, hkeep, hnone,
      List.append_nil]
    exact ⟨rfl, rfl⟩
  · have hstuck : ∀ y, (older ++ { r with stage := .issued (some a) } :: younger).head? = some y → y.response = none := by
      intro y hy
      refine (y.response_eq_none_iff p).2 (holdest y ?_)
      rwa [List.head?_append_of_ne_nil _ hne] at hy
    obtain ⟨hkeep, hnone⟩ := dropReady_of_stuck hstuck p
    rw [hport, hemitted, hnew, hgiven, hkeep, hnone, List.append_nil]
    exact ⟨rfl, rfl⟩
  · rw [hport, hportOf, if_pos rfl]
    exact Txn.lastWriteAfter_eq x a _
  · rw [hport, hportOf, if_pos rfl]
    rfl
  · rw [hport, hportOf, if_pos rfl]
    rfl
  · rw [hport, hportOf, if_neg hq]
    rfl
  · obtain ⟨hstate, hothers⟩ := hmoved g hg
    exact ⟨hstate.trans (by rw [hgroup]), fun k hk => (hothers k hk).trans (hgroup k)⟩
  · rw [hstill fun g hg => hgroup g ▸ hnot g hg, hrest]
    exact ⟨rfl, rfl⟩
  · rw [hframe, hrest]
    rfl
  · rw [hframe, hrest]
    rfl
  · rw [hframe, hrest]
    rfl
  · rw [hframe, hrest]
    rfl

/-! ### The last unanswered write of a draining group (R54, R70, R77, R157) -/

/-- With the place of the last one free, nothing of the group is held by the memory port. -/
theorem nothingHeld_of_placeFreed {s : State} {i : PlaceId} {g : GroupId}
    (hwaiting : ∀ y ∈ s.mem.waiting, y.isDataWriteOf g = false ∧ y.isOwn g = false)
    (hplaces : ∀ (j : PlaceId) (y : Txn), j ≠ i → s.mem.places[j] = some y → y.isDataWriteOf g = false ∧ y.isOwn g = false) :
    (s.placeFreed i).writesUnanswered g = false ∧ (s.placeFreed i).ownTxn g = false := by
  have hall : ∀ y ∈ (s.placeFreed i).mem.held, y.isDataWriteOf g = false ∧ y.isOwn g = false := by
    intro y hy
    rcases List.mem_append.1 hy with hy | hy
    · exact hwaiting y hy
    · obtain ⟨o, ho, rfl⟩ := List.mem_filterMap.1 hy
      obtain ⟨j, hj, hget⟩ := Vector.mem_iff_getElem.1 (Vector.mem_toList_iff.1 ho)
      rw [State.placeFreed, Vector.getElem_set] at hget
      split at hget
      next => cases hget
      next hji => exact hplaces ⟨j, hj⟩ y (fun heq => hji (congrArg Fin.val heq).symm) hget
  exact ⟨List.any_eq_false.2 fun y hy => Bool.eq_false_iff.1 (hall y hy).1,
    List.any_eq_false.2 fun y hy => Bool.eq_false_iff.1 (hall y hy).2⟩

/-- What a drain check leaves alone, whatever the slots of the group. -/
theorem State.drainCheck_kept (s : State) (g : GroupId) : s.othersKept (s.drainCheck g) g
    ∧ (s.drainCheck g).table = s.table ∧ ((s.drainCheck g).group g).journalLength = (s.group g).journalLength := by
  have hbegin : s.othersKept (s.beginClear g) g ∧ (s.beginClear g).table = s.table
      ∧ ((s.beginClear g).group g).journalLength = (s.group g).journalLength := by
    rw [State.beginClear]
    split
    next =>
      refine ⟨State.othersKept_of_groups rfl, rfl, ?_⟩
      rw [State.handClearing_eq, State.handOn_group, State.modGroup_group_self, atPhase_journalLength]
    next =>
      obtain ⟨hothers, htable, hlength, -⟩ := s.nextPop_frame g
      exact ⟨hothers, htable, hlength⟩
  unfold State.drainCheck
  split
  case h_3 => split <;> exact ⟨fun _ _ => rfl, rfl, rfl⟩
  case h_4 => exact ⟨fun _ _ => rfl, rfl, rfl⟩
  all_goals
    split
    · exact hbegin
    · exact ⟨fun _ _ => rfl, rfl, rfl⟩

/-- Settles O38: the answer empties what the drain waits for. -/
theorem lastDataWriteEndsTheDrain : Obligations.LastDataWriteEndsTheDrain := by
  intro s i a x p tag g c hpin hplace hsource hrole hdata hrow hwaiting hplaces hstep
  obtain ⟨v, hv, hgroups, hmem, hclock, htable⟩ : ∃ v : State, exec c s = .next (v.drainCheck g) ∧ v.groups = s.groups
      ∧ v.mem = (s.placeFreed i).mem ∧ v.clock = (s.placeFreed i).clock ∧ v.table = s.table := by
    rcases hrow with ⟨horphan, rfl⟩ | ⟨horphan, rfl⟩
    · refine ⟨(s.placeFreed i).answerTaken p x tag a, ?_, rfl, rfl, rfl, rfl⟩
      rw [exec_requesterAnswer_of_live hpin hplace hsource hrole horphan, hdata]
      rfl
    · refine ⟨s.placeFreed i, ?_, rfl, rfl, rfl, rfl⟩
      have hcounted : x.countedGroup = some g := by
        unfold Txn.countedGroup
        rw [horphan]
        exact hdata
      rw [exec_orphanedAnswer_of_orphan hpin hplace (by rw [horphan]; nofun), hcounted]
      rfl
  have hgroup : ∀ k, v.group k = s.group k := fun k => congrArg (fun d => d.get k) hgroups
  obtain ⟨hwrites, hown⟩ := nothingHeld_of_placeFreed hwaiting hplaces
  rw [← State.writesUnanswered_of_mem hmem] at hwrites
  rw [← State.ownTxn_of_mem hmem] at hown
  obtain ⟨hothers, hkeptTable, hlength⟩ := v.drainCheck_kept g
  refine ⟨_, hv, hlength.trans (by rw [hgroup]), fun k hk => (hothers k hk).trans (hgroup k), hkeptTable.trans htable,
    fun hstate hqueue => ?_, fun hstate hphase hslots => ?_⟩
  · have hdrained : v.commitDrained g = true := by
      simp [State.commitDrained, hgroup, hqueue, hstep, hwrites, hown]
    rw [State.drainCheck_of_committing (hgroup g ▸ hstate), if_pos hdrained, State.handOn_group, hgroup]
    refine ⟨rfl, ?_⟩
    simp only [State.handOn_mem, hmem, hclock]
  · rw [← hgroup g] at hstate hphase hslots hstep
    have hdrained : v.drained g = true := by rw [State.drained_of_drain hphase hstep, hwrites]; rfl
    have hclears := State.clearsFrom_beginClear hphase hslots hmem.symm hclock.symm (u := s.placeFreed i)
      (congrArg Group.config (hgroup g).symm)
    rw [State.drainCheck_of_draining hstate, if_pos hdrained]
    rw [hgroup] at hclears
    obtain ⟨hs, -, -, -, -, -, -, -, hmarks, -, -, -, hputBack⟩ := Group.kept_of_atPhase (.inr ⟨_, _,
      show (v.beginClear g).group g = _ by rw [State.beginClear_eq hslots, State.handOn_group, State.modGroup_group_self]⟩)
    rw [hgroup] at hs hmarks hputBack
    exact ⟨hs, hmarks, hputBack, hclears⟩

end Sys2Proof.Machine
end

section
/-! The journal path (R28 to R34, R40 to R46): what the start of a step decides, what a reservation fixes, and the heads of a queue that start one after the other. -/

namespace Sys2Proof.Machine

/-! ### Putting an entry, whatever the order of the table -/

theorem putEntry_cons (e x : TrackEntry) (l : List TrackEntry) : putEntry e (x :: l)
    = if e.block < x.block then e :: x :: l else if e.block = x.block then e :: l else x :: putEntry e l := rfl

theorem findEntry_putEntry_self (e : TrackEntry) (l : List TrackEntry) : findEntry (putEntry e l) e.block = some e := by
  induction l with
  | nil => rw [putEntry, findEntry_cons, if_pos rfl]
  | cons x l ih =>
    rw [putEntry_cons]
    split
    next => rw [findEntry_cons, if_pos rfl]
    next =>
      split
      next => rw [findEntry_cons, if_pos rfl]
      next hne => rw [findEntry_cons, if_neg fun h => hne h.symm, ih]

theorem findEntry_putEntry_of_ne {e : TrackEntry} {b : Block} (h : b ≠ e.block) (l : List TrackEntry) :
    findEntry (putEntry e l) b = findEntry l b := by
  induction l with
  | nil => rw [putEntry, findEntry_cons, if_neg fun hb => h hb.symm]
  | cons x l ih =>
    rw [putEntry_cons]
    split
    next => rw [findEntry_cons, if_neg fun hb => h hb.symm]
    next =>
      split
      next heq =>
        rw [findEntry_cons, findEntry_cons, if_neg fun hb => h hb.symm, if_neg fun hb => h (hb.symm.trans heq.symm)]
      next => rw [findEntry_cons, findEntry_cons, ih]

/-- A new entry counts where its group is counted. -/
theorem countP_putEntry_of_new {e : TrackEntry} {l : List TrackEntry} (h : ∀ x ∈ l, x.block ≠ e.block)
    (f : TrackEntry → Bool) : (putEntry e l).countP f = l.countP f + if f e then 1 else 0 := by
  induction l with
  | nil => rw [putEntry, List.countP_cons]
  | cons x l ih =>
    rw [putEntry_cons]
    split
    · rw [List.countP_cons]
    · rw [if_neg fun heq => h x List.mem_cons_self heq.symm]
      rw [List.countP_cons, List.countP_cons, ih fun y hy => h y (List.mem_cons_of_mem x hy)]
      omega

/-! ### The start of a step (R32, R33) -/

/-- The two groups agree on what the start of a step looks at (R32 to R34). -/
structure Group.JournalsAlike (x y : Group) : Prop where
  config : x.config = y.config
  journalLength : x.journalLength = y.journalLength
  marks : x.marks = y.marks
  effectiveQuota : x.effectiveQuota = y.effectiveQuota
  closedEpoch : x.closedEpoch = y.closedEpoch

section
variable {s u : State} {g : GroupId} {b : Block}

theorem State.startDecision_of_agrees (htable : u.table = s.table) (hgroup : (u.group g).JournalsAlike (s.group g)) (b : Block) :
    u.startDecision g b = s.startDecision g b := by
  have hdurable : u.durableNow g b = s.durableNow g b := by
    unfold State.durableNow Group.level
    rw [htable, hgroup.marks]
  have hcheck : u.capacityCheck g b = s.capacityCheck g b := by
    unfold State.capacityCheck State.entriesOf Group.capacity
    rw [htable, hgroup.config, hgroup.journalLength, hgroup.effectiveQuota]
  unfold State.startDecision
  rw [hdurable, hcheck]

/-- With room in the journal only a new block can be stopped, by the table or the quota (R33). -/
theorem State.capacityCheck_of_room (hroom : (s.group g).journalLength < (s.group g).config.slots - 2)
    (h : findEntry s.table b = none → s.table.length < 1024 ∧ s.entriesOf g < (s.group g).effectiveQuota) :
    s.capacityCheck g b = none := by
  unfold State.capacityCheck Group.capacity
  rw [if_neg (Nat.not_le.2 hroom), if_neg]
  rintro ⟨hnone, hfull⟩
  obtain ⟨htable, hquota⟩ := h (Option.isNone_iff_eq_none.1 hnone)
  rcases hfull with hfull | hspent
  · exact Nat.not_le.2 htable hfull
  · exact Nat.not_le.2 hquota hspent

theorem State.durableNow_of_entry {e : TrackEntry} (h : findEntry s.table b = some e) :
    s.durableNow g b = e.durableAt (s.group g).level := by
  rw [State.durableNow, h]

theorem State.durableNow_of_new (h : findEntry s.table b = none) : s.durableNow g b = false := by
  rw [State.durableNow, h]

theorem TrackEntry.durableAt_eq_true {e : TrackEntry} {l : Nat} (hstaged : e.staged = none) (hdurable : e.durable = some l) :
    e.durableAt l = true := by
  simp [TrackEntry.durableAt, hstaged, hdurable]

theorem TrackEntry.durableAt_eq_false {e : TrackEntry} {l : Nat} (hdurable : e.durable ≠ some l) :
    e.durableAt l = false := by
  simp [TrackEntry.durableAt, hdurable]

/-- A block DURABLE at the group's level is written without a record (R29). -/
theorem State.startDecision_of_durable {e : TrackEntry} (h : findEntry s.table b = some e) (hstaged : e.staged = none)
    (hdurable : e.durable = some (s.group g).marks.length) : s.startDecision g b = .issue := by
  have hdurableNow := State.durableNow_of_entry (g := g) h
  rw [TrackEntry.durableAt_eq_true hstaged (l := (s.group g).level) hdurable] at hdurableNow
  rw [State.startDecision, hdurableNow]
  rfl

/-- A write that takes up its step reserves, at the prior level it finds. -/
theorem State.startDecision_of_takesStep {prior : Option Nat} (h : s.takesStep g b (s.group g).journalLength prior) :
    s.startDecision g b = .reserve ∧ s.priorLevel b = prior := by
  obtain ⟨hroom, ⟨hnew, hprior, htable, hquota⟩ | ⟨e, he, -, hdurable, hlevel⟩⟩ := h
  · refine ⟨?_, by rw [State.priorLevel, hnew, hprior]; rfl⟩
    rw [State.startDecision, State.durableNow_of_new hnew, State.capacityCheck_of_room hroom fun _ => ⟨htable, hquota⟩]
    rfl
  · refine ⟨?_, by rw [State.priorLevel, he]; exact hdurable⟩
    have hcheck := State.capacityCheck_of_room (b := b) hroom fun hnone => by rw [he] at hnone; cases hnone
    have hnot := State.durableNow_of_entry (g := g) he
    rw [TrackEntry.durableAt_eq_false (l := (s.group g).level) (hdurable ▸ hlevel)] at hnot
    rw [State.startDecision, hnot, hcheck]
    rfl

theorem State.takesStep_of_hasRoom (h : s.hasRoom g b) : s.takesStep g b (s.group g).journalLength none := by
  obtain ⟨hroom, hnew, htable, hquota⟩ := h
  exact ⟨hroom, .inl ⟨findEntry_eq_none.2 hnew, rfl, htable, hquota⟩⟩

/-- A write that meets an overflow finds it at the start of its step. -/
theorem State.startDecision_of_meetsOverflow {o : Overflow} (h : s.meetsOverflow g b o) :
    s.startDecision g b = .overflow o := by
  rcases h with ⟨rfl, hfull, hentry⟩ | ⟨rfl, hroom, hnew, hfull⟩
  · have hdurable : s.durableNow g b = false := by
      rcases hentry with hnew | ⟨e, he, -, hlevel⟩
      · exact State.durableNow_of_new (findEntry_eq_none.2 hnew)
      · rw [State.durableNow_of_entry he]
        exact TrackEntry.durableAt_eq_false hlevel
    have hcheck : s.capacityCheck g b = some .journalFull := if_pos hfull
    rw [State.startDecision, hdurable, hcheck]
    rfl
  · have hnone := findEntry_eq_none.2 hnew
    have hcheck : s.capacityCheck g b = some .trackFull := by
      unfold State.capacityCheck Group.capacity
      rw [if_neg (Nat.not_le.2 hroom), if_pos ⟨by rw [hnone]; rfl, hfull⟩]
    rw [State.startDecision, State.durableNow_of_new hnone, hcheck]
    rfl

end

/-! ### The reservation (R34) -/

section
variable (s : State) (g : GroupId) (p : PortId)

theorem State.reserve_groups : (s.reserve g p).groups = s.groups.set g { s.group g with
    step := some ((s.group g).stepOf (some p) (s.headBlock p) (s.priorLevel (s.headBlock p))), hold := none } := rfl

theorem State.reserve_ports : (s.reserve g p).ports = (s.stageHead p .inQueue).ports := rfl

theorem State.reserve_group : (s.reserve g p).group g = { s.group g with
    step := some ((s.group g).stepOf (some p) (s.headBlock p) (s.priorLevel (s.headBlock p))), hold := none } :=
  State.group_of_groups (s.reserve_groups g p)

theorem State.othersKept_reserve : s.othersKept (s.reserve g p) g := State.othersKept_of_groups (s.reserve_groups g p)

theorem State.reserve_table : (s.reserve g p).table
    = putEntry (stagedEntry g (s.headBlock p) (s.group g).marks.length (findEntry s.table (s.headBlock p))) s.table := rfl

theorem State.reserve_mem : (s.reserve g p).mem = (s.handOn (oldRead g (s.headBlock p))).mem := by
  rw [oldRead, Nat.mul_comm]
  rfl

/-- A reservation touches its group, the table, its port and the memory port. -/
theorem State.reserve_rest : s.reserve g p = { s with
    groups := (s.reserve g p).groups, table := (s.reserve g p).table, ports := (s.reserve g p).ports
    mem := (s.reserve g p).mem } := rfl

theorem State.stageHead_port (k : Stage) (q : PortId) : (s.stageHead p k).port q
    = if q = p then { s.port p with queue := mapHead (fun r => r.atStage k) (s.port p).queue } else s.port q :=
  State.modPort_port s p _ q

theorem State.reserve_port (q : PortId) : (s.reserve g p).port q = (s.stageHead p .inQueue).port q :=
  congrArg (fun d => d.get q) (s.reserve_ports g p)

theorem State.reserve_port_other {q : PortId} (hq : q ≠ p) : (s.reserve g p).port q = s.port q := by
  rw [State.reserve_port, State.stageHead_port, if_neg hq]

/-- States whose ports agree agree on the head. -/
theorem State.head_of_port {s t : State} {q : PortId} (h : t.port q = s.port q) : t.head q = s.head q := by
  rw [State.head, h, State.head]

theorem State.headBlock_of_port {s t : State} {q : PortId} (h : t.port q = s.port q) : t.headBlock q = s.headBlock q := by
  rw [State.headBlock, State.head_of_port h, State.headBlock]

theorem State.headStage_of_port {s t : State} {q : PortId} (h : t.port q = s.port q) : t.headStage q = s.headStage q := by
  rw [State.headStage, State.head_of_port h, State.headStage]

theorem State.stageHead_headStage {r : Request} (hr : s.head p = some r) {k : Stage} (hk : k.undecided = true) :
    (s.stageHead p k).headStage p = some k := by
  rw [State.stageHead_eq, State.stageHeads_headStage_of_some (if_pos rfl) hk, State.headStage_of_head hr]
  rfl

theorem State.reserve_headStage {r : Request} (hr : s.head p = some r) :
    (s.reserve g p).headStage p = some .inQueue := by
  rw [State.headStage_of_port (s.reserve_port g p p), s.stageHead_headStage p hr rfl]

theorem State.reserve_findEntry_self : findEntry (s.reserve g p).table (s.headBlock p)
    = some (stagedEntry g (s.headBlock p) (s.group g).marks.length (findEntry s.table (s.headBlock p))) := by
  have hblock := stagedEntry_block (l := s.table) g (s.headBlock p) (s.group g).marks.length
  rw [State.reserve_table]
  conv_lhs => rw [← hblock]
  rw [hblock]
  have h := findEntry_putEntry_self
    (stagedEntry g (s.headBlock p) (s.group g).marks.length (findEntry s.table (s.headBlock p))) s.table
  rwa [hblock] at h

theorem State.reserve_findEntry_other {b : Block} (hb : b ≠ s.headBlock p) :
    findEntry (s.reserve g p).table b = findEntry s.table b := by
  rw [State.reserve_table]
  refine findEntry_putEntry_of_ne ?_ s.table
  rw [stagedEntry_block]
  exact hb

theorem stagedEntry_eq (b : Block) (l : Nat) (old : Option TrackEntry) : stagedEntry g b l old = match old with
    | none => { block := b, group := g, durable := none, staged := some l, waiters := [] }
    | some e => { e with staged := some l } := by
  cases old <;> rfl

/-- A reservation for a new block takes one entry more (R25). -/
theorem State.reserve_entriesOf (hnew : findEntry s.table (s.headBlock p) = none) :
    (s.reserve g p).entriesOf g = s.entriesOf g + 1 := by
  have hblock : ∀ x ∈ s.table, x.block
      ≠ (stagedEntry g (s.headBlock p) (s.group g).marks.length (findEntry s.table (s.headBlock p))).block := by
    rw [stagedEntry_block]
    exact findEntry_eq_none.1 hnew
  rw [State.entriesOf, State.reserve_table, countP_putEntry_of_new hblock, hnew, State.entriesOf]
  simp [stagedEntry]

variable {s g p}

/-- A head that takes up its step, as the statements speak of it. -/
theorem State.stepTaken_reserve {b : Block} {prior : Option Nat} {r : Request} (hr : s.head p = some r)
    (hb : blockOf r.addr = b) (h : s.takesStep g b (s.group g).journalLength prior) :
    s.stepTaken (s.reserve g p) g p b (s.group g).journalLength prior := by
  obtain ⟨-, hprior⟩ := State.startDecision_of_takesStep h
  rw [← hb, ← State.headBlock_of_head hr] at hprior ⊢
  refine ⟨?_, s.reserve_headStage g p hr, ?_⟩
  · rw [State.reserve_group, hprior]
    rfl
  · rw [State.reserve_findEntry_self]
    exact congrArg some (stagedEntry_eq g _ _ _)

end

/-! ### Overflow (R40, R41, R45, R46) -/

section
variable (s : State) (g : GroupId) (p : PortId)

@[simp] theorem State.refuseHead_groups (why : RefusalReason) : (s.refuseHead p why).groups = s.groups := by
  cases h : s.head p with
  | none => rw [State.refuseHead, h]
  | some r => rw [State.refuseHead_of_head h]; rfl

@[simp] theorem State.refuseHead_group (why : RefusalReason) (k : GroupId) : (s.refuseHead p why).group k = s.group k := by
  rw [State.group, State.refuseHead_groups, State.group]

@[simp] theorem State.refuseHead_table (why : RefusalReason) : (s.refuseHead p why).table = s.table := by
  cases h : s.head p with
  | none => rw [State.refuseHead, h]
  | some r => rw [State.refuseHead_of_head h]; rfl

@[simp] theorem State.refuseHead_mem (why : RefusalReason) : (s.refuseHead p why).mem = s.mem := by
  cases h : s.head p with
  | none => rw [State.refuseHead, h]
  | some r => rw [State.refuseHead_of_head h]; rfl

@[simp] theorem State.refuseHead_clock (why : RefusalReason) : (s.refuseHead p why).clock = s.clock := by
  cases h : s.head p with
  | none => rw [State.refuseHead, h]
  | some r => rw [State.refuseHead_of_head h]; rfl

@[simp] theorem State.refuseHead_nextHold (why : RefusalReason) : (s.refuseHead p why).nextHold = s.nextHold := by
  cases h : s.head p with
  | none => rw [State.refuseHead, h]
  | some r => rw [State.refuseHead_of_head h]; rfl

@[simp] theorem State.issueHead_groups (d : Option GroupId) : (s.issueHead p d).groups = s.groups := by
  cases h : s.head p with
  | none => rw [State.issueHead, h]
  | some r => rw [State.issueHead_of_head h]; rfl

@[simp] theorem State.issueHead_group (d : Option GroupId) (k : GroupId) : (s.issueHead p d).group k = s.group k := by
  rw [State.group, State.issueHead_groups, State.group]

@[simp] theorem State.issueHead_table (d : Option GroupId) : (s.issueHead p d).table = s.table := by
  cases h : s.head p with
  | none => rw [State.issueHead, h]
  | some r => rw [State.issueHead_of_head h]; rfl

theorem Overflow.reason_eq (o : Overflow) : o.reason = if o = .journalFull then .journalFull else .trackFull := by
  cases o <;> rfl

/-- The statistics once an overflow refusal is counted (R20). -/
theorem Stats.addOverflow_eq (x : Stats) :
    x.addOverflow = { x with overflowRefusals := min 4294967295 (x.overflowRefusals + 1) } := rfl

theorem Stats.addExpiry_eq (x : Stats) :
    x.addExpiry = { x with holdExpiries := min 4294967295 (x.holdExpiries + 1) } := rfl

theorem State.refuseOverflow_group (o : Overflow) : (s.refuseOverflow g p o).group g
    = { s.group g with queue := (s.group g).queue.tail, hold := none, stats := (s.group g).stats.addOverflow } := by
  rw [State.refuseOverflow, State.refuseHead_group, State.modGroup_group_self]
  rfl

theorem State.othersKept_refuseOverflow (o : Overflow) : s.othersKept (s.refuseOverflow g p o) g := fun k hk => by
  rw [State.refuseOverflow, State.refuseHead_group, State.modGroup_group, if_neg hk]

@[simp] theorem State.refuseOverflow_table (o : Overflow) : (s.refuseOverflow g p o).table = s.table := by
  rw [State.refuseOverflow, State.refuseHead_table, State.modGroup_table]

@[simp] theorem State.refuseOverflow_mem (o : Overflow) : (s.refuseOverflow g p o).mem = s.mem := by
  rw [State.refuseOverflow, State.refuseHead_mem, State.modGroup_mem]

theorem State.refuseOverflow_other (o : Overflow) {q : PortId} (hq : q ≠ p) :
    (s.refuseOverflow g p o).port q = s.port q := by
  rw [State.refuseOverflow, State.refuseHead_other _ hq, State.modGroup_port]

theorem State.refuseOverflow_refusal (o : Overflow) {r : Request} (hr : s.head p = some r) :
    ((s.refuseOverflow g p o).port p).refusal.map (fun x => (x.addr, x.reason))
      = some (r.addr, if o = .journalFull then .journalFull else .trackFull) := by
  obtain ⟨hrefusal, -⟩ := State.refuseHead_refusal (s := s.modGroup g (fun x => x.headLeaves.modStats Stats.addOverflow)) hr
    o.reason
  rw [State.refuseOverflow, hrefusal, ← Overflow.reason_eq]
  rfl

theorem State.beginHold_groups (o : Overflow) : (s.beginHold g p o).groups = s.groups.set g { s.group g with
    hold := some { reason := o, timer := (s.group g).config.holdLimit, since := s.nextHold } } := rfl

theorem State.beginHold_headStage (o : Overflow) {r : Request} (hr : s.head p = some r) :
    (s.beginHold g p o).headStage p = some (.held (.overflow o)) := s.stageHead_headStage p hr rfl

theorem State.abortCause_of_abortable (h : (s.group g).state = .opened ∨ (s.group g).state = .voting) (c : CloseCause) :
    s.abortCause g c = s.enterRollingBack g c := if_pos (by rcases h with h | h <;> rw [h] <;> rfl)

end

/-! ### The heads of a queue in their order (R31) -/

section
variable {s : State} {g : GroupId}

theorem State.runQueue_cons (s : State) (g : GroupId) (p : PortId) (rest : List PortId) : s.runQueue g (p :: rest)
    = if (s.group g).canStart then
        match s.startDecision g (s.headBlock p) with
        | .issue => ((s.modGroup g Group.headLeaves).issueHead p (some g)).runQueue g rest
        | .reserve => s.reserve g p
        | .overflow o =>
          match (s.group g).overflowAct with
          | .refuse => (s.refuseOverflow g p o).runQueue g rest
          | .hold => s.beginHold g p o
          | .abort => (s.refuseOverflow g p o).abortCause g .overflow
      else s := rfl

theorem State.runQueue_nil (s : State) (g : GroupId) : s.runQueue g [] = s := rfl

theorem State.runQueue_of_stopped (h : (s.group g).canStart = false) (q : List PortId) : s.runQueue g q = s := by
  cases q with
  | nil => rfl
  | cons p rest =>
    rw [State.runQueue_cons, h]
    rfl

theorem Group.canStart_eq_true {x : Group} (hstate : x.state = .opened ∨ x.state = .voting ∨ x.state = .committing)
    (hstep : x.step = none) (hhold : x.hold = none) : x.canStart = true := by
  rw [Group.canStart, hstep, hhold]
  rcases hstate with h | h | h <;> rw [h] <;> rfl

theorem Group.canStart_of_step {x : Group} (h : x.step ≠ none) : x.canStart = false := by
  rw [Group.canStart, Option.isNone_eq_false_iff.2 (Option.isSome_iff_ne_none.2 h), Bool.and_false, Bool.false_and]

theorem Group.canStart_of_hold {x : Group} (h : x.hold ≠ none) : x.canStart = false := by
  rw [Group.canStart, Option.isNone_eq_false_iff.2 (Option.isSome_iff_ne_none.2 h), Bool.and_false]

variable {p : PortId} {rest : List PortId}

theorem State.runQueue_of_issue (h : (s.group g).canStart = true) (hd : s.startDecision g (s.headBlock p) = .issue) :
    s.runQueue g (p :: rest) = ((s.modGroup g Group.headLeaves).issueHead p (some g)).runQueue g rest := by
  rw [State.runQueue_cons, h, hd]
  rfl

theorem State.runQueue_of_reserve (h : (s.group g).canStart = true) (hd : s.startDecision g (s.headBlock p) = .reserve) :
    s.runQueue g (p :: rest) = s.reserve g p := by
  rw [State.runQueue_cons, h, hd]
  rfl

variable {o : Overflow}

theorem State.runQueue_of_refuse (h : (s.group g).canStart = true) (hd : s.startDecision g (s.headBlock p) = .overflow o)
    (hact : (s.group g).overflowAct = .refuse) :
    s.runQueue g (p :: rest) = (s.refuseOverflow g p o).runQueue g rest := by
  rw [State.runQueue_cons, h, hd]
  exact congrArg (fun act => match act with
    | .refuse => (s.refuseOverflow g p o).runQueue g rest
    | .hold => s.beginHold g p o
    | .abort => (s.refuseOverflow g p o).abortCause g .overflow) hact

theorem State.runQueue_of_hold (h : (s.group g).canStart = true) (hd : s.startDecision g (s.headBlock p) = .overflow o)
    (hact : (s.group g).overflowAct = .hold) : s.runQueue g (p :: rest) = s.beginHold g p o := by
  rw [State.runQueue_cons, h, hd]
  exact congrArg (fun act => match act with
    | .refuse => (s.refuseOverflow g p o).runQueue g rest
    | .hold => s.beginHold g p o
    | .abort => (s.refuseOverflow g p o).abortCause g .overflow) hact

theorem State.runQueue_of_abort (h : (s.group g).canStart = true) (hd : s.startDecision g (s.headBlock p) = .overflow o)
    (hact : (s.group g).overflowAct = .abort) :
    s.runQueue g (p :: rest) = (s.refuseOverflow g p o).abortCause g .overflow := by
  rw [State.runQueue_cons, h, hd]
  exact congrArg (fun act => match act with
    | .refuse => (s.refuseOverflow g p o).runQueue g rest
    | .hold => s.beginHold g p o
    | .abort => (s.refuseOverflow g p o).abortCause g .overflow) hact

theorem Group.overflowAct_of_committing {x : Group} (h : x.state = .committing) : x.overflowAct = .refuse := by
  unfold Group.overflowAct
  rw [h]

/-- Before COMMITTING the policy decides (R40, R41, R45). -/
theorem Group.overflowAct_of_policy {x : Group} (h : x.state = .opened ∨ x.state = .voting) :
    x.overflowAct = match x.config.policy with
      | .refuse => .refuse
      | .hold => .hold
      | .abort => .abort := by
  unfold Group.overflowAct
  rcases h with h | h <;> rw [h] <;> cases x.config.policy <;> rfl

end

/-! ### Joining a queue (R28, R30, R31) -/

section
variable (s : State) (g : GroupId) (p : PortId)

theorem State.enqueue_group : (s.enqueue g p).group g = { s.group g with queue := (s.group g).queue ++ [p] } :=
  State.modGroup_group_self (s.stageHead p .inQueue) g _

theorem State.othersKept_enqueue : s.othersKept (s.enqueue g p) g := fun k hk =>
  (State.modGroup_group (s.stageHead p .inQueue) g _ k).trans (if_neg hk)

@[simp] theorem State.enqueue_table : (s.enqueue g p).table = s.table := rfl
@[simp] theorem State.enqueue_mem : (s.enqueue g p).mem = s.mem := rfl
@[simp] theorem State.enqueue_clock : (s.enqueue g p).clock = s.clock := rfl

theorem State.enqueue_headStage {r : Request} (hr : s.head p = some r) : (s.enqueue g p).headStage p = some .inQueue :=
  s.stageHead_headStage p hr rfl

theorem State.enqueue_head {r : Request} (hr : s.head p = some r) :
    (s.enqueue g p).head p = some (r.atStage .inQueue) := by
  have h : (s.enqueue g p).head p = (s.stageHead p .inQueue).head p := rfl
  rw [h, State.stageHead_eq, State.stageHeads_head_of_some (if_pos rfl) rfl, hr]
  rfl

theorem State.enqueue_other {q : PortId} (hq : q ≠ p) : (s.enqueue g p).port q = s.port q :=
  (s.stageHead_port p .inQueue q).trans (if_neg hq)

variable {s g p}

theorem State.joinQueue_of_empty (h : (s.group g).queue = []) : s.joinQueue g p = (s.enqueue g p).runQueue g [p] := by
  have hempty : (s.group g).queue.isEmpty = true := by rw [h]; rfl
  rw [State.joinQueue, if_pos hempty, State.startHeads, State.enqueue_group, h]
  rfl

theorem State.joinQueue_of_nonempty (h : (s.group g).queue ≠ []) : s.joinQueue g p = s.enqueue g p :=
  if_neg (by simp [h])

/-- A write whose block has no entry, or one at a lower level, joins the queue (R28, R30). -/
theorem State.judgeTo_of_joins {b : Block} (hb : s.headBlock p = b) (h : findEntry s.table b = none
    ∨ ∃ e, findEntry s.table b = some e ∧ e.staged = none ∧ e.durable ≠ some (s.group g).level) (joined : State) :
    s.judgeTo g p joined = joined := by
  rw [State.judgeTo, hb]
  rcases h with h | ⟨e, he, hstaged, hdurable⟩
  · rw [h]
  · simp only [he, hstaged, Option.isSome_none, Bool.false_eq_true, if_false, TrackEntry.durableAt_eq_false hdurable]

theorem State.judgeTo_of_durable {b : Block} (hb : s.headBlock p = b) {e : TrackEntry} (he : findEntry s.table b = some e)
    (hstaged : e.staged = none) (hdurable : e.durable = some (s.group g).level) (joined : State) :
    s.judgeTo g p joined = s.issueHead p (some g) := by
  rw [State.judgeTo, hb]
  simp only [he, hstaged, Option.isSome_none, Bool.false_eq_true, if_false, TrackEntry.durableAt_eq_true hstaged hdurable,
    if_true]

theorem State.judgeTo_of_pending {b : Block} (hb : s.headBlock p = b) {e : TrackEntry} (he : findEntry s.table b = some e)
    (hstaged : e.staged.isSome = true) (joined : State) : s.judgeTo g p joined = s.joinWaiting p := by
  rw [State.judgeTo, hb]
  simp only [he, hstaged, if_true]

/-- A write admitted to a group that takes writes is judged (R10, R28). -/
theorem exec_classification_of_judged {r : Request} {i : EntryId} (h : s.classifying p r) (hreaches : s.reaches p r i g)
    (hwrite : r.kind = .write)
    (hstate : (s.group g).state = .opened ∨ ((s.group g).state = .voting ∧ (s.group g).voteSet.get p = false)) :
    exec (.classification p) s = .next ((s.tick.setHeadClass p (some i) (some g)).judge g p) := by
  rw [exec_classification h, State.classify_of_handOver (s := s.tick) h.1 (State.verdict_of_reaches (s := s.tick) hreaches),
    hwrite]
  rcases hstate with hopened | ⟨hvoting, hvoted⟩
  · exact congrArg Host.Outcome.next (State.admission_opened_write (s := s.tick.setHeadClass p (some i) (some g)) hopened)
  · exact congrArg Host.Outcome.next
      (State.admission_voting_write (s := s.tick.setHeadClass p (some i) (some g)) hvoting hvoted)

end

end Sys2Proof.Machine
end

section
/-! Writes on the journal path as classification and HOLD_EXPIRY bring them there (R9, R28 to R34, R40 to R42, R45). -/

namespace Sys2Proof.Machine

/-! ### A write that joins an empty queue (R31) -/

section
variable {u : State} {g : GroupId} {p : PortId} {r : Request}

/-- The group of an empty queue with its first write enqueued may start it. -/
theorem State.enqueue_canStart (hstate : (u.group g).state = .opened ∨ (u.group g).state = .voting)
    (hstep : (u.group g).step = none) (hhold : (u.group g).hold = none) : ((u.enqueue g p).group g).canStart = true := by
  rw [State.enqueue_group]
  exact Group.canStart_eq_true (hstate.imp_right .inl) hstep hhold

theorem State.enqueue_headBlock (hr : u.head p = some r) : (u.enqueue g p).headBlock p = blockOf r.addr := by
  rw [State.headBlock_of_head (u.enqueue_head g p hr)]
  rfl

/-- Enqueuing moves nothing that the start of a step looks at. -/
theorem State.enqueue_startDecision (b : Block) : (u.enqueue g p).startDecision g b = u.startDecision g b := by
  refine State.startDecision_of_agrees (s := u) (u := u.enqueue g p) rfl ?_ b
  rw [State.enqueue_group]
  exact ⟨rfl, rfl, rfl, rfl, rfl⟩

/-- The first write of an empty queue with room takes up its step at once. -/
theorem State.joinQueue_of_takesStep {prior : Option Nat} (hr : u.head p = some r) (hqueue : (u.group g).queue = [])
    (hstate : (u.group g).state = .opened ∨ (u.group g).state = .voting) (hstep : (u.group g).step = none)
    (hhold : (u.group g).hold = none) (h : u.takesStep g (blockOf r.addr) (u.group g).journalLength prior) :
    u.joinQueue g p = (u.enqueue g p).reserve g p := by
  rw [State.joinQueue_of_empty hqueue]
  refine State.runQueue_of_reserve (State.enqueue_canStart hstate hstep hhold) ?_
  rw [State.enqueue_headBlock hr, State.enqueue_startDecision]
  exact (State.startDecision_of_takesStep h).1

/-- What the first write of an empty queue that takes up its step leaves behind (R34). -/
theorem State.joinQueue_takesStep_spec {prior : Option Nat} (hr : u.head p = some r) (hqueue : (u.group g).queue = [])
    (hstate : (u.group g).state = .opened ∨ (u.group g).state = .voting) (hstep : (u.group g).step = none)
    (hhold : (u.group g).hold = none) (h : u.takesStep g (blockOf r.addr) (u.group g).journalLength prior) :
    (u.joinQueue g p).group g = { u.group g with
        queue := [p], step := some ((u.group g).stepOf (some p) (blockOf r.addr) prior), hold := none }
      ∧ u.othersKept (u.joinQueue g p) g
      ∧ (u.joinQueue g p).table
        = putEntry (stagedEntry g (blockOf r.addr) (u.group g).marks.length (findEntry u.table (blockOf r.addr))) u.table
      ∧ (u.joinQueue g p).headStage p = some .inQueue
      ∧ (u.joinQueue g p).mem = (u.handOn (oldRead g (blockOf r.addr))).mem
      ∧ (u.joinQueue g p).map = u.map ∧ (u.joinQueue g p).alerts = u.alerts ∧ (u.joinQueue g p).emitted = u.emitted := by
  obtain ⟨-, hprior⟩ := State.startDecision_of_takesStep h
  have hblock := State.enqueue_headBlock (g := g) hr
  have hprior' : (u.enqueue g p).priorLevel (blockOf r.addr) = prior := hprior
  rw [State.joinQueue_of_takesStep hr hqueue hstate hstep hhold h]
  refine ⟨?_, fun k hk => ((u.enqueue g p).othersKept_reserve g p k hk).trans (u.othersKept_enqueue g p k hk), ?_,
    (u.enqueue g p).reserve_headStage g p (u.enqueue_head g p hr), ?_, rfl, rfl, rfl⟩
  · rw [State.reserve_group, hblock, hprior', State.enqueue_group, hqueue]
    rfl
  · rw [State.reserve_table, hblock, State.enqueue_group]
    rfl
  · rw [State.reserve_mem, hblock]
    rfl

end

theorem oldRead_eq (g : GroupId) (a : Addr) : oldRead g (blockOf a)
    = ownOf g .journal .read (BitVec.ofNat 36 (64 * (a.toNat / 64))) 64 [] .oldBlockRead := by
  rw [oldRead, blockOf_toNat]

/-- A group without a hold is itself without it. -/
theorem Group.with_hold_none {x : Group} (h : x.hold = none) : { x with hold := none } = x := by
  cases x
  simp only at h
  subst h
  rfl

/-- Settles O23: the first write of an empty queue starts its step, new block or re-journal. -/
theorem reservationFixesTheRecord : Obligations.ReservationFixesTheRecord := by
  intro s p r i g h hreaches hwrite hstate hqueue hstep hhold hroom hentry
  have htakes : s.takesStep g (blockOf r.addr) (s.group g).journalLength
      ((findEntry s.table (blockOf r.addr)).bind fun e => e.durable) := by
    refine ⟨hroom, ?_⟩
    rcases hentry with ⟨hnew, htable, hquota⟩ | ⟨e, he, hstaged, hdurable⟩
    · exact .inl ⟨hnew, by rw [hnew]; rfl, htable, hquota⟩
    · refine .inr ⟨e, he, hstaged, by rw [he]; rfl, ?_⟩
      rw [he]
      exact hdurable
  have hjoins : findEntry s.table (blockOf r.addr) = none
      ∨ ∃ e, findEntry s.table (blockOf r.addr) = some e ∧ e.staged = none ∧ e.durable ≠ some (s.group g).level :=
    hentry.imp_left fun hnew => hnew.1
  obtain ⟨u, hu⟩ : ∃ u, u = s.tick.setHeadClass p (some i) (some g) := ⟨_, rfl⟩
  have hexec := exec_classification_of_judged h hreaches hwrite (.inl hstate)
  have hr : u.head p = some r := by rw [hu]; exact (s.tick.setHeadClass_head p _ _ p).trans h.1
  have hgroup : ∀ k, u.group k = s.group k := fun k => by rw [hu]; rfl
  have htable : u.table = s.table := by rw [hu]; rfl
  have hjudge : u.judge g p = u.joinQueue g p := by
    refine State.judgeTo_of_joins (State.headBlock_of_head hr) ?_ _
    rw [htable, hgroup]
    exact hjoins
  obtain ⟨hg, hothers, htab, hstage, hmem, -⟩ := State.joinQueue_takesStep_spec
    (prior := (findEntry s.table (blockOf r.addr)).bind fun e => e.durable) hr (hgroup g ▸ hqueue)
    (.inl (hgroup g ▸ hstate)) (hgroup g ▸ hstep) (hgroup g ▸ hhold) (by
      simp only [State.takesStep, State.entriesOf, hgroup, htable] at htakes ⊢
      exact htakes)
  rw [hgroup] at hg
  rw [htable, hgroup] at htab
  rw [← hu, hjudge] at hexec
  have hblock := stagedEntry_block (l := s.table) g (blockOf r.addr) (s.group g).marks.length
  refine ⟨_, hexec, ?_, fun k hk => (hothers k hk).trans (hgroup k), ?_, fun b hb => ?_, hstage, ?_⟩
  · have hidle := Group.with_hold_none hhold
    rw [hg]
    conv_rhs => rw [← hidle]
    rfl
  · have hself := findEntry_putEntry_self
      (stagedEntry g (blockOf r.addr) (s.group g).marks.length (findEntry s.table (blockOf r.addr))) s.table
    rw [hblock] at hself
    rw [htab, hself]
    exact congrArg some (stagedEntry_eq g _ _ _)
  · rw [htab, findEntry_putEntry_of_ne (by rw [hblock]; exact hb)]
  · rw [hmem, oldRead_eq, hu]
    rfl

/-- Settles O22: by the entry of the block. -/
theorem journalPathFollowsTheEntry : Obligations.JournalPathFollowsTheEntry := by
  intro s p r i g h hreaches hwrite hstate
  have hexec := exec_classification_of_judged h hreaches hwrite hstate
  obtain ⟨u, hu⟩ : ∃ u, u = s.tick.setHeadClass p (some i) (some g) := ⟨_, rfl⟩
  have hr : u.head p = some r := by rw [hu]; exact (s.tick.setHeadClass_head p _ _ p).trans h.1
  have hblock := State.headBlock_of_head hr
  have hgroup : ∀ k, u.group k = s.group k := fun k => by rw [hu]; rfl
  have htable : u.table = s.table := by rw [hu]; rfl
  refine ⟨_, hexec, fun e he hstaged hdurable => ?_, fun e he hstaged => ?_, fun hentry hqueue => ?_⟩
  all_goals rw [← hu]
  · rw [State.judge, State.judgeTo_of_durable hblock (htable ▸ he) hstaged (hgroup g ▸ hdurable), hu]
    exact State.issuedIn_issueHead h.1 _ _ _
  · have hself : (e : TrackEntry).block = blockOf r.addr := findEntry_block he
    have htab : (u.joinWaiting p).table = putEntry { e with waiters := e.waiters ++ [p] } s.table := by
      have hjoin : (u.joinWaiting p).table = joinWaiters (u.headBlock p) p u.table := rfl
      rw [hjoin, hblock, htable, joinWaiters, he]
    rw [State.judge, State.judgeTo_of_pending hblock (htable ▸ he) hstaged]
    refine ⟨(u.setTable _).stageHead_headStage p hr rfl, ?_, ?_, ?_, fun b hb => ?_⟩
    · have : (u.joinWaiting p).groups = u.groups := rfl
      rw [this, hu]
      rfl
    · have : (u.joinWaiting p).mem = u.mem := rfl
      rw [this, hu]
      rfl
    · have hput := findEntry_putEntry_self { e with waiters := e.waiters ++ [p] } s.table
      rw [htab, ← hself]
      exact hput
    · rw [htab, findEntry_putEntry_of_ne (by rw [← hself] at hb; exact hb)]
  · rw [State.judge, State.judgeTo_of_joins hblock (by rw [htable, hgroup]; exact hentry),
      State.joinQueue_of_nonempty (hgroup g ▸ hqueue)]
    refine ⟨u.enqueue_headStage g p hr, htable, by rw [State.enqueue_mem, hu]; rfl, ?_, fun k hk =>
      (u.othersKept_enqueue g p k hk).trans (hgroup k)⟩
    rw [State.enqueue_group, hgroup]

/-- A write of a participant into a CLOSED group with auto-open is judged in the epoch it opens (R9). -/
theorem exec_classification_of_opens {s : State} {g : GroupId} {p : PortId} {r : Request} {i : EntryId}
    (h : s.classifying p r) (hreaches : s.reaches p r i g) (hwrite : r.kind = .write) (hstate : (s.group g).state = .closed)
    (hauto : (s.group g).config.autoOpen = true) (hpending : s.map.pending = false)
    (hepoch : (s.group g).closedEpoch.toNat ≤ 0xFFFFFFFD) :
    exec (.classification p) s = .next (((s.tick.setHeadClass p (some i) (some g)).openEpoch g).judge g p) := by
  obtain ⟨u, hu⟩ : ∃ u, u = s.tick.setHeadClass p (some i) (some g) := ⟨_, rfl⟩
  have hgroup : u.group g = s.group g := by rw [hu]; rfl
  have hmap : u.map = s.map := by rw [hu]; rfl
  rw [exec_classification h, State.classify_of_handOver (s := s.tick) h.1 (State.verdict_of_reaches (s := s.tick) hreaches),
    hwrite, ← hu, State.admission_closed_write (hgroup ▸ hstate), State.autoOpen_of_room (hgroup ▸ hauto)
      (State.openRefusal_of_room (hmap ▸ hpending) (hgroup ▸ hepoch))]

theorem findEntry_dropGroup_of_new {l : List TrackEntry} {b : Block} (h : ∀ e ∈ l, e.block ≠ b) (g : GroupId) :
    findEntry (dropGroup g l) b = none := findEntry_eq_none.2 fun e he => h e (List.mem_of_mem_filter he)

/-- Settles O21: the epoch opens, and its first write starts its step. -/
theorem writeOpensTheEpochByAutoOpen : Obligations.WriteOpensTheEpochByAutoOpen := by
  intro s p r i g h hreaches hwrite hstate hauto hpending hepoch hslots hquota hnew hlength
  have hexec := exec_classification_of_opens h hreaches hwrite hstate hauto hpending hepoch
  obtain ⟨u, hu⟩ : ∃ u, u = (s.tick.setHeadClass p (some i) (some g)).openEpoch g := ⟨_, rfl⟩
  have hr : u.head p = some r := by rw [hu]; exact (s.tick.setHeadClass_head p _ _ p).trans h.1
  have hgroup : u.group g = (s.group g).openedEpoch := by rw [hu]; exact State.openEpoch_group _ g
  have hkept : s.othersKept u g := fun k hk => by rw [hu]; exact State.othersKept_openEpoch _ g k hk
  have htable : u.table = dropGroup g s.table := by rw [hu]; rfl
  have hfind : findEntry u.table (blockOf r.addr) = none := htable ▸ findEntry_dropGroup_of_new hnew g
  have hentries : u.entriesOf g = 0 := by rw [hu]; exact State.openEpoch_entriesOf _ g
  have hjudge : u.judge g p = u.joinQueue g p := State.judgeTo_of_joins (State.headBlock_of_head hr) (.inl hfind) _
  have htakes : u.takesStep g (blockOf r.addr) (u.group g).journalLength none := by
    refine ⟨?_, .inl ⟨hfind, rfl, ?_, ?_⟩⟩
    · rw [hgroup]
      change 0 < (s.group g).config.slots - 2
      omega
    · rw [htable]
      exact (List.length_filter_le _ _).trans_lt hlength
    · rw [hentries, hgroup]
      exact hquota
  rw [← hu, hjudge] at hexec
  obtain ⟨hg, hothers, htab, hstage, hmem, hmap, halerts, hemitted⟩ := State.joinQueue_takesStep_spec hr (by rw [hgroup]; rfl)
    (.inl (by rw [hgroup]; rfl)) (by rw [hgroup]; rfl) (by rw [hgroup]; rfl) htakes
  rw [hfind, hgroup] at htab
  refine ⟨_, hexec, ?_, fun k hk => (hothers k hk).trans (hkept k hk), ?_, ?_, hstage, ?_, ?_, ?_, ?_⟩
  · rw [hg, hgroup]
    rfl
  · rw [State.entriesOf, htab, countP_putEntry_of_new (findEntry_eq_none.1 hfind), ← State.entriesOf, hentries]
    simp [stagedEntry]
  · rw [htab]
    exact findEntry_putEntry_self (stagedEntry g (blockOf r.addr) 0 none) u.table
  · rw [hmem, oldRead_eq, hu]
    rfl
  · rw [hmap, hu]; rfl
  · rw [halerts, hu]; rfl
  · rw [hemitted, hu]; rfl

end Sys2Proof.Machine
end

section
/-! Overflow at classification, and the heads of a queue behind one that has left it (R31, R40 to R46). -/

namespace Sys2Proof.Machine

/-! ### What a run of a queue keeps (R31) -/

/-- A relation that holds over every move of a queue holds over its run. -/
theorem State.runQueue_rel {R : State → State → Prop} (hrefl : ∀ s, R s s) (htrans : ∀ {a b c}, R a b → R b c → R a c)
    {g : GroupId} {q : List PortId}
    (hissue : ∀ s, ∀ p ∈ q, R s ((s.modGroup g Group.headLeaves).issueHead p (some g)))
    (hreserve : ∀ s, ∀ p ∈ q, R s (s.reserve g p)) (hrefuse : ∀ s, ∀ p ∈ q, ∀ o, R s (s.refuseOverflow g p o))
    (hhold : ∀ s, ∀ p ∈ q, ∀ o, (s.group g).overflowAct = .hold → R s (s.beginHold g p o))
    (habort : ∀ s, ∀ p ∈ q, ∀ o, (s.group g).overflowAct = .abort → R s ((s.refuseOverflow g p o).abortCause g .overflow))
    (s : State) : R s (s.runQueue g q) := by
  induction q generalizing s with
  | nil => exact hrefl s
  | cons p rest ih =>
    have hrest := ih (fun s r hr => hissue s r (List.mem_cons_of_mem p hr)) (fun s r hr => hreserve s r (List.mem_cons_of_mem p hr))
      (fun s r hr => hrefuse s r (List.mem_cons_of_mem p hr)) (fun s r hr => hhold s r (List.mem_cons_of_mem p hr))
      (fun s r hr => habort s r (List.mem_cons_of_mem p hr))
    have hp : p ∈ p :: rest := List.mem_cons_self
    rw [State.runQueue_cons]
    split
    · split
      · exact htrans (hissue s p hp) (hrest _)
      · exact hreserve s p hp
      · split
        next => exact htrans (hrefuse s p hp _) (hrest _)
        next hact => exact hhold s p hp _ hact
        next hact => exact habort s p hp _ hact
    · exact hrefl s

section
variable (s : State) (p : PortId)

theorem State.refuseHead_channel (why : RefusalReason) (q : PortId) :
    ((s.refuseHead p why).port q).channel = (s.port q).channel := by
  cases h : s.head p with
  | none => rw [State.refuseHead, h]
  | some r =>
    rw [State.refuseHead_port h]
    split
    next hq => rw [hq]; rfl
    next => rfl

theorem State.issueHead_channel (d : Option GroupId) (q : PortId) :
    ((s.issueHead p d).port q).channel = (s.port q).channel := by
  cases h : s.head p with
  | none => rw [State.issueHead, h]
  | some r =>
    rw [State.issueHead_port h]
    split
    next hq => rw [hq]; rfl
    next => rfl

/-- What the moves of a group in COMMITTING leave alone, where the ports in `q` move. -/
structure State.CommitKept (s t : State) (g : GroupId) (q : List PortId) : Prop where
  state : (t.group g).state = (s.group g).state
  voteSet : (t.group g).voteSet = (s.group g).voteSet
  voteTimer : (t.group g).voteTimer = (s.group g).voteTimer
  marks : (t.group g).marks = (s.group g).marks
  journalLength : (t.group g).journalLength = (s.group g).journalLength
  hold : (s.group g).hold = none → (t.group g).hold = none
  others : s.othersKept t g
  ports : ∀ p, p ∉ q → t.port p = s.port p
  channel : ∀ p, (t.port p).channel = (s.port p).channel

theorem State.CommitKept.refl (g : GroupId) (q : List PortId) : s.CommitKept s g q :=
  ⟨rfl, rfl, rfl, rfl, rfl, id, fun _ _ => rfl, fun _ _ => rfl, fun _ => rfl⟩

theorem State.CommitKept.trans {s t u : State} {g : GroupId} {q : List PortId} (h : s.CommitKept t g q)
    (k : t.CommitKept u g q) : s.CommitKept u g q :=
  ⟨k.state.trans h.state, k.voteSet.trans h.voteSet, k.voteTimer.trans h.voteTimer, k.marks.trans h.marks,
    k.journalLength.trans h.journalLength, fun hs => k.hold (h.hold hs), fun j hj => (k.others j hj).trans (h.others j hj),
    fun p hp => (k.ports p hp).trans (h.ports p hp), fun p => (k.channel p).trans (h.channel p)⟩

/-- A run of the queue in COMMITTING moves steps, holds and ports of the queue alone. -/
theorem State.runQueue_committing {s : State} {g : GroupId} (q : List PortId) (h : (s.group g).state = .committing) :
    s.CommitKept (s.runQueue g q) g q := by
  refine State.runQueue_rel (R := fun s t => (s.group g).state = .committing → s.CommitKept t g q)
    (fun s _ => State.CommitKept.refl s g q) (fun hab hbc ha => (hab ha).trans (hbc ((hab ha).state.trans ha)))
    (fun s p hp _ => ?issue) (fun s p hp _ => ?reserve) (fun s p hp o _ => ?refuse) (fun s p _ o hact hs => ?hold)
    (fun s p _ o hact hs => ?abort) s h
  case issue =>
    have hgroup := (s.modGroup g Group.headLeaves).issueHead_group p (some g) g
    rw [State.modGroup_group_self] at hgroup
    refine ⟨?_, ?_, ?_, ?_, ?_, fun _ => ?_, fun k hk => ?_, fun r hr => ?_, fun r => State.issueHead_channel _ p _ r⟩
    iterate 6 rw [hgroup]; rfl
    · rw [State.issueHead_group, State.modGroup_group, if_neg hk]
    · exact State.issueHead_other _ fun heq => hr (heq ▸ hp)
  case reserve =>
    have hgroup := s.reserve_group g p
    refine ⟨?_, ?_, ?_, ?_, ?_, fun _ => ?_, s.othersKept_reserve g p, fun r hr => ?_, fun r => ?_⟩
    iterate 6 rw [hgroup]
    · exact s.reserve_port_other g p fun heq => hr (heq ▸ hp)
    · rw [State.reserve_port, State.stageHead_eq, State.stageHeads_channel]
  case refuse =>
    have hgroup := s.refuseOverflow_group g p o
    refine ⟨?_, ?_, ?_, ?_, ?_, fun _ => ?_, s.othersKept_refuseOverflow g p o, fun r hr => ?_, fun r => ?_⟩
    iterate 6 rw [hgroup]
    · exact s.refuseOverflow_other g p o fun heq => hr (heq ▸ hp)
    · exact State.refuseHead_channel _ p _ r
  all_goals
    rw [Group.overflowAct_of_committing hs] at hact
    cases hact

end

section
variable {s : State} {g : GroupId}

theorem State.enterRollingBack_stats (s : State) (g : GroupId) (c : CloseCause) :
    ((s.enterRollingBack g c).group g).stats = (s.group g).stats := by
  obtain ⟨-, -, -, hgroup | ⟨ph, n, hgroup⟩⟩ := s.enterRollingBack_frame g c
  · rw [hgroup]
    rfl
  · rw [hgroup, atPhase_stats]
    rfl

theorem State.enterRollingBack_port (s : State) (g : GroupId) (c : CloseCause) (p : PortId) : (s.enterRollingBack g c).port p
    = (s.stageHeads (stagesOf (s.rolledPorts g) (.held .rollingBack))).port p := by
  obtain ⟨hrest, -⟩ := s.enterRollingBack_frame g c
  rw [hrest]
  rfl

theorem State.enterRollingBack_refusal (s : State) (g : GroupId) (c : CloseCause) (p : PortId) :
    ((s.enterRollingBack g c).port p).refusal = (s.port p).refusal := by
  rw [State.enterRollingBack_port, State.stageHeads_port, Port.staged_refusal]

theorem State.enterRollingBack_table (s : State) (g : GroupId) (c : CloseCause) : (s.enterRollingBack g c).table = s.table := by
  obtain ⟨hrest, -⟩ := s.enterRollingBack_frame g c
  rw [hrest]

theorem State.abortCause_cases (s : State) (g : GroupId) (c : CloseCause) :
    s.abortCause g c = s ∨ s.abortCause g c = s.enterRollingBack g c := by
  unfold State.abortCause
  split
  · exact .inr rfl
  · exact .inl rfl

/-- A run of the queue counts no hold expiry. -/
theorem State.runQueue_holdExpiries (s : State) (g : GroupId) (q : List PortId) :
    ((s.runQueue g q).group g).stats.holdExpiries = (s.group g).stats.holdExpiries := by
  have hrefused : ∀ (s : State) p o, ((s.refuseOverflow g p o).group g).stats.holdExpiries = (s.group g).stats.holdExpiries :=
    fun s p o => by rw [State.refuseOverflow_group, Stats.addOverflow_eq]
  refine State.runQueue_rel (R := fun s t => (t.group g).stats.holdExpiries = (s.group g).stats.holdExpiries) (fun _ => rfl)
    (fun hab hbc => hbc.trans hab) (fun s p _ => ?_) (fun s p _ => ?_) (fun s p _ o => hrefused s p o) (fun s p _ o _ => ?_)
    (fun s p _ o _ => ?_) s
  · rw [State.issueHead_group, State.modGroup_group_self]
    rfl
  · rw [State.reserve_group]
  · rw [State.group_of_groups (s.beginHold_groups g p o)]
  · rcases (s.refuseOverflow g p o).abortCause_cases g .overflow with h | h
    · rw [h, hrefused]
    · rw [h, State.enterRollingBack_stats, hrefused]

/-- A run of the queue records no refusal at a port that is not in it. -/
theorem State.runQueue_refusal_other (s : State) (g : GroupId) {q : List PortId} {r : PortId} (h : r ∉ q) :
    ((s.runQueue g q).port r).refusal = (s.port r).refusal := by
  have hne : ∀ p ∈ q, r ≠ p := fun p hp heq => h (heq ▸ hp)
  refine State.runQueue_rel (R := fun s t => (t.port r).refusal = (s.port r).refusal) (fun _ => rfl)
    (fun hab hbc => hbc.trans hab) (fun s p hp => ?_) (fun s p hp => ?_) (fun s p hp o => ?_) (fun s p hp o _ => ?_)
    (fun s p hp o _ => ?_) s
  · rw [State.issueHead_other _ (hne p hp), State.modGroup_port]
  · rw [State.reserve_port_other s g p (hne p hp)]
  · rw [State.refuseOverflow_other s g p o (hne p hp)]
  · have hport : (s.beginHold g p o).port r = (s.stageHead p (.held (.overflow o))).port r := rfl
    rw [hport, State.stageHead_port, if_neg (hne p hp)]
  · rcases (s.refuseOverflow g p o).abortCause_cases g .overflow with habort | habort
    · rw [habort, State.refuseOverflow_other s g p o (hne p hp)]
    · rw [habort, State.enterRollingBack_refusal, State.refuseOverflow_other s g p o (hne p hp)]

end

/-! ### The expiry of a hold (R42) -/

section
variable {s : State} {g : GroupId} {p : PortId} {h : Hold} {rest : List PortId}

/-- The state once the held head of port `p` has been refused at its expiry, before the next head starts. -/
def State.expired (s : State) (g : GroupId) (p : PortId) (h : Hold) : State :=
  (s.modGroup g fun x => x.headLeaves.modStats Stats.addExpiry).refuseHead p h.reason.reason

theorem exec_holdExpiry_of_hold (hhold : (s.group g).hold = some h) (hqueue : (s.group g).queue = p :: rest) :
    exec (.holdExpiry g) s = .next ((s.tick.expired g p h).startHeads g) := by
  simp only [exec, execHoldExpiry, hhold, hqueue]
  rfl

theorem exec_holdExpiry_of_none (hhold : (s.group g).hold = none) : exec (.holdExpiry g) s = .next s := by
  simp only [exec, execHoldExpiry, hhold]

theorem State.expired_group (s : State) (g : GroupId) (p : PortId) (h : Hold) : (s.expired g p h).group g
    = { s.group g with queue := (s.group g).queue.tail, hold := none, stats := (s.group g).stats.addExpiry } := by
  rw [State.expired, State.refuseHead_group, State.modGroup_group_self]
  rfl

theorem State.othersKept_expired (s : State) (g : GroupId) (p : PortId) (h : Hold) : s.othersKept (s.expired g p h) g :=
  fun k hk => by rw [State.expired, State.refuseHead_group, State.modGroup_group, if_neg hk]

@[simp] theorem State.expired_table (s : State) (g : GroupId) (p : PortId) (h : Hold) : (s.expired g p h).table = s.table := by
  rw [State.expired, State.refuseHead_table, State.modGroup_table]

@[simp] theorem State.expired_mem (s : State) (g : GroupId) (p : PortId) (h : Hold) : (s.expired g p h).mem = s.mem := by
  rw [State.expired, State.refuseHead_mem, State.modGroup_mem]

theorem State.expired_other (s : State) (g : GroupId) (h : Hold) {p q : PortId} (hq : q ≠ p) :
    (s.expired g p h).port q = s.port q := by
  rw [State.expired, State.refuseHead_other _ hq, State.modGroup_port]

/-- The record of a head refused at its expiry, and its answer in turn. -/
theorem State.expired_refusal {r : Request} (hr : s.head p = some r) (h : Hold) :
    ((s.expired g p h).port p).refusal.map (fun x => (x.addr, x.reason))
        = some (r.addr, if h.reason = .journalFull then .journalFull else .trackFull)
      ∧ ((s.expired g p h).port p).refusalCount = min 65535 ((s.port p).refusalCount + 1)
      ∧ (s.expired g p h).isLatched (.refusal p) = true ∧ s.headAnswered (s.expired g p h) p r := by
  have hhead : (s.modGroup g fun x => x.headLeaves.modStats Stats.addExpiry).head p = some r := hr
  obtain ⟨hrefusal, hcount, hlatched⟩ := State.refuseHead_refusal hhead h.reason.reason
  refine ⟨?_, hcount, hlatched, State.headAnswered_refuseHead hhead _⟩
  rw [State.expired, hrefusal, ← Overflow.reason_eq]
  rfl

/-- The next head may start once the held one has left. -/
theorem State.expired_canStart (hstate : (s.group g).state = .opened ∨ (s.group g).state = .voting)
    (hstep : (s.group g).step = none) : ((s.expired g p h).group g).canStart = true := by
  rw [State.expired_group]
  exact Group.canStart_eq_true (hstate.imp_right .inl) hstep rfl

theorem State.expired_startDecision (b : Block) : (s.expired g p h).startDecision g b = s.startDecision g b := by
  refine State.startDecision_of_agrees (s.expired_table g p h) ?_ b
  rw [State.expired_group]
  exact ⟨rfl, rfl, rfl, rfl, rfl⟩

/-- Answers seen at a port hold where the port and what was given out are the same. -/
theorem State.headAnswered_of_port {s t u : State} {p : PortId} {r : Request} (h : s.headAnswered t p r)
    (hport : u.port p = t.port p) (hemitted : u.emitted = t.emitted) : s.headAnswered u p r := by
  intro older rest haround
  rw [hport, hemitted]
  exact h older rest haround

end

/-- The statement's mark of an address and a reason holds the reason. -/
theorem reason_of_pair {o : Option RefusalRecord} {a : Addr} {why : RefusalReason}
    (h : o.map (fun x => (x.addr, x.reason)) = some (a, why)) : o.map (fun x => x.reason) = some why := by
  have := congrArg (Option.map Prod.snd) h
  rwa [Option.map_map] at this

/-- Settles O42: the held head is refused, and the next head starts its step by its own decision. -/
theorem holdExpiryRefusesTheHead : Obligations.HoldExpiryRefusesTheHead := by
  refine ⟨fun s g h p r hhold hqueue hr => ?alone, fun s g h p q more r rq hhold hqueue hp hstep hstate hr hrq _ => ?next,
    fun s g => exec_holdExpiry_of_none⟩
  case alone =>
    obtain ⟨hrefusal, hcount, hlatched, hanswered⟩ := State.expired_refusal (s := s.tick) (g := g) hr h
    have hgroup := s.tick.expired_group g p h
    have hrun : (s.tick.expired g p h).startHeads g = s.tick.expired g p h := by
      rw [State.startHeads, hgroup, State.tick_group, hqueue]
      rfl
    refine ⟨_, exec_holdExpiry_of_hold hhold hqueue, ?_⟩
    rw [hrun]
    refine ⟨?_, s.tick.othersKept_expired g p h, s.tick.expired_table g p h, s.tick.expired_mem g p h,
      fun q hq => s.tick.expired_other g h hq, reason_of_pair hrefusal, hcount, hlatched, hanswered⟩
    rw [hgroup, State.tick_group, hqueue]
    rfl
  case next =>
    obtain ⟨hrefusal, -, -, hanswered⟩ := State.expired_refusal (s := s.tick) (g := g) hr h
    obtain ⟨w, hw⟩ : ∃ w, w = s.tick.expired g p h := ⟨_, rfl⟩
    have hgroup : w.group g
        = { s.group g with queue := q :: more, hold := none, stats := (s.group g).stats.addExpiry } := by
      rw [hw, State.expired_group, State.tick_group, hqueue]
      rfl
    have hothers : s.othersKept w g := by rw [hw]; exact s.tick.othersKept_expired g p h
    have htable : w.table = s.table := by rw [hw]; exact s.tick.expired_table g p h
    have hmem : w.mem = s.mem := by rw [hw]; exact s.tick.expired_mem g p h
    have hclock : w.clock = s.clock + 1 := by rw [hw]; exact State.refuseHead_clock ..
    have hnextHold : w.nextHold = s.nextHold := by rw [hw]; exact State.refuseHead_nextHold ..
    have hqp : q ≠ p := fun heq => hp (heq ▸ List.mem_cons_self)
    have hport : w.port q = s.port q := by rw [hw]; exact s.tick.expired_other g h hqp
    have hhead : w.head q = some rq := (State.head_of_port hport).trans hrq
    have hblock : w.headBlock q = blockOf rq.addr := State.headBlock_of_head hhead
    have hcan : (w.group g).canStart = true := by rw [hw]; exact State.expired_canStart (s := s.tick) hstate hstep
    have hdecision : ∀ b, w.startDecision g b = s.startDecision g b := fun b => by
      rw [hw]
      exact State.expired_startDecision (s := s.tick) b
    have hstart : w.startHeads g = w.runQueue g (q :: more) := by rw [State.startHeads, hgroup]
    have hpolicy : (w.group g).overflowAct = _ := Group.overflowAct_of_policy (by rw [hgroup]; exact hstate)
    refine ⟨w.startHeads g, by rw [hw]; exact exec_holdExpiry_of_hold hhold hqueue, ?_, ?_, fun prior htakes => ?_,
      fun e he hstaged hdurable hmore => ?_, fun o hover hact => ?_, fun o hover hact hmore => ?_⟩
    · rw [State.startHeads, State.runQueue_holdExpiries, hgroup]
      rfl
    · rw [hstart, State.runQueue_refusal_other w g hp, hw]
      exact hrefusal
    · have hreserve : w.startHeads g = w.reserve g q := by
        rw [hstart]
        exact State.runQueue_of_reserve hcan (by rw [hblock, hdecision]; exact (State.startDecision_of_takesStep htakes).1)
      have htaken := State.stepTaken_reserve (s := w) (g := g) (prior := prior) hhead rfl (by
        simp only [State.takesStep, State.entriesOf, hgroup, htable] at htakes ⊢
        exact htakes)
      simp only [State.stepTaken, hgroup, htable] at htaken
      rw [hreserve]
      refine ⟨htaken, ?_, fun k hk => (w.othersKept_reserve g q k hk).trans (hothers k hk), ?_, ?_⟩
      · rw [State.reserve_group, hgroup]
      · rw [State.reserve_mem, hblock]
        simp only [State.handOn_mem, hmem, hclock]
        rfl
      · refine State.headAnswered_of_port hanswered ?_ (by rw [hw]; rfl)
        rw [State.reserve_port_other w g q hqp.symm, hw]
    · have hissue : w.startHeads g = (w.modGroup g Group.headLeaves).issueHead q (some g) := by
        rw [hstart, hmore]
        exact State.runQueue_of_issue (rest := []) hcan
          (by rw [hblock, hdecision]; exact State.startDecision_of_durable he hstaged hdurable)
      have hheadLeft : (w.modGroup g Group.headLeaves).head q = some rq := hhead
      have hrest := State.issueHead_rest hheadLeft (some g)
      rw [hissue]
      refine ⟨?_, fun k hk => ?_, ?_, ?_, ?_⟩
      · rw [State.issueHead_group, State.modGroup_group_self, hgroup, hmore]
        rfl
      · rw [State.issueHead_group, State.modGroup_group, if_neg hk]
        exact hothers k hk
      · rw [State.issueHead_table]
        exact htable
      · have hissued := (State.headIssued_issueHead hheadLeft (some g)).1
        simp only [State.headIssued, State.queueAround, State.modGroup_port, hport] at hissued
        exact hissued
      · rw [hrest]
        simp only [State.handOn_mem, State.modGroup_mem, State.modGroup_clock, hmem, hclock, State.dataWrites, hrq]
        rfl
    · have hheld : w.startHeads g = w.beginHold g q o := by
        rw [hstart]
        exact State.runQueue_of_hold hcan (by rw [hblock, hdecision]; exact State.startDecision_of_meetsOverflow hover)
          (by rw [hpolicy, hgroup, hact])
      have hgroups := w.beginHold_groups g q o
      rw [hheld]
      refine ⟨w.beginHold_headStage g q o hhead, hmem, htable,
        fun k hk => (State.othersKept_of_groups hgroups k hk).trans (hothers k hk), ?_⟩
      rw [State.group_of_groups hgroups, hgroup, hnextHold]
    · have hrefused : w.startHeads g = w.refuseOverflow g q o := by
        rw [hstart, hmore]
        exact State.runQueue_of_refuse (rest := []) hcan
          (by rw [hblock, hdecision]; exact State.startDecision_of_meetsOverflow hover) (by rw [hpolicy, hgroup, hact])
      rw [hrefused]
      refine ⟨?_, by rw [State.refuseOverflow_mem, hmem], by rw [State.refuseOverflow_table, htable],
        fun k hk => (w.othersKept_refuseOverflow g q o k hk).trans (hothers k hk), w.refuseOverflow_refusal g q o hhead⟩
      rw [State.refuseOverflow_group, hgroup, hmore]
      rfl

end Sys2Proof.Machine
end

section
/-! The votes to commit (R64 to R70) and the overflow of the heads that classification and a commit bring to their step (R33, R40 to R46). -/

namespace Sys2Proof.Machine

/-! ### The last vote (R64, R69, R70) -/

/-- The head of the group's queue that a hold keeps there. -/
def Group.heldHead (x : Group) : List PortId :=
  match x.hold with
  | none => []
  | some _ => x.queue.take 1

/-- The group at the vote that completes its vote set, before the next head starts. -/
def Group.lastVote (x : Group) (p : PortId) : Group :=
  { x with
    state := .committing
    voteSet := x.voteSet.set p true
    voteTimer := none
    queue := if x.hold.isSome then x.queue.tail else x.queue
    hold := none }

/-- The state at the vote that completes the vote set, before the next head starts. -/
def State.lastVote (s : State) (g : GroupId) (p : PortId) (a : Fin 8) : State :=
  ((s.wait p .voteCommit a g).stageHeads (stagesOf (s.group g).heldHead (.held .committing))).modGroup g
    fun x => x.lastVote p

section
variable {s : State} {g : GroupId} {p : PortId}

theorem State.holdForCommit_eq (s : State) (g : GroupId) :
    s.holdForCommit g = s.stageHeads (stagesOf (s.group g).heldHead (.held .committing)) := by
  unfold State.holdForCommit Group.heldHead
  cases (s.group g).hold with
  | none => exact State.stageHeads_none.symm
  | some h =>
    cases (s.group g).queue with
    | nil => exact State.stageHeads_none.symm
    | cons c rest => exact s.foldl_holdHead [c] .committing

theorem Group.intoCommitting_voted (x : Group) (p : PortId) : (x.voted p).intoCommitting = x.lastVote p := by
  unfold Group.voted
  split <;> rfl

theorem Group.heldHead_voted (x : Group) (p : PortId) : (x.voted p).heldHead = x.heldHead := by
  unfold Group.voted
  split <;> rfl

theorem Group.voted_voteSet (x : Group) (p : PortId) :
    (x.voted p).voteSet = x.voteSet.set p true ∧ (x.voted p).config = x.config := by
  unfold Group.voted
  split <;> exact ⟨rfl, rfl⟩

/-- A vote that completes the vote set commits (R64). -/
theorem State.takeVote_of_last (h : (s.group g).voteSet.set p true = (s.group g).config.participants) (a : Fin 8) :
    s.takeVote g p a = ((s.lastVote g p a).startHeads g).drainCheck g := by
  obtain ⟨hvotes, hconfig⟩ := (s.group g).voted_voteSet p
  have hcomplete : ((s.group g).voted p).voteComplete = true := by
    rw [Group.voteComplete, hvotes, hconfig, h]
    exact decide_eq_true rfl
  rw [State.takeVote, State.commitIfComplete, State.modGroup_group_self, State.wait_group, if_pos hcomplete,
    State.enterCommitting, State.holdForCommit_eq, State.modGroup_group_self, State.wait_group, Group.heldHead_voted,
    State.modGroup_stageHeads, State.modGroup_modGroup]
  rw [funext fun x => Group.intoCommitting_voted x p]
  rfl

/-- A vote that leaves the vote set short only waits (R64, R66). -/
theorem State.takeVote_of_more (h : (s.group g).voteSet.set p true ≠ (s.group g).config.participants) (a : Fin 8) :
    s.takeVote g p a = (s.wait p .voteCommit a g).modGroup g fun x => x.voted p := by
  obtain ⟨hvotes, hconfig⟩ := (s.group g).voted_voteSet p
  have hshort : ((s.group g).voted p).voteComplete = false := by
    rw [Group.voteComplete, hvotes, hconfig]
    exact decide_eq_false h
  rw [State.takeVote, State.commitIfComplete, State.modGroup_group_self, State.wait_group, hshort]
  rfl

theorem State.voteCommit_of_taken (h : (s.group g).state = .opened ∨ (s.group g).state = .voting) (a : Fin 8) :
    s.voteCommit g p a = s.takeVote g p a := by
  unfold State.voteCommit
  rcases h with h | h <;> rw [h]

theorem exec_voteCommit (h : s.commands p g) (a : Fin 8) :
    exec (.voteCommit p a) s = .next (s.tick.voteCommit g p a) :=
  congrArg Host.Outcome.next (State.takeCommand_of_commands (s := s.tick) h _)

theorem Group.voted_eq (x : Group) (p : PortId) (h : x.state = .opened ∨ x.state = .voting) : x.voted p = { x with
    state := .voting
    voteSet := x.voteSet.set p true
    voteTimer := if x.state = .voting then x.voteTimer
      else if x.config.voteWindow = 0 then none else some (x.config.voteWindow * 100) } := by
  unfold Group.voted
  rcases h with h | h
  · rw [h]
    rfl
  · cases x
    simp only at h
    subst h
    rfl

variable {a : Fin 8}

theorem State.lastVote_group (s : State) (g : GroupId) (p : PortId) (a : Fin 8) :
    (s.lastVote g p a).group g = (s.group g).lastVote p := State.modGroup_group_self _ g _

theorem State.othersKept_lastVote (s : State) (g : GroupId) (p : PortId) (a : Fin 8) : s.othersKept (s.lastVote g p a) g :=
  State.othersKept_of_groups rfl

/-- The last vote touches its group, its channel and the stage of a held head. -/
theorem State.lastVote_rest (s : State) (g : GroupId) (p : PortId) (a : Fin 8) :
    s.lastVote g p a = { s with groups := (s.lastVote g p a).groups, ports := (s.lastVote g p a).ports } := rfl

theorem State.lastVote_channel (s : State) (g : GroupId) (p : PortId) (a : Fin 8) :
    ((s.lastVote g p a).port p).channel = some { kind := .voteCommit, arg := a, group := g } := by
  rw [State.lastVote, State.modGroup_port, State.stageHeads_channel, State.wait_port_self]

/-- The heads but a held one stay as they were. -/
theorem State.lastVote_head {q : PortId} (hq : q ∉ (s.group g).heldHead) : (s.lastVote g p a).head q = s.head q := by
  have h : (s.lastVote g p a).head q
      = ((s.wait p .voteCommit a g).stageHeads (stagesOf (s.group g).heldHead (.held .committing))).head q := rfl
  rw [h, State.stageHeads_head_of_none (stagesOf_of_not_mem hq), State.wait_head]

/-- A held head is held by the commit (R44). -/
theorem State.lastVote_headStage {c : PortId} {r : Request} (hr : s.head c = some r) (hc : c ∈ (s.group g).heldHead) :
    (s.lastVote g p a).headStage c = some (.held .committing) := by
  have h : (s.lastVote g p a).headStage c
      = ((s.wait p .voteCommit a g).stageHeads (stagesOf (s.group g).heldHead (.held .committing))).headStage c := rfl
  rw [h, State.stageHeads_headStage_of_some (stagesOf_of_mem hc) rfl, State.wait_headStage, State.headStage_of_head hr]
  rfl

/-- A commit's drain check moves the memory port alone. -/
theorem State.drainCheck_committing_rest (h : (s.group g).state = .committing) :
    s.drainCheck g = { s with mem := (s.drainCheck g).mem } := by
  rw [State.drainCheck_of_committing h]
  split <;> rfl

/-- With a write queued the commit waits (R70). -/
theorem State.drainCheck_committing_queued (h : (s.group g).state = .committing) (hqueue : (s.group g).queue ≠ []) :
    s.drainCheck g = s := by
  have hwaits : s.commitDrained g = false := by simp [State.commitDrained, hqueue]
  rw [State.drainCheck_of_committing h, hwaits]
  rfl

/-- What the memory port holds after a commit's drain check, with an empty queue or a step in progress, seen from a state
before it (R70, R72). -/
theorem State.drainCheck_committing_mem {u : State} (hstate : (s.group g).state = .committing)
    (hqueue : (s.group g).queue = [] ∨ (s.group g).step ≠ none) (hmem : u.mem = s.mem) (hclock : u.clock + 1 = s.clock)
    (hconfig : (s.group g).config = (u.group g).config) (hepoch : (s.group g).closedEpoch = (u.group g).closedEpoch) :
    (s.drainCheck g).mem = if (s.group g).step ≠ none ∨ u.writesUnanswered g = true ∨ u.ownTxn g = true then u.mem
      else (u.tick.handOn ((u.group g).closingHeader g .committed .commitHeader)).mem := by
  by_cases hstep : (s.group g).step = none
  · have hdrain := State.commitDrainsTo_drainCheck (u := u.tick) hstate (hqueue.resolve_right (not_not.2 hstep)) hstep hmem hclock hconfig.symm hepoch.symm
    rw [State.commitDrainsTo] at hdrain
    simp only [hstep, ne_eq, not_true_eq_false, false_or]
    exact hdrain
  · have hwaits : s.commitDrained g = false := by simp [State.commitDrained, hstep]
    rw [State.drainCheck_of_committing hstate, hwaits, if_neg Bool.false_ne_true, if_pos (.inl hstep), hmem]

end

/-- Settles O30: by the group's state, and by whether the vote completes the vote set. -/
theorem voteCommitFollowsTheGroupState : Obligations.VoteCommitFollowsTheGroupState := by
  intro s p a g h
  refine ⟨_, exec_voteCommit h a, fun hstate => ?_, fun hstate => ?_, fun hstate => ?_, fun hstate => ?taken⟩
  · unfold State.voteCommit
    rw [State.tick_group, hstate]
    rfl
  · unfold State.voteCommit
    rcases hstate with hstate | hstate <;> rw [State.tick_group, hstate] <;> rfl
  · unfold State.voteCommit
    simp only [List.mem_cons, List.not_mem_nil, or_false] at hstate
    rcases hstate with hs | hs | hs | hs | hs | hs <;> rw [State.tick_group, hs] <;> rfl
  rw [State.voteCommit_of_taken (s := s.tick) hstate]
  by_cases hlast : (s.group g).voteSet.set p true = (s.group g).config.participants
  case neg =>
    rw [State.takeVote_of_more (s := s.tick) hlast]
    refine ⟨?_, fun _ => ⟨?_, State.othersKept_of_groups rfl, fun q hq => ?_, rfl⟩, fun heq => absurd heq hlast⟩
    · rw [State.modGroup_port, State.wait_port_self]
    · rw [State.modGroup_group_self, State.wait_group, State.tick_group, Group.voted_eq _ _ hstate]
    · rw [State.modGroup_port, State.wait_port, if_neg hq, State.tick_port]
  case pos =>
    rw [State.takeVote_of_last (s := s.tick) hlast]
    obtain ⟨w, hw⟩ : ∃ w, w = s.tick.lastVote g p a := ⟨_, rfl⟩
    have hgroup : w.group g = (s.group g).lastVote p := by rw [hw]; exact s.tick.lastVote_group g p a
    have hcommitting : (w.group g).state = .committing := by rw [hgroup]; rfl
    have hkept := State.runQueue_committing (w.group g).queue hcommitting
    have hcommitting' : ((w.startHeads g).group g).state = .committing := hkept.state.trans hcommitting
    have hrest := State.drainCheck_committing_rest hcommitting'
    have hdrained : ∀ k, ((w.startHeads g).drainCheck g).group k = (w.startHeads g).group k := fun k => by
      rw [hrest]
      rfl
    have hdrainedPort : ∀ q, ((w.startHeads g).drainCheck g).port q = (w.startHeads g).port q := fun q => by
      rw [hrest]
      rfl
    have hmem : s.mem = w.mem := by rw [hw]; rfl
    have hclock : s.clock + 1 = w.clock := by rw [hw]; rfl
    have htable : w.table = s.table := by rw [hw]; rfl
    have hothers : s.othersKept w g := by rw [hw]; exact s.tick.othersKept_lastVote g p a
    rw [← hw]
    refine ⟨?_, fun hmore => absurd hlast hmore, fun _ => ⟨?_, ?_, ?_, ?_, ?_, ?_, fun k hk => ?_, fun hhold hidle => ?idle,
      fun hd c r rest hhold hstep hqueue hr hc => ?held⟩⟩
    · rw [hdrainedPort, State.startHeads, hkept.channel, hw, State.lastVote_channel]
    · rw [hdrained, hcommitting']
    · rw [hdrained, State.startHeads, hkept.voteSet, hgroup, ← hlast]
      rfl
    · rw [hdrained, State.startHeads, hkept.voteTimer, hgroup]
      rfl
    · rw [hdrained]
      exact hkept.hold (by rw [hgroup]; rfl)
    · rw [hdrained, State.startHeads, hkept.marks, hgroup]
      rfl
    · rw [hdrained, State.startHeads, hkept.journalLength, hgroup]
      rfl
    · rw [hdrained]
      exact (hkept.others k hk).trans (hothers k hk)
    case idle =>
      have hsame : (s.group g).lastVote p = { s.group g with
          state := .committing, voteSet := (s.group g).config.participants, voteTimer := none } := by
        conv_rhs => rw [← Group.with_hold_none hhold]
        rw [Group.lastVote, hhold, hlast]
        rfl
      have hstays : w.startHeads g = w := by
        rw [State.startHeads, hgroup, hsame]
        rcases hidle with hempty | hstep
        · rw [hempty]
          rfl
        · refine State.runQueue_of_stopped (Group.canStart_of_step ?_) _
          rw [hgroup]
          exact hstep
      rw [hstays] at hrest hdrained ⊢
      refine ⟨(hdrained g).trans (hgroup.trans hsame), ?_, ?_, ?_, ?_⟩
      · rw [hrest]
        exact htable
      · rw [hrest, hw]
        rfl
      · rw [hrest, hw]
        rfl
      · have hdrain := State.drainCheck_committing_mem (u := s) hcommitting (by rw [hgroup, hsame]; exact hidle) hmem hclock
          (by rw [hgroup]; rfl) (by rw [hgroup]; rfl)
        rw [hgroup, hsame] at hdrain
        exact hdrain
    case held =>
      have hheld : (s.group g).heldHead = [c] := by rw [Group.heldHead, hhold, hqueue]; rfl
      have hrestQueue : (w.group g).queue = rest := by
        rw [hgroup, Group.lastVote, hhold, hqueue]
        rfl
      have hwstep : (w.group g).step = none := by rw [hgroup]; exact hstep
      rw [hrestQueue] at hkept
      have hstart : w.startHeads g = w.runQueue g rest := by rw [State.startHeads, hrestQueue]
      refine ⟨?_, fun hempty => ?_, fun q rq hone hrq hroom => ?_⟩
      · rw [State.headStage_of_port ((hdrainedPort c).trans (hstart ▸ hkept.ports c hc)), hw]
        exact State.lastVote_headStage (s := s.tick) hr (hheld ▸ List.mem_singleton.2 rfl)
      · have hstays : w.startHeads g = w := by rw [hstart, hempty]; rfl
        have hdrain := State.drainCheck_committing_mem (u := s) hcommitting (.inl (hrestQueue.trans hempty)) hmem hclock
          (by rw [hgroup]; rfl) (by rw [hgroup]; rfl)
        simp only [hwstep, ne_eq, not_true_eq_false, false_or] at hdrain
        rw [hstays] at hrest hdrained ⊢
        refine ⟨?_, ?_, ?_, ?_, hdrain⟩
        · rw [hdrained, hrestQueue, hempty]
        · rw [hdrained, hwstep]
        · rw [hrest]
          exact htable
        · rw [hrest, hw]
          rfl
      · have hqc : q ≠ c := fun heq => hc (by rw [hone, heq]; exact List.mem_singleton.2 rfl)
        have hhead : w.head q = some rq := by
          rw [hw]
          exact (State.lastVote_head (s := s.tick) fun hq => hqc (List.mem_singleton.1 (hheld ▸ hq))).trans hrq
        have hblock : w.headBlock q = blockOf rq.addr := State.headBlock_of_head hhead
        have halike : (w.group g).JournalsAlike (s.group g) := by
          rw [hgroup]
          exact ⟨rfl, rfl, rfl, rfl, rfl⟩
        have htakes := State.startDecision_of_takesStep (State.takesStep_of_hasRoom hroom)
        have hreserve : w.startHeads g = w.reserve g q := by
          rw [hstart, hone]
          refine State.runQueue_of_reserve (Group.canStart_eq_true (.inr (.inr hcommitting)) hwstep (by rw [hgroup]; rfl)) ?_
          rw [hblock, State.startDecision_of_agrees htable halike]
          exact htakes.1
        have hprior : w.priorLevel (blockOf rq.addr) = none := by
          rw [State.priorLevel, htable]
          exact htakes.2
        have hqueued : ((w.reserve g q).group g).queue = [q] := by rw [State.reserve_group, hrestQueue, hone]
        rw [hreserve, State.drainCheck_committing_queued (by rw [State.reserve_group]; exact hcommitting)
          (by rw [hqueued]; exact List.cons_ne_nil q [])]
        refine ⟨hqueued, ?_, w.reserve_headStage g q hhead, ?_, ?_⟩
        · rw [State.reserve_group, hblock, hprior, hgroup]
          rfl
        · rw [State.reserve_entriesOf w g q (by rw [hblock, htable]; exact findEntry_eq_none.2 hroom.2.1), State.entriesOf,
            htable, State.entriesOf]
        · rw [State.reserve_mem, hblock]
          simp only [State.handOn_mem, ← hmem, ← hclock]
          rfl

/-! ### Overflow at classification and at a commit (R33, R40 to R46) -/

/-- A block that meets an overflow goes to the queue (R28, R30). -/
theorem State.meetsOverflow.joins {s : State} {g : GroupId} {b : Block} {o : Overflow} (h : s.meetsOverflow g b o) :
    findEntry s.table b = none
      ∨ ∃ e, findEntry s.table b = some e ∧ e.staged = none ∧ e.durable ≠ some (s.group g).level := by
  rcases h with ⟨-, -, hnew | hlower⟩ | ⟨-, -, hnew, -⟩
  · exact .inl (findEntry_eq_none.2 hnew)
  · exact .inr hlower
  · exact .inl (findEntry_eq_none.2 hnew)

/-- A group with nothing queued and no hold is itself without them. -/
theorem Group.idle_eq {x : Group} (hqueue : x.queue = []) (hhold : x.hold = none) :
    { x with queue := [], hold := none } = x := by
  cases x
  simp only at hqueue hhold
  subst hqueue hhold
  rfl

/-- A write refused under ABORT takes its group into ROLLING_BACK, seen from the state in which it was classified (R45). -/
theorem State.rolledInto_of_overflow {s w t : State} {g : GroupId} {p : PortId} {x : Stats}
    (hgroup : w.group g = { s.group g with queue := [], hold := none, stats := x }) (hqueue : (s.group g).queue = [])
    (hother : ∀ q, q ≠ p → w.port q = s.port q) (hp : s.headStage p ≠ some (.held .unwinding))
    (h : w.rolledInto t g .overflow) : s.rolledInto t g .overflow := by
  obtain ⟨hstate, hclose, hcause, htimer, hhold, hconfig, hepoch, hvotes, hmarks, hlength, hstep, hbegun, hput, -, hheld⟩ := h
  rw [hgroup] at hconfig hepoch hvotes hmarks hlength hstep hbegun hput
  refine ⟨hstate, hclose, hcause, htimer, hhold, hconfig, hepoch, hvotes, hmarks, hlength, hstep, ?_, ?_,
    fun q r _ hq => ?_, fun q hq hin => ?_⟩
  · rw [hbegun, hqueue]
  · rw [hput, hqueue]
  · rw [hqueue] at hq
    cases hq
  · have hne : q ≠ p := fun heq => hp (heq ▸ hq)
    have hport := hother q hne
    exact hheld q ((State.headStage_of_port hport).trans hq) (by rw [hport]; exact hin)

/-- The write that the last vote brings to its step behind a held head meets an overflow (R44, R46). -/
theorem State.lastVote_overflow {s : State} {g : GroupId} {p c q : PortId} {a : Fin 8} {h : Hold} {rq : Request}
    {o : Overflow} (hhold : (s.group g).hold = some h) (hstep : (s.group g).step = none)
    (hqueue : (s.group g).queue = [c, q]) (hcq : c ≠ q) (hrq : s.head q = some rq)
    (hover : s.meetsOverflow g (blockOf rq.addr) o) :
    (s.lastVote g p a).startHeads g = (s.lastVote g p a).refuseOverflow g q o ∧ (s.lastVote g p a).head q = some rq := by
  have hheld : (s.group g).heldHead = [c] := by rw [Group.heldHead, hhold, hqueue]; rfl
  have hgroup := s.lastVote_group g p a
  have hcommitting : ((s.lastVote g p a).group g).state = .committing := by rw [hgroup]; rfl
  have hhead : (s.lastVote g p a).head q = some rq :=
    (State.lastVote_head fun hq => hcq (List.mem_singleton.1 (hheld ▸ hq)).symm).trans hrq
  have hrest : ((s.lastVote g p a).group g).queue = [q] := by
    rw [hgroup, Group.lastVote, hhold, hqueue]
    rfl
  refine ⟨?_, hhead⟩
  rw [State.startHeads, hrest]
  refine State.runQueue_of_refuse (rest := []) (Group.canStart_eq_true (.inr (.inr hcommitting)) (by rw [hgroup]; exact hstep)
    (by rw [hgroup]; rfl)) ?_ (Group.overflowAct_of_committing hcommitting)
  rw [State.headBlock_of_head hhead, State.startDecision_of_agrees (s := s) (u := s.lastVote g p a) rfl (by rw [hgroup]; exact ⟨rfl, rfl, rfl, rfl, rfl⟩)]
  exact State.startDecision_of_meetsOverflow hover

/-- Settles O24: at classification by the policy, and in COMMITTING whatever the policy. -/
theorem overflowFollowsThePolicy : Obligations.OverflowFollowsThePolicy := by
  refine ⟨fun s p r i g o h hreaches hwrite hstate hqueue hstep hhold hover => ?policy,
    fun s p c q a g h rc rq o hcommands hstate hlast hhold hstep hqueue hcq hrc hrq hover => ?commit⟩
  case policy =>
    have hexec := exec_classification_of_judged h hreaches hwrite hstate
    have hopen : (s.group g).state = .opened ∨ (s.group g).state = .voting := hstate.imp_right fun hs => hs.1
    obtain ⟨u, hu⟩ : ∃ u, u = s.tick.setHeadClass p (some i) (some g) := ⟨_, rfl⟩
    have hr : u.head p = some r := by rw [hu]; exact (s.tick.setHeadClass_head p _ _ p).trans h.1
    have hgroup : ∀ k, u.group k = s.group k := fun k => by rw [hu]; rfl
    have htable : u.table = s.table := by rw [hu]; rfl
    have hmem : u.mem = s.mem := by rw [hu]; rfl
    have hother : ∀ q, q ≠ p → u.port q = s.port q := fun q hq => by
      rw [hu]
      exact s.tick.setHeadClass_other p _ _ hq
    have hjudge : u.judge g p = (u.enqueue g p).runQueue g [p] := by
      rw [State.judge, State.judgeTo_of_joins (State.headBlock_of_head hr) (by rw [htable, hgroup]; exact hover.joins),
        State.joinQueue_of_empty (hgroup g ▸ hqueue)]
    have hcan := State.enqueue_canStart (p := p) (hgroup g ▸ hopen) (hgroup g ▸ hstep) (hgroup g ▸ hhold)
    have hdecision : (u.enqueue g p).startDecision g ((u.enqueue g p).headBlock p) = .overflow o := by
      rw [State.enqueue_headBlock hr, State.enqueue_startDecision,
        State.startDecision_of_agrees htable (by rw [hgroup]; exact ⟨rfl, rfl, rfl, rfl, rfl⟩)]
      exact State.startDecision_of_meetsOverflow hover
    have hqueued : (u.enqueue g p).group g = { s.group g with queue := [p] } := by
      rw [State.enqueue_group, hgroup, hqueue]
      rfl
    have hact := Group.overflowAct_of_policy (x := (u.enqueue g p).group g) (by rw [hqueued]; exact hopen)
    have henqueued : s.othersKept (u.enqueue g p) g := fun k hk => (u.othersKept_enqueue g p k hk).trans (hgroup k)
    have hhead := u.enqueue_head g p hr
    have hrefused := reason_of_pair ((u.enqueue g p).refuseOverflow_refusal g p o hhead)
    have hleft : ((u.enqueue g p).refuseOverflow g p o).group g
        = { s.group g with queue := [], hold := none, stats := (s.group g).stats.addOverflow } := by
      rw [State.refuseOverflow_group, hqueued]
      rfl
    rw [← hu, hjudge] at hexec
    refine ⟨_, hexec, ?_⟩
    cases hpolicy : (s.group g).config.policy with
    | refuse =>
      rw [State.runQueue_of_refuse hcan hdecision (by rw [hact, hqueued, hpolicy]), State.runQueue_nil]
      refine ⟨by rw [State.refuseOverflow_table]; exact htable, fun k hk =>
        ((u.enqueue g p).othersKept_refuseOverflow g p o k hk).trans (henqueued k hk), hrefused, ?_, ?_⟩
      · rw [hleft]
        conv_rhs => rw [← Group.idle_eq hqueue hhold]
        rfl
      · rw [State.refuseOverflow_mem]
        exact hmem
    | hold =>
      have hgroups := (u.enqueue g p).beginHold_groups g p o
      rw [State.runQueue_of_hold hcan hdecision (by rw [hact, hqueued, hpolicy])]
      refine ⟨htable, fun k hk => (State.othersKept_of_groups hgroups k hk).trans (henqueued k hk),
        (u.enqueue g p).beginHold_headStage g p o hhead, ?_, hmem, ?_⟩
      · rw [State.group_of_groups hgroups, hqueued, hu]
        rfl
      · rw [hu]
        rfl
    | abort =>
      obtain ⟨v, hv⟩ : ∃ v, v = (u.enqueue g p).refuseOverflow g p o := ⟨_, rfl⟩
      have habort : (u.enqueue g p).runQueue g [p] = v.enterRollingBack g .overflow := by
        rw [State.runQueue_of_abort hcan hdecision (by rw [hact, hqueued, hpolicy]), ← hv]
        exact State.abortCause_of_abortable _ _ (by rw [hv, hleft]; exact hopen) _
      rw [habort]
      rw [← hv] at hrefused hleft
      refine ⟨?_, fun k hk => ?_, ?_, ?_, ?_⟩
      · rw [State.enterRollingBack_table, hv, State.refuseOverflow_table]
        exact htable
      · rw [State.othersKept_enterRollingBack v g _ k hk, hv]
        exact ((u.enqueue g p).othersKept_refuseOverflow g p o k hk).trans (henqueued k hk)
      · rw [State.enterRollingBack_refusal]
        exact hrefused
      · rw [State.enterRollingBack_stats, hleft]
        rfl
      · refine State.rolledInto_of_overflow hleft hqueue (p := p) (fun q hq => ?_) ?_ (v.rolledInto_enterRollingBack g _)
        · rw [hv, State.refuseOverflow_other _ _ _ _ hq, State.enqueue_other _ _ _ hq, hother q hq]
        · rw [State.headStage_of_head h.1, h.2]
          nofun
  case commit =>
    obtain ⟨hstart, hhead⟩ := State.lastVote_overflow (s := s.tick) (p := p) (a := a) hhold hstep hqueue hcq hrq hover
    obtain ⟨w, hw⟩ : ∃ w, w = s.tick.lastVote g p a := ⟨_, rfl⟩
    have hgroup : w.group g = { s.group g with
        state := .committing, voteSet := (s.group g).config.participants, voteTimer := none, queue := [q], hold := none } := by
      rw [hw, State.lastVote_group, State.tick_group, Group.lastVote, hhold, hqueue, hlast]
      rfl
    have hothers : s.othersKept w g := by rw [hw]; exact s.tick.othersKept_lastVote g p a
    have hleft : (w.refuseOverflow g q o).group g = { s.group g with
        state := .committing, voteSet := (s.group g).config.participants, voteTimer := none, queue := [], hold := none,
        stats := (s.group g).stats.addOverflow } := by
      rw [State.refuseOverflow_group, hgroup]
      rfl
    have hrest := State.drainCheck_committing_rest (s := w.refuseOverflow g q o) (g := g) (by rw [hleft])
    have hdrain := State.drainCheck_committing_mem (u := s) (s := w.refuseOverflow g q o) (g := g) (by rw [hleft])
      (.inl (by rw [hleft])) (by rw [State.refuseOverflow_mem, hw]; rfl)
      (by rw [State.refuseOverflow, State.refuseHead_clock, hw]; rfl) (by rw [hleft]) (by rw [hleft])
    have hport : ∀ k, ((w.refuseOverflow g q o).drainCheck g).port k = (w.refuseOverflow g q o).port k := fun k => by
      rw [hrest]
      rfl
    rw [← hw] at hstart hhead
    refine ⟨_, (exec_voteCommit hcommands a).trans (congrArg Host.Outcome.next
      ((State.voteCommit_of_taken (s := s.tick) hstate a).trans (State.takeVote_of_last (s := s.tick) hlast a))), ?_⟩
    rw [← hw, hstart]
    refine ⟨?_, ?_, ?_, fun k hk => ?_, ?_, ?_⟩
    · rw [hport]
      exact reason_of_pair (w.refuseOverflow_refusal g q o hhead)
    · rw [State.headStage_of_port ((hport c).trans (w.refuseOverflow_other g q o hcq)), hw]
      exact State.lastVote_headStage (s := s.tick) hrc (by
        rw [Group.heldHead, State.tick_group, hhold, hqueue]
        exact List.mem_singleton.2 rfl)
    · rw [hrest]
      exact hleft
    · rw [hrest]
      exact (w.othersKept_refuseOverflow g q o k hk).trans (hothers k hk)
    · rw [hrest, State.refuseOverflow_table, hw]
      rfl
    · rw [hdrain, hleft]
      simp only [hstep, ne_eq, not_true_eq_false, false_or]

end Sys2Proof.Machine
end

section
/-! Held heads that retake their check (R41, R43): whose turn it is, what a retake leaves alone, and the entry that a pop frees. -/

namespace Sys2Proof.Machine

/-! ### Whose turn it is (R43) -/

theorem State.mem_heldGroups {s : State} {g : GroupId} : g ∈ s.heldGroups ↔ (s.group g).hold ≠ none := by
  rw [State.heldGroups, List.mem_insertionSort, List.mem_filter]
  simp [mem_fourIds, Option.isSome_iff_ne_none]

theorem State.heldGroups_nodup (s : State) : s.heldGroups.Nodup :=
  ((List.perm_insertionSort _ _).nodup_iff).2 (List.Nodup.filter _ (by decide))

/-- The group held longest comes first. -/
theorem State.heldGroups_eq_cons {s : State} {k : GroupId} (hk : (s.group k).hold ≠ none)
    (holdest : ∀ j, j ≠ k → (s.group j).hold ≠ none → (s.group k).holdSince < (s.group j).holdSince) :
    ∃ rest, s.heldGroups = k :: rest ∧ k ∉ rest := by
  have hnodup := s.heldGroups_nodup
  have hmem := State.mem_heldGroups.2 hk
  have hsorted : s.heldGroups.Pairwise (fun g k => (s.group g).holdSince ≤ (s.group k).holdSince) := by
    have : Std.Total (fun g k : GroupId => (s.group g).holdSince ≤ (s.group k).holdSince) := ⟨fun _ _ => Nat.le_total _ _⟩
    have : IsTrans GroupId (fun g k => (s.group g).holdSince ≤ (s.group k).holdSince) := ⟨fun _ _ _ => Nat.le_trans⟩
    exact List.pairwise_insertionSort _ _
  cases hlist : s.heldGroups with
  | nil =>
    rw [hlist] at hmem
    cases hmem
  | cons x rest =>
    rw [hlist] at hmem hnodup hsorted
    obtain ⟨hfirst, -⟩ := List.pairwise_cons.1 hsorted
    have hx : x = k := by
      by_contra hne
      have hle := hfirst k ((List.mem_cons.1 hmem).resolve_left fun heq => hne heq.symm)
      have hlt := holdest x hne (State.mem_heldGroups.1 (hlist ▸ List.mem_cons_self))
      omega
    subst hx
    exact ⟨rest, rfl, (List.nodup_cons.1 hnodup).1⟩

/-! ### What a retake leaves alone -/

/-- From `s` to `t` a head in a journal queue and its port stay as they are where the port is not in the queue of group `j`,
and so does every other group. -/
def State.leavesQueued (j : GroupId) (p : PortId) (s t : State) : Prop :=
  s.headStage p = some .inQueue → p ∉ (s.group j).queue →
    t.port p = s.port p ∧ p ∉ (t.group j).queue ∧ s.othersKept t j

section
variable {j : GroupId} {p : PortId}

theorem State.leavesQueued_refl (s : State) : s.leavesQueued j p s := fun _ hp => ⟨rfl, hp, fun _ _ => rfl⟩

theorem State.leavesQueued_trans {a b c : State} (hab : a.leavesQueued j p b) (hbc : b.leavesQueued j p c) :
    a.leavesQueued j p c := fun hstage hp => by
  obtain ⟨hport, hp', hothers⟩ := hab hstage hp
  obtain ⟨hport', hp'', hothers'⟩ := hbc ((State.headStage_of_port hport).trans hstage) hp'
  exact ⟨hport'.trans hport, hp'', fun k hk => (hothers' k hk).trans (hothers k hk)⟩

theorem not_mem_tail {l : List PortId} (h : p ∉ l) : p ∉ l.tail := fun hp => h (List.mem_of_mem_tail hp)

theorem State.leavesQueued_issue {q : PortId} (hq : p ≠ q) (s : State) :
    s.leavesQueued j p ((s.modGroup j Group.headLeaves).issueHead q (some j)) := fun _ hp => by
  refine ⟨State.issueHead_other _ hq, ?_, fun k hk => ?_⟩
  · rw [State.issueHead_group, State.modGroup_group_self]
    exact not_mem_tail hp
  · rw [State.issueHead_group, State.modGroup_group, if_neg hk]

theorem State.leavesQueued_reserve {q : PortId} (hq : p ≠ q) (s : State) : s.leavesQueued j p (s.reserve j q) :=
  fun _ hp => ⟨s.reserve_port_other j q hq, by rw [State.reserve_group]; exact hp, s.othersKept_reserve j q⟩

theorem State.leavesQueued_refuse {q : PortId} (hq : p ≠ q) (s : State) (o : Overflow) :
    s.leavesQueued j p (s.refuseOverflow j q o) :=
  fun _ hp => ⟨s.refuseOverflow_other j q o hq, by rw [State.refuseOverflow_group]; exact not_mem_tail hp,
    s.othersKept_refuseOverflow j q o⟩

theorem State.leavesQueued_hold {q : PortId} (hq : p ≠ q) (s : State) (o : Overflow) :
    s.leavesQueued j p (s.beginHold j q o) := fun _ hp =>
  ⟨(s.stageHead_port q _ p).trans (if_neg hq), by rw [State.group_of_groups (s.beginHold_groups j q o)]; exact hp,
    State.othersKept_of_groups (s.beginHold_groups j q o)⟩

/-- The entry to ROLLING_BACK holds no head that stands in another queue. -/
theorem State.leavesQueued_enterRollingBack (s : State) (c : CloseCause) : s.leavesQueued j p (s.enterRollingBack j c) :=
  fun hstage hp => by
    have hrolled : p ∉ s.rolledPorts j := by
      intro hmem
      rcases List.mem_append.1 hmem with hmem | hmem
      · exact hp ((Group.mem_unbegun _).1 hmem).1
      · rw [State.mem_heldPorts, State.heldByState_eq, hstage] at hmem
        cases hmem
    refine ⟨?_, ?_, s.othersKept_enterRollingBack j c⟩
    · rw [State.enterRollingBack_port, State.stageHeads_port, stagesOf_of_not_mem hrolled]
      rfl
    · obtain ⟨-, -, -, hgroup⟩ := s.enterRollingBack_frame j c
      obtain ⟨-, -, -, -, -, -, -, -, -, -, -, hqueue, -⟩ := Group.kept_of_atPhase hgroup
      rw [hqueue, show ((s.group j).rolled c).queue = (s.group j).begun from rfl, Group.begun_eq]
      exact fun hmem => hp (List.mem_filter.1 hmem).1

theorem State.leavesQueued_abortCause (s : State) (c : CloseCause) : s.leavesQueued j p (s.abortCause j c) := by
  rcases s.abortCause_cases j c with h | h
  · rw [h]
    exact s.leavesQueued_refl
  · rw [h]
    exact s.leavesQueued_enterRollingBack c

theorem State.leavesQueued_runQueue {q : List PortId} (hq : p ∉ q) (s : State) : s.leavesQueued j p (s.runQueue j q) := by
  have hne : ∀ r ∈ q, p ≠ r := fun r hr heq => hq (heq ▸ hr)
  exact State.runQueue_rel State.leavesQueued_refl State.leavesQueued_trans
    (fun s r hr => s.leavesQueued_issue (hne r hr)) (fun s r hr => s.leavesQueued_reserve (hne r hr))
    (fun s r hr o => s.leavesQueued_refuse (hne r hr) o) (fun s r hr o _ => s.leavesQueued_hold (hne r hr) o)
    (fun s r hr o _ => State.leavesQueued_trans (s.leavesQueued_refuse (hne r hr) o) (State.leavesQueued_abortCause _ _)) s

theorem State.leavesQueued_startHeads (s : State) : s.leavesQueued j p (s.startHeads j) := fun hstage hp =>
  s.leavesQueued_runQueue hp hstage hp

/-- A retake of a group's held head leaves a head in another queue alone. -/
theorem State.leavesQueued_retakeHead (s : State) : s.leavesQueued j p (s.retakeHead j) := by
  unfold State.retakeHead
  split
  next h q rest hhold hqueue =>
    intro hstage hp
    have hq : p ≠ q := fun heq => hp (by rw [hqueue, heq]; exact List.mem_cons_self)
    revert hstage hp
    change s.leavesQueued j p _
    split
    · exact State.leavesQueued_trans (s.leavesQueued_issue hq) (State.leavesQueued_startHeads _)
    · exact s.leavesQueued_reserve hq
    next o hd =>
      intro _ hp
      refine ⟨(State.stageHead_port _ q _ p).trans (if_neg hq), ?_, State.othersKept_of_groups rfl⟩
      have hgroup : ((s.modGroup j fun x => { x with hold := some { h with reason := o } }).holdHead q (.overflow o)).group j
          = { s.group j with hold := some { h with reason := o } } := State.group_of_groups (v := s.groups) rfl
      rw [hgroup]
      exact hp
  next => exact s.leavesQueued_refl

end

/-- The other groups' retakes leave a group whose head took up its step alone. -/
theorem State.foldl_retakeHead_leaves {k : GroupId} {p : PortId} {js : List GroupId} (hk : k ∉ js) (s : State)
    (hstage : s.headStage p = some .inQueue) (hp : ∀ j, j ≠ k → p ∉ (s.group j).queue) :
    (js.foldl (fun s j => s.retakeHead j) s).group k = s.group k
      ∧ (js.foldl (fun s j => s.retakeHead j) s).headStage p = some .inQueue := by
  induction js generalizing s with
  | nil => exact ⟨rfl, hstage⟩
  | cons j js ih =>
    obtain ⟨hkj, hkjs⟩ : k ≠ j ∧ k ∉ js := by simpa using hk
    obtain ⟨hport, hpj, hothers⟩ := s.leavesQueued_retakeHead hstage (hp j hkj.symm)
    obtain ⟨hgroup, hlast⟩ := ih hkjs (s.retakeHead j) ((State.headStage_of_port hport).trans hstage) fun i hi => by
      by_cases hij : i = j
      · rw [hij]
        exact hpj
      · rw [hothers i hij]
        exact hp i hi
    exact ⟨hgroup.trans (hothers k hkj), hlast⟩

/-! ### A pop that frees an entry of a full table (R41, R43, R57) -/

theorem length_dropEntry_lt {l : List TrackEntry} {b : Block} {e : TrackEntry} (h : findEntry l b = some e) :
    (dropEntry b l).length < l.length :=
  List.length_filter_lt_length_iff_exists.2 ⟨e, findEntry_mem h, by simp [findEntry_block h]⟩

/-- What the end of a pop leaves alone while a record is left, before the held heads retake their checks. -/
theorem State.popped_frame {s : State} {g : GroupId} {b : Block} (h : 2 ≤ (s.group g).journalLength) :
    (∀ p, ((s.recordPopped g b none).nextPop g).port p = s.port p)
      ∧ (((s.recordPopped g b none).nextPop g).group g).queue = (s.group g).queue := by
  have hgroup := s.recordPopped_group g b none
  have hrecords : ((s.recordPopped g b none).group g).journalLength ≠ 0 := by
    have hlength : ((s.recordPopped g b none).group g).journalLength = (s.group g).journalLength - 1 := by
      rw [hgroup]
      rfl
    omega
  rw [State.nextPop_of_record hrecords, State.handOn_group, State.modGroup_group_self, hgroup]
  refine ⟨fun _ => rfl, ?_⟩
  obtain ⟨-, -, -, -, -, -, -, -, -, -, -, hnext, -⟩ := Group.kept_of_atPhase (x := (s.group g).popped)
    (.inr ⟨.pop, some (1 + (s.group g).popped.journalLength), rfl⟩)
  obtain ⟨-, -, -, -, -, -, -, -, -, -, -, hpopped, -⟩ := Group.kept_of_atPhase (x := s.group g) (.inr ⟨.pop, none, rfl⟩)
  exact hnext.trans hpopped

/-- Settles O44: the group held longest retakes its check first, and the retakes behind it leave its step alone. -/
theorem freedEntryServesTheOldestHold : Obligations.FreedEntryServesTheOldestHold := by
  intro s i g k b e data h p r hown _ hlength _ hfull he _ hkg hhold holdest hqueue hr hstage hp hnew hquota hroom
  have hpg := hp g hkg.symm
  obtain ⟨hothers, htable, -, hholdg⟩ := ((s.placeFreed i).recordPopped g b none).nextPop_frame g
  obtain ⟨hports, hqueueg⟩ := State.popped_frame (s := s.placeFreed i) (b := b) (g := g) hlength
  obtain ⟨u, hu⟩ : ∃ u, u = ((s.placeFreed i).recordPopped g b none).nextPop g := ⟨_, rfl⟩
  rw [← hu] at hothers htable hholdg hports hqueueg
  have hothers : s.othersKept u g := State.othersKept_trans ((s.placeFreed i).othersKept_recordPopped g b none) hothers
  have hgroup : u.group k = s.group k := hothers k hkg
  have htable : u.table = dropEntry b s.table := htable
  have hheld : ∀ j, (u.group j).hold = (s.group j).hold := fun j => by
    by_cases hj : j = g
    · rw [hj, hholdg, State.recordPopped_group]
      exact Group.hold_popped _
    · rw [hothers j hj]
  have hsince : ∀ j, (u.group j).holdSince = (s.group j).holdSince := fun j => by
    rw [Group.holdSince, hheld, Group.holdSince]
  obtain ⟨rest, hgroups, hkrest⟩ := State.heldGroups_eq_cons (s := u) (k := k) (by rw [hheld, hhold]; nofun) fun j hj hne => by
    rw [hheld] at hne
    obtain ⟨h', hh'⟩ := Option.ne_none_iff_exists'.1 hne
    rw [hsince, hsince, Group.holdSince, Group.holdSince, hhold, hh']
    exact holdest j h' hj hh'
  have hhead : u.head p = some r := (State.head_of_port (hports p)).trans hr
  have hblock : u.headBlock p = blockOf r.addr := State.headBlock_of_head hhead
  have hfind : findEntry u.table (blockOf r.addr) = none := by
    rw [htable]
    exact findEntry_eq_none.2 fun x hx => hnew x (List.mem_of_mem_filter hx)
  have htakes : u.takesStep k (blockOf r.addr) (u.group k).journalLength none := by
    rw [hgroup]
    refine ⟨hgroup ▸ hroom, .inl ⟨hfind, rfl, ?_, ?_⟩⟩
    · rw [htable]
      exact hfull ▸ length_dropEntry_lt he
    · rw [State.entriesOf, htable, hgroup]
      exact (List.filter_sublist.countP_le).trans_lt hquota
  have hretake : u.retakeHead k = u.reserve k p := by
    rw [State.retakeHead, hgroup, hhold, hqueue]
    simp only [hblock, (State.startDecision_of_takesStep htakes).1]
  have hall : u.retakeAll = rest.foldl (fun s j => s.retakeHead j) (u.reserve k p) := by
    rw [State.retakeAll, hgroups, List.foldl_cons, hretake]
  have hqueues : ∀ j, j ≠ k → p ∉ ((u.reserve k p).group j).queue := fun j hj => by
    rw [u.othersKept_reserve k p j hj]
    by_cases hjg : j = g
    · rw [hjg, hqueueg]
      exact hpg
    · rw [hothers j hjg]
      exact hp j hj
  obtain ⟨hlast, hlastStage⟩ := State.foldl_retakeHead_leaves hkrest (u.reserve k p) (u.reserve_headStage k p hhead) hqueues
  have hdone : (s.placeFreed i).popDone g (.popClear b none) = u.retakeAll := by rw [hu]; rfl
  refine ⟨_, exec_popComplete_ok data hown, ?_, ?_⟩
  · rw [hdone, hall, hlast, State.reserve_group, hblock, hgroup, (State.startDecision_of_takesStep htakes).2]
    rfl
  · rw [hdone, hall, hlastStage]

end Sys2Proof.Machine
end

section
/-! The end of a journaling step (R36 to R39): the entry of its block, the release of the waiting list, and the step's own write. -/

namespace Sys2Proof.Machine

/-! ### An entry put in the place of the old one -/

theorem findEntry_putEntry_at {e : TrackEntry} {b : Block} (h : e.block = b) (l : List TrackEntry) :
    findEntry (putEntry e l) b = some e := h ▸ findEntry_putEntry_self e l

theorem countP_putEntry_of_found {e f : TrackEntry} {l : List TrackEntry} (h : sortedTable l)
    (hf : findEntry l e.block = some f) {k : TrackEntry → Bool} (hk : k e = k f) :
    (putEntry e l).countP k = l.countP k := by
  induction l with
  | nil => cases hf
  | cons x l ih =>
    obtain ⟨hx, hl⟩ := List.pairwise_cons.1 h
    rw [findEntry_cons] at hf
    rw [putEntry_cons]
    by_cases heq : x.block = e.block
    · rw [if_pos heq] at hf
      cases hf
      rw [if_neg (by rw [heq]; exact BitVec.lt_irrefl _), if_pos heq.symm, List.countP_cons, List.countP_cons, hk]
    · rw [if_neg heq] at hf
      have hlt : x.block < e.block := findEntry_block hf ▸ hx f (findEntry_mem hf)
      rw [if_neg fun hgt => BitVec.lt_irrefl _ (BitVec.lt_trans hlt hgt), if_neg fun hsame => heq hsame.symm, List.countP_cons,
        List.countP_cons, ih hl hf]

/-! ### The state once a record is acknowledged (R36) -/

/-- The state once the record of the step is in the journal, before its write and its waiting list go on. -/
def State.recorded (s : State) (g : GroupId) (st : JournalStep) : State :=
  (s.setTable (acknowledgeEntry st.block st.level s.table)).modGroup g Group.recordDurable

section
variable (s : State) (g : GroupId) (st : JournalStep)

theorem State.recordAcknowledged_eq : s.recordAcknowledged g st
    = (((s.recorded g st).settleStepWrite g st.owner).releaseWaiters g (waitersOf s.table st.block)).drainCheck g := rfl

theorem State.recorded_group : (s.recorded g st).group g = { s.group g with
    journalLength := (s.group g).journalLength + 1, step := none, stats := (s.group g).stats.addRecord } :=
  State.modGroup_group_self (s.setTable (acknowledgeEntry st.block st.level s.table)) g Group.recordDurable

theorem State.othersKept_recorded : s.othersKept (s.recorded g st) g := State.othersKept_of_groups rfl

theorem Stats.addRecord_eq (x : Stats) :
    x.addRecord = { x with recordsAppended := min 4294967295 (x.recordsAppended + 1) } := rfl

variable {s st} {e : TrackEntry}

theorem acknowledgeEntry_of_found {l : List TrackEntry} {b : Block} (h : findEntry l b = some e) (n : Nat) :
    acknowledgeEntry b n l = putEntry (e.acknowledged n) l := by
  rw [acknowledgeEntry, h]

theorem State.recorded_findEntry_self (h : findEntry s.table st.block = some e) :
    findEntry (s.recorded g st).table st.block = some (e.acknowledged st.level) := by
  have hblock : e.block = st.block := findEntry_block h
  have hput := findEntry_putEntry_at (e := e.acknowledged st.level) hblock s.table
  rwa [← acknowledgeEntry_of_found h] at hput

theorem State.recorded_findEntry_other {b : Block} (hb : b ≠ st.block) :
    findEntry (s.recorded g st).table b = findEntry s.table b := by
  change findEntry (acknowledgeEntry st.block st.level s.table) b = _
  cases h : findEntry s.table st.block with
  | none => rw [acknowledgeEntry, h]
  | some e =>
    have hblock : e.block = st.block := findEntry_block h
    rw [acknowledgeEntry_of_found h]
    refine findEntry_putEntry_of_ne ?_ _
    rw [show (e.acknowledged st.level).block = st.block from hblock]
    exact hb

/-- The record's acknowledgement takes no entry and gives none back. -/
theorem State.recorded_table_counts (hsorted : s.tableSorted) (h : findEntry s.table st.block = some e) :
    (s.recorded g st).table.length = s.table.length ∧ ∀ k, (s.recorded g st).entriesOf k = s.entriesOf k := by
  have hself : e.block = st.block := findEntry_block h
  have hblock : findEntry s.table (e.acknowledged st.level).block = some e := by
    rw [show (e.acknowledged st.level).block = st.block from hself, h]
  have htable : (s.recorded g st).table = putEntry (e.acknowledged st.level) s.table := acknowledgeEntry_of_found h _
  rw [htable]
  refine ⟨length_putEntry_of_found hsorted hblock, fun k => ?_⟩
  rw [State.entriesOf, htable]
  exact countP_putEntry_of_found hsorted hblock rfl

end

theorem waitersOf_of_found {l : List TrackEntry} {b : Block} {e : TrackEntry} (h : findEntry l b = some e) :
    waitersOf l b = e.waiters := by
  rw [waitersOf, h]

/-! ### The release of a waiting list (R27) -/

/-- The stage that the release gives a write in a state that takes no writes (R11, R27). -/
def GroupState.releaseStage (st : GroupState) : Stage :=
  match st.holding with
  | some why => .held why
  | none => .classifying

theorem GroupState.releaseStage_undecided (st : GroupState) : st.releaseStage.undecided = true := by
  cases st <;> rfl

section
variable {s : State} {g : GroupId} {p : PortId}

theorem State.releaseTo_of_judging (h : (s.group g).state = .opened ∨ (s.group g).state = .voting) (joined : State) :
    s.releaseTo g p joined = s.judgeTo g p joined := by
  unfold State.releaseTo
  rcases h with h | h <;> rw [h]

theorem State.releaseTo_of_not_judging (h : (s.group g).state ≠ .opened ∧ (s.group g).state ≠ .voting) (joined : State) :
    s.releaseTo g p joined = s.stageHead p (s.group g).state.releaseStage := by
  obtain ⟨hopened, hvoting⟩ := h
  unfold State.releaseTo
  cases hstate : (s.group g).state with
  | opened => exact absurd hstate hopened
  | voting => exact absurd hstate hvoting
  | _ => rfl

/-- A release, of either kind, in a state that takes no writes stages every head. -/
theorem State.foldl_release_of_not_judging {release : State → PortId → State} (s : State) (g : GroupId)
    (hrelease : ∀ u : State, (u.group g).state = (s.group g).state → ∀ p,
      release u p = u.stageHead p (s.group g).state.releaseStage) (ws : List PortId) :
    ws.foldl release s = s.stageHeads (stagesOf ws (s.group g).state.releaseStage) := by
  rw [← s.foldl_stageHead ws (GroupState.releaseStage_undecided _)]
  suffices h : ∀ u : State, (u.group g).state = (s.group g).state →
      ws.foldl release u = ws.foldl (fun u p => u.stageHead p (s.group g).state.releaseStage) u from h s rfl
  induction ws with
  | nil => exact fun _ _ => rfl
  | cons p ws ih =>
    intro u hu
    rw [List.foldl_cons, List.foldl_cons, hrelease u hu]
    exact ih _ hu

theorem State.releaseWaiters_of_not_judging (h : (s.group g).state ≠ .opened ∧ (s.group g).state ≠ .voting)
    (ws : List PortId) : s.releaseWaiters g ws = s.stageHeads (stagesOf ws (s.group g).state.releaseStage) :=
  State.foldl_release_of_not_judging s g (fun u hu p => by
    rw [← hu]
    exact State.releaseTo_of_not_judging (by rw [hu]; exact h) _) ws

theorem State.queueWaiters_of_not_judging (h : (s.group g).state ≠ .opened ∧ (s.group g).state ≠ .voting)
    (ws : List PortId) : s.queueWaiters g ws = s.stageHeads (stagesOf ws (s.group g).state.releaseStage) :=
  State.foldl_release_of_not_judging s g (fun u hu p => by
    rw [← hu]
    exact State.releaseTo_of_not_judging (by rw [hu]; exact h) _) ws

end

/-! ### Several heads issued one after the other (R29) -/

/-- The data write of the head of port `q` as it is handed on at this event. -/
def State.issuedTxns (s : State) (g : GroupId) (q : PortId) : List Txn :=
  (s.head q).toList.map fun r => { r.txn q (some g) with stamp := s.clock }

/-- The heads of the ports issued in their order. -/
def State.issueAll (s : State) (g : GroupId) (ws : List PortId) : State := ws.foldl (fun s q => s.issueHead q (some g)) s

section
variable {s u : State} {g : GroupId} {p q : PortId}

theorem State.issuedTxns_eq_dataWrites (hhead : u.head q = s.head q) (hclock : u.clock = s.clock + 1) :
    u.issuedTxns g q = s.dataWrites g q := by
  rw [State.issuedTxns, hhead, hclock]
  rfl

theorem State.issueHead_mem (s : State) (g : GroupId) (q : PortId) : (s.issueHead q (some g)).mem
    = { s.mem with waiting := s.mem.waiting ++ s.issuedTxns g q } := by
  cases h : s.head q with
  | none =>
    rw [State.issueHead, h, State.issuedTxns, h]
    simp
  | some r =>
    rw [State.issueHead_rest h, State.issuedTxns, h]
    rfl

@[simp] theorem State.issueHead_clock (s : State) (q : PortId) (d : Option GroupId) :
    (s.issueHead q d).clock = s.clock := by
  cases h : s.head q with
  | none => rw [State.issueHead, h]
  | some r => rw [State.issueHead_rest h]

theorem State.issueAll_cons (s : State) (g : GroupId) (q : PortId) (ws : List PortId) :
    s.issueAll g (q :: ws) = (s.issueHead q (some g)).issueAll g ws := rfl

/-- Issues move ports and the memory port alone. -/
theorem State.issueAll_rest (s : State) (g : GroupId) (ws : List PortId) : (s.issueAll g ws).groups = s.groups
    ∧ (s.issueAll g ws).table = s.table := by
  induction ws generalizing s with
  | nil => exact ⟨rfl, rfl⟩
  | cons q ws ih =>
    obtain ⟨hgroups, htable⟩ := ih (s.issueHead q (some g))
    rw [State.issueAll_cons]
    exact ⟨hgroups.trans (s.issueHead_groups q _), htable.trans (s.issueHead_table q _)⟩

theorem State.issueAll_port_other {ws : List PortId} (h : p ∉ ws) (s : State) : (s.issueAll g ws).port p = s.port p := by
  induction ws generalizing s with
  | nil => rfl
  | cons q ws ih =>
    obtain ⟨hpq, hws⟩ : p ≠ q ∧ p ∉ ws := by simpa using h
    rw [State.issueAll_cons, ih hws, State.issueHead_other _ hpq]

theorem State.issueAll_mem {ws : List PortId} (h : ws.Nodup) (s : State) :
    (s.issueAll g ws).mem = { s.mem with waiting := s.mem.waiting ++ ws.flatMap (s.issuedTxns g) } := by
  induction ws generalizing s with
  | nil => simp [State.issueAll]
  | cons q ws ih =>
    obtain ⟨hq, hws⟩ := List.nodup_cons.1 h
    have hlater : ws.flatMap ((s.issueHead q (some g)).issuedTxns g) = ws.flatMap (s.issuedTxns g) :=
      List.flatMap_congr fun r hr => by
        rw [State.issuedTxns, State.head_of_port (State.issueHead_other _ (ne_of_mem_of_not_mem hr hq)),
          State.issueHead_clock, State.issuedTxns]
    rw [State.issueAll_cons, ih hws, hlater, State.issueHead_mem, List.flatMap_cons, ← List.append_assoc]

/-- Issues are seen the same from states with the same port. -/
theorem State.headIssued_of_ports {t v : State} {r : Request} (hs : u.port p = s.port p) (ht : v.port p = t.port p)
    (h : u.headIssued t p r) : s.headIssued v p r := by
  simp only [State.headIssued, State.queueAround, hs] at h
  intro older rest haround
  rw [ht]
  exact h older rest haround

theorem State.headIssued_issueAll {ws : List PortId} (h : ws.Nodup) {r : Request} (hq : q ∈ ws) (s : State)
    (hr : s.head q = some r) : s.headIssued (s.issueAll g ws) q r := by
  induction ws generalizing s with
  | nil => cases hq
  | cons p ws ih =>
    obtain ⟨hp, hws⟩ := List.nodup_cons.1 h
    rw [State.issueAll_cons]
    by_cases hpq : q = p
    · subst hpq
      exact State.headIssued_of_ports rfl (State.issueAll_port_other hp _) (State.headIssued_issueHead hr (some g)).1
    · have hport := State.issueHead_other (s := s) (some g) hpq
      exact State.headIssued_of_ports hport rfl
        (ih hws ((List.mem_cons.1 hq).resolve_left hpq) _ ((State.head_of_port hport).trans hr))

/-- A list whose block is DURABLE at the group's level is issued whole (R27, R29). -/
theorem State.releaseWaiters_of_durable {ws : List PortId} {b : Block} {e : TrackEntry} (hnodup : ws.Nodup) (s : State)
    (hstate : (s.group g).state = .opened ∨ (s.group g).state = .voting) (hblock : ∀ q ∈ ws, s.headBlock q = b)
    (he : findEntry s.table b = some e) (hstaged : e.staged = none) (hdurable : e.durable = some (s.group g).level) :
    s.releaseWaiters g ws = s.issueAll g ws := by
  induction ws generalizing s with
  | nil => rfl
  | cons q ws ih =>
    obtain ⟨hq, hws⟩ := List.nodup_cons.1 hnodup
    have hfirst : s.releaseWaiter g q = s.issueHead q (some g) :=
      (State.releaseTo_of_judging hstate _).trans
        (State.judgeTo_of_durable (hblock q List.mem_cons_self) he hstaged hdurable _)
    have hgroup := s.issueHead_group q (some g) g
    rw [State.releaseWaiters, List.foldl_cons, hfirst, State.issueAll_cons]
    refine ih hws _ (by rw [hgroup]; exact hstate) (fun r hr => ?_) (by rw [State.issueHead_table]; exact he)
      (by rw [hgroup]; exact hdurable)
    rw [State.headBlock_of_port (State.issueHead_other _ (ne_of_mem_of_not_mem hr hq))]
    exact hblock r (List.mem_cons_of_mem q hr)

end

/-! ### A waiting list that waits again, or that joins the queue (R27, R39) -/

section
variable {g : GroupId} {b : Block}

theorem State.stageHead_headBlock (s : State) (p : PortId) {k : Stage} (hk : k.undecided = true) (q : PortId) :
    (s.stageHead p k).headBlock q = s.headBlock q := by
  rw [State.stageHead_eq, State.stageHeads_headBlock (keepsHeads_single p hk)]

/-- One stage taken at a port and then at several more. -/
theorem State.stageHeads_stageHead (s : State) (p : PortId) (ws : List PortId) {k : Stage} (hk : k.undecided = true) :
    (s.stageHead p k).stageHeads (stagesOf ws k) = s.stageHeads (stagesOf (p :: ws) k) := by
  rw [State.stageHead_eq, State.stageHeads_stageHeads (keepsHeads_single p hk)]
  exact congrArg s.stageHeads (funext fun q => stagesOf_cons_or p ws k q)

/-- A list whose block is journaled again waits again, in its order (R27). -/
theorem State.releaseWaiters_of_pending {ws : List PortId} {e : TrackEntry} (s : State)
    (hstate : (s.group g).state = .opened ∨ (s.group g).state = .voting) (hblock : ∀ q ∈ ws, s.headBlock q = b)
    (he : findEntry s.table b = some e) (hstaged : e.staged.isSome = true) :
    (s.releaseWaiters g ws).groups = s.groups ∧ (s.releaseWaiters g ws).mem = s.mem
      ∧ (s.releaseWaiters g ws).ports = (s.stageHeads (stagesOf ws .waitingOnEntry)).ports
      ∧ findEntry (s.releaseWaiters g ws).table b = some { e with waiters := e.waiters ++ ws }
      ∧ ∀ x, x ≠ b → findEntry (s.releaseWaiters g ws).table x = findEntry s.table x := by
  induction ws generalizing s e with
  | nil =>
    refine ⟨rfl, rfl, ?_, ?_, fun _ _ => rfl⟩
    · exact congrArg State.ports State.stageHeads_none.symm
    · rw [List.append_nil]
      exact he
  | cons q ws ih =>
    have hq := hblock q List.mem_cons_self
    have hfirst : s.releaseWaiter g q
        = (s.setTable (putEntry { e with waiters := e.waiters ++ [q] } s.table)).stageHead q .waitingOnEntry := by
      refine (State.releaseTo_of_judging hstate _).trans ((State.judgeTo_of_pending hq he hstaged _).trans ?_)
      rw [State.joinWaiting, hq, joinWaiters, he]
    have hself : e.block = b := findEntry_block he
    have hfound := findEntry_putEntry_at (e := { e with waiters := e.waiters ++ [q] }) hself s.table
    obtain ⟨hgroups, hmem, hports, hfind, hothers⟩ := ih
      ((s.setTable (putEntry { e with waiters := e.waiters ++ [q] } s.table)).stageHead q .waitingOnEntry) hstate
      (fun r hr => ((s.setTable _).stageHead_headBlock q rfl r).trans (hblock r (List.mem_cons_of_mem q hr))) hfound hstaged
    rw [State.releaseWaiters, List.foldl_cons, hfirst]
    refine ⟨hgroups, hmem, ?_, ?_, fun x hx => (hothers x hx).trans ?_⟩
    · refine hports.trans ?_
      rw [State.stageHeads_stageHead _ q ws rfl]
      rfl
    · refine hfind.trans ?_
      change some { e with waiters := e.waiters ++ [q] ++ ws } = _
      rw [List.append_assoc]
      rfl
    · exact findEntry_putEntry_of_ne (e := { e with waiters := e.waiters ++ [q] }) (fun heq => hx (heq.trans hself)) s.table

theorem State.modGroup_of_same {s : State} {f : Group → Group} (h : f (s.group g) = s.group g) : s.modGroup g f = s := by
  have hgroups : s.groups.set g (s.group g) = s.groups := Four.ext_get _ _ fun k => by
    by_cases hk : k = g
    · rw [hk, Four.get_set_self]
      rfl
    · rw [Four.get_set_ne _ _ hk]
  rw [State.modGroup, h, State.setGroup, hgroups]

theorem State.enqueue_enqueued (s : State) (p : PortId) (ws : List PortId) :
    ((s.enqueue g p).stageHeads (stagesOf ws .inQueue)).modGroup g (fun x => { x with queue := x.queue ++ ws })
      = (s.stageHeads (stagesOf (p :: ws) .inQueue)).modGroup g fun x => { x with queue := x.queue ++ p :: ws } := by
  rw [State.enqueue, State.modGroup_stageHeads, State.stageHeads_stageHead s p ws rfl, State.modGroup_modGroup]
  congr 1
  funext x
  rw [List.append_assoc]
  rfl

/-- The list of a failed step joins the queue in its order (R27, R39). -/
theorem State.queueWaiters_of_joins {ws : List PortId} (s : State)
    (hstate : (s.group g).state = .opened ∨ (s.group g).state = .voting) (hblock : ∀ q ∈ ws, s.headBlock q = b)
    (hjoins : findEntry s.table b = none
      ∨ ∃ e, findEntry s.table b = some e ∧ e.staged = none ∧ e.durable ≠ some (s.group g).level) :
    s.queueWaiters g ws
      = (s.stageHeads (stagesOf ws .inQueue)).modGroup g fun x => { x with queue := x.queue ++ ws } := by
  induction ws generalizing s with
  | nil =>
    have hnone : s.stageHeads (stagesOf [] .inQueue) = s := State.stageHeads_none
    rw [hnone]
    refine (State.modGroup_of_same ?_).symm
    rw [List.append_nil]
  | cons q ws ih =>
    have hfirst : s.queueWaiter g q = s.enqueue g q :=
      (State.releaseTo_of_judging hstate _).trans (State.judgeTo_of_joins (hblock q List.mem_cons_self) hjoins _)
    have hgroup := s.enqueue_group g q
    rw [State.queueWaiters, List.foldl_cons, hfirst, ← State.enqueue_enqueued]
    refine ih _ (by rw [hgroup]; exact hstate) (fun r hr => ?_) (by rw [hgroup]; exact hjoins)
    exact (s.stageHead_headBlock q rfl r).trans (hblock r (List.mem_cons_of_mem q hr))

end

/-! ### The step's own write as the first of its queue (R38) -/

/-- The step's own write, if its port still waits for it, issued as the head of the queue. -/
def State.ownerIssued (s : State) (g : GroupId) (owner : Option PortId) : State :=
  match owner with
  | none => s
  | some p => (s.modGroup g Group.headLeaves).issueHead p (some g)

section
variable {s : State} {g : GroupId} {owner : Option PortId} {rest : List PortId}

/-- A queue that begins with the step's write issues it and runs on. -/
theorem State.startHeads_of_owner (hqueue : (s.group g).queue = owner.toList ++ rest)
    (hcan : owner ≠ none → (s.group g).canStart = true)
    (hissue : ∀ p, owner = some p → s.startDecision g (s.headBlock p) = .issue) :
    s.startHeads g = (s.ownerIssued g owner).runQueue g rest := by
  rw [State.startHeads, hqueue]
  cases owner with
  | none => rfl
  | some p => exact State.runQueue_of_issue (hcan nofun) (hissue p rfl)

theorem State.ownerIssued_group (hqueue : (s.group g).queue = owner.toList ++ rest) (hhold : (s.group g).hold = none) :
    (s.ownerIssued g owner).group g = { s.group g with queue := rest } := by
  cases owner with
  | none =>
    have hsame : (s.group g).queue = rest := hqueue
    rw [← hsame]
    rfl
  | some p =>
    have hleft : (s.ownerIssued g (some p)).group g = (s.group g).headLeaves := by
      rw [State.ownerIssued, State.issueHead_group, State.modGroup_group_self]
    rw [hleft, Group.headLeaves, hqueue]
    conv_rhs => rw [← Group.with_hold_none hhold]
    rfl

theorem State.othersKept_ownerIssued (s : State) (g : GroupId) (owner : Option PortId) :
    s.othersKept (s.ownerIssued g owner) g := fun k hk => by
  cases owner with
  | none => rfl
  | some p => rw [State.ownerIssued, State.issueHead_group, State.modGroup_group, if_neg hk]

@[simp] theorem State.ownerIssued_table (s : State) (g : GroupId) (owner : Option PortId) :
    (s.ownerIssued g owner).table = s.table := by
  cases owner with
  | none => rfl
  | some p => rw [State.ownerIssued, State.issueHead_table, State.modGroup_table]

@[simp] theorem State.ownerIssued_clock (s : State) (g : GroupId) (owner : Option PortId) :
    (s.ownerIssued g owner).clock = s.clock := by
  cases owner with
  | none => rfl
  | some p => rw [State.ownerIssued, State.issueHead_clock, State.modGroup_clock]

theorem State.ownerIssued_other (s : State) (g : GroupId) {q : PortId} (hq : owner ≠ some q) :
    (s.ownerIssued g owner).port q = s.port q := by
  cases owner with
  | none => rfl
  | some p =>
    refine (State.issueHead_other _ fun heq => hq (by rw [heq])).trans ?_
    rw [State.modGroup_port]

theorem State.ownerIssued_mem (s : State) (g : GroupId) (owner : Option PortId) : (s.ownerIssued g owner).mem
    = { s.mem with waiting := s.mem.waiting ++ owner.toList.flatMap (s.issuedTxns g) } := by
  cases owner with
  | none => simp [State.ownerIssued]
  | some p =>
    rw [State.ownerIssued, State.issueHead_mem, State.modGroup_mem]
    simp [State.issuedTxns, State.head]

theorem State.headIssued_ownerIssued {p : PortId} {r : Request} (howner : owner = some p) (hr : s.head p = some r) :
    s.headIssued (s.ownerIssued g owner) p r := by
  subst howner
  have hhead : (s.modGroup g Group.headLeaves).head p = some r := hr
  exact State.headIssued_of_ports (s.modGroup_port g Group.headLeaves p) rfl (State.headIssued_issueHead hhead (some g)).1

end

end Sys2Proof.Machine
end

section
/-! The acknowledgement of a record (R36, R38, R27): how the step's write, its waiting list and the next head go on in each state of the group. -/

namespace Sys2Proof.Machine

/-! ### A drain with a record in the journal (R54, R77) -/

section
variable {s : State} {g : GroupId}

/-- The end of a drain with a record in the journal moves the group's phase and hands one transaction on. -/
theorem State.beginClear_of_record (h : (s.group g).journalLength ≠ 0) :
    ∃ ph n y, s.beginClear g = (s.modGroup g fun x => x.atPhase ph n).handOn y := by
  rw [State.beginClear]
  split
  · exact ⟨.clear, none, _, rfl⟩
  · exact ⟨.pop, some (1 + (s.group g).journalLength), _, State.nextPop_of_record h⟩

/-- What the drain check of an undo or a rollback with a record in the journal leaves alone. -/
theorem State.drainCheck_frame_of_record (hstate : (s.group g).state = .unwinding ∨ (s.group g).state = .rollingBack)
    (h : (s.group g).journalLength ≠ 0) :
    s.drainCheck g = { s with groups := (s.drainCheck g).groups, mem := (s.drainCheck g).mem }
      ∧ ((s.drainCheck g).group g = s.group g ∨ ∃ ph n, (s.drainCheck g).group g = (s.group g).atPhase ph n) := by
  rw [State.drainCheck_of_draining hstate]
  split
  · obtain ⟨ph, n, y, heq⟩ := State.beginClear_of_record h
    rw [heq]
    exact ⟨rfl, .inr ⟨ph, n, by rw [State.handOn_group, State.modGroup_group_self]⟩⟩
  · exact ⟨rfl, .inl rfl⟩

end

/-! ### The course of the step's write (R38) -/

section
variable {s : State} {g : GroupId} {st : JournalStep} {e : TrackEntry} {rest : List PortId}

theorem exec_recordWrite_of_step {i : PlaceId} (hown : s.ownAt i g .recordWrite 128) (hstep : (s.group g).step = some st)
    (data : List Byte) : exec (.recordWrite i (.ok data)) s = .next ((s.placeFreed i).recordAcknowledged g st) := by
  have hfinish : (s.placeFreed i).finishRecord g = (s.placeFreed i).recordAcknowledged g st := by
    rw [State.finishRecord, State.placeFreed_group, hstep]
  rw [exec_recordWrite_ok data hown, hfinish]

theorem State.settleStepWrite_of_not_draining (h : (s.group g).state ≠ .unwinding ∧ (s.group g).state ≠ .rollingBack)
    (owner : Option PortId) : s.settleStepWrite g owner = s.startHeads g := by
  obtain ⟨hunwinding, hrolling⟩ := h
  unfold State.settleStepWrite
  cases hstate : (s.group g).state with
  | unwinding => exact absurd hstate hunwinding
  | rollingBack => exact absurd hstate hrolling
  | _ => rfl

/-- Where heads start their steps (R31). -/
def GroupState.journaling (st : GroupState) : Prop := st = .opened ∨ st = .voting ∨ st = .committing

theorem GroupState.journaling.not_draining {st : GroupState} (h : st.journaling) : st ≠ .unwinding ∧ st ≠ .rollingBack := by
  rcases h with rfl | rfl | rfl <;> exact ⟨nofun, nofun⟩

theorem GroupState.journaling_iff {st : GroupState} :
    st.journaling ↔ st ∈ [GroupState.opened, .voting, .committing] := by
  simp [GroupState.journaling]

theorem State.recorded_state : ((s.recorded g st).group g).state = (s.group g).state := by rw [State.recorded_group]

/-- The group may start its next head once the record is in the journal. -/
theorem State.recorded_canStart (hstate : (s.group g).state.journaling) (hhold : (s.group g).hold = none) :
    ((s.recorded g st).group g).canStart = true := by
  rw [State.recorded_group]
  exact Group.canStart_eq_true hstate rfl hhold

/-- At the group's level the step's write is issued, and the next head starts (R38, R31). -/
theorem State.recorded_startHeads (hstate : (s.group g).state.journaling) (hhold : st.owner ≠ none → (s.group g).hold = none)
    (hqueue : (s.group g).queue = st.owner.toList ++ rest) (he : findEntry s.table st.block = some e)
    (hblock : ∀ p, st.owner = some p → s.headBlock p = st.block) (hlevel : st.level = (s.group g).marks.length) :
    (s.recorded g st).settleStepWrite g st.owner = ((s.recorded g st).ownerIssued g st.owner).runQueue g rest := by
  rw [State.settleStepWrite_of_not_draining (by rw [State.recorded_state]; exact hstate.not_draining)]
  refine State.startHeads_of_owner (by rw [State.recorded_group]; exact hqueue)
    (fun hne => State.recorded_canStart hstate (hhold hne)) fun p hp => ?_
  have hhead : (s.recorded g st).headBlock p = st.block := hblock p hp
  rw [hhead]
  refine State.startDecision_of_durable (State.recorded_findEntry_self g he) rfl ?_
  rw [State.recorded_group, ← hlevel]
  rfl

/-- What the group holds once the step's write is issued and the queue runs on with `rest`. -/
theorem State.recorded_ownerIssued_group (hqueue : (s.group g).queue = st.owner.toList ++ rest)
    (hhold : (s.group g).hold = none) : ((s.recorded g st).ownerIssued g st.owner).group g = { s.group g with
      journalLength := (s.group g).journalLength + 1, step := none, stats := (s.group g).stats.addRecord, queue := rest } := by
  rw [State.ownerIssued_group (rest := rest) (by rw [State.recorded_group]; exact hqueue)
    (by rw [State.recorded_group]; exact hhold), State.recorded_group]

/-- At a lower level than the group's the step's write is journaled again where there is room (R38). -/
theorem State.recorded_reserves {p : PortId} (hstate : (s.group g).state.journaling) (hhold : (s.group g).hold = none)
    (hqueue : (s.group g).queue = p :: rest) (he : findEntry s.table st.block = some e) (hblock : s.headBlock p = st.block)
    (hlevel : st.level ≠ (s.group g).marks.length)
    (hroom : (s.group g).journalLength + 1 < (s.group g).config.slots - 2) :
    (s.recorded g st).settleStepWrite g st.owner = (s.recorded g st).reserve g p
      ∧ (s.recorded g st).priorLevel st.block = some st.level := by
  have hfind := State.recorded_findEntry_self g he
  have htakes : (s.recorded g st).takesStep g st.block ((s.recorded g st).group g).journalLength (some st.level) := by
    refine ⟨?_, .inr ⟨_, hfind, rfl, rfl, ?_⟩⟩
    · rw [State.recorded_group]
      exact hroom
    · rw [State.recorded_group]
      exact fun heq => hlevel (Option.some.inj heq)
  obtain ⟨hdecision, hprior⟩ := State.startDecision_of_takesStep htakes
  refine ⟨?_, hprior⟩
  have hqueue' : ((s.recorded g st).group g).queue = p :: rest := by rw [State.recorded_group]; exact hqueue
  have hhead : (s.recorded g st).headBlock p = st.block := hblock
  rw [State.settleStepWrite_of_not_draining (by rw [State.recorded_state]; exact hstate.not_draining), State.startHeads, hqueue']
  exact State.runQueue_of_reserve (State.recorded_canStart hstate hhold) (by rw [hhead]; exact hdecision)

/-- The step's write goes onto the put-back list, held (R38). -/
theorem State.putBackStepWrite_eq {owner : Option PortId} (hqueue : (s.group g).queue = owner.toList) (why : HoldReason) :
    s.putBackStepWrite g owner why = (s.stageHeads (stagesOf owner.toList (.held why))).modGroup g
      fun x => { x with queue := [], putBack := x.putBack ++ owner.toList } := by
  cases owner with
  | none =>
    have hnone : s.stageHeads (stagesOf (none : Option PortId).toList (.held why)) = s := State.stageHeads_none
    rw [hnone]
    refine (State.modGroup_of_same (s := s) ?_).symm
    rw [Option.toList_none, List.append_nil]
    have hempty : (s.group g).queue = [] := hqueue
    rw [← hempty]
  | some p =>
    have hgroup : { (s.group g).stepWriteLeaves (some p) with putBack := (s.group g).putBack ++ [p] }
        = { s.group g with queue := [], putBack := (s.group g).putBack ++ [p] } := by
      rw [Group.stepWriteLeaves, hqueue]
      simp
    have hmod : s.modGroup g (fun x => { x.stepWriteLeaves (some p) with putBack := x.putBack ++ [p] })
        = s.modGroup g fun x => { x with queue := [], putBack := x.putBack ++ [p] } := by
      rw [State.modGroup, State.modGroup, hgroup]
    rw [State.putBackStepWrite, hmod, ← State.modGroup_stageHeads]
    exact State.foldl_holdHead _ [p] why

theorem State.settleStepWrite_of_draining {owner : Option PortId}
    (hstate : (s.group g).state = .unwinding ∨ (s.group g).state = .rollingBack)
    (hqueue : (s.group g).queue = owner.toList) : s.settleStepWrite g owner
      = (s.stageHeads (stagesOf owner.toList (s.group g).state.releaseStage)).modGroup g
        fun x => { x with queue := [], putBack := x.putBack ++ owner.toList } := by
  unfold State.settleStepWrite
  rcases hstate with h | h
  · rw [h]
    exact State.putBackStepWrite_eq hqueue .unwinding
  · rw [h]
    exact State.putBackStepWrite_eq hqueue .rollingBack

/-- In UNWINDING and ROLLING_BACK the step's write and its waiting list are held, and the drain is looked at (R38, R27). -/
theorem State.recordAcknowledged_of_draining (hstate : (s.group g).state = .unwinding ∨ (s.group g).state = .rollingBack)
    (hqueue : (s.group g).queue = st.owner.toList) : s.recordAcknowledged g st
      = (((s.recorded g st).stageHeads (stagesOf (st.owner.toList ++ waitersOf s.table st.block)
          (s.group g).state.releaseStage)).modGroup g
          fun x => { x with queue := [], putBack := x.putBack ++ st.owner.toList }).drainCheck g := by
  have hqueue' : ((s.recorded g st).group g).queue = st.owner.toList := by rw [State.recorded_group]; exact hqueue
  have hput := State.settleStepWrite_of_draining (s := s.recorded g st) (by rw [State.recorded_state]; exact hstate) hqueue'
  rw [State.recorded_state] at hput
  have hnot : ((s.recorded g st).group g).state ≠ .opened ∧ ((s.recorded g st).group g).state ≠ .voting := by
    rw [State.recorded_state]
    rcases hstate with h | h <;> rw [h] <;> exact ⟨nofun, nofun⟩
  rw [State.recordAcknowledged_eq, hput, State.releaseWaiters_of_not_judging (by
    rw [State.modGroup_group_self]; exact hnot), State.modGroup_group_self]
  have hstages : ((s.recorded g st).stageHeads (stagesOf st.owner.toList (s.group g).state.releaseStage)).group g
      = (s.recorded g st).group g := rfl
  rw [State.modGroup_stageHeads, State.stageHeads_stageHeads
    (keepsHeads_stagesOf _ (GroupState.releaseStage_undecided _)), hstages, State.recorded_state]
  congr 3
  funext q
  rw [stagesOf_or]
  by_cases hq : q ∈ waitersOf s.table st.block ++ st.owner.toList
  · rw [stagesOf_of_mem hq, stagesOf_of_mem (List.mem_append.2 (List.mem_append.1 hq).symm)]
  · rw [stagesOf_of_not_mem hq, stagesOf_of_not_mem fun h => hq (List.mem_append.2 (List.mem_append.1 h).symm)]

/-- In the other states nothing but the waiting list moves. -/
theorem State.recordAcknowledged_of_idle (hjournals : ¬ (s.group g).state.journaling)
    (hdrains : (s.group g).state ≠ .unwinding ∧ (s.group g).state ≠ .rollingBack) : s.recordAcknowledged g st
      = (s.recorded g st).stageHeads (stagesOf (waitersOf s.table st.block) (s.group g).state.releaseStage) := by
  have hstopped : ((s.recorded g st).group g).canStart = false := by
    rw [Group.canStart, State.recorded_state]
    obtain ⟨hunwinding, hrolling⟩ := hdrains
    cases hstate : (s.group g).state with
    | opened => exact absurd (.inl hstate) hjournals
    | voting => exact absurd (.inr (.inl hstate)) hjournals
    | committing => exact absurd (.inr (.inr hstate)) hjournals
    | _ => rfl
  have hnot : ((s.recorded g st).group g).state ≠ .opened ∧ ((s.recorded g st).group g).state ≠ .voting := by
    rw [State.recorded_state]
    exact ⟨fun h => hjournals (.inl h), fun h => hjournals (.inr (.inl h))⟩
  rw [State.recordAcknowledged_eq, State.settleStepWrite_of_not_draining (by rw [State.recorded_state]; exact hdrains),
    State.startHeads, State.runQueue_of_stopped hstopped, State.releaseWaiters_of_not_judging hnot, State.recorded_state]
  refine State.drainCheck_of_other ?_
  rw [State.stageHeads_group, State.recorded_state]
  intro hmem
  simp only [drainStates, List.mem_cons, List.not_mem_nil, or_false] at hmem
  rcases hmem with h | h | h
  · exact hdrains.1 h
  · exact hdrains.2 h
  · exact hjournals (.inr (.inr h))

end

end Sys2Proof.Machine
end

section
/-! The acknowledgement of a record in each state of the group (R36, R38, R27): what it leaves of the group, the table, the ports and the memory port. -/

namespace Sys2Proof.Machine

section
variable {s : State} {g : GroupId} {st : JournalStep} {e : TrackEntry} {p : PortId}

theorem State.writesUnanswered_of_waiting {x : Txn} (hx : x ∈ s.mem.waiting) (h : x.isDataWriteOf g = true) :
    s.writesUnanswered g = true := List.any_eq_true.2 ⟨x, List.mem_append_left _ hx, h⟩

/-- The commit waits for a write that has just been issued (R70). -/
theorem State.drainCheck_committing_issued {x : Txn} (hstate : (s.group g).state = .committing) (hx : x ∈ s.mem.waiting)
    (h : x.isDataWriteOf g = true) : s.drainCheck g = s := by
  have hwaits : s.commitDrained g = false := by
    rw [State.commitDrained, State.writesUnanswered_of_waiting hx h]
    simp
  rw [State.drainCheck_of_committing hstate, hwaits]
  rfl

theorem not_mem_drainStates_of_open (h : (s.group g).state = .opened ∨ (s.group g).state = .voting) :
    (s.group g).state ∉ drainStates := by
  rcases h with h | h <;> rw [h] <;> decide

/-! ### At the group's level (R38, R27) -/

/-- In OPEN and VOTING the step's write and its waiting list are issued in their order. -/
theorem State.recordAcknowledged_of_open (hstate : (s.group g).state = .opened ∨ (s.group g).state = .voting)
    (hhold : st.owner ≠ none → (s.group g).hold = none) (hqueue : (s.group g).queue = st.owner.toList)
    (he : findEntry s.table st.block = some e) (hblock : ∀ p, st.owner = some p → s.headBlock p = st.block)
    (hlevel : st.level = (s.group g).marks.length) (hnodup : (st.owner.toList ++ e.waiters).Nodup)
    (hws : ∀ q ∈ e.waiters, s.headBlock q = st.block) :
    s.recordAcknowledged g st = ((s.recorded g st).ownerIssued g st.owner).issueAll g e.waiters := by
  have hfind := State.recorded_findEntry_self g he
  have hstart := State.recorded_startHeads (rest := []) (hstate.imp_right .inl) hhold (by rw [List.append_nil]; exact hqueue) he
    hblock hlevel
  obtain ⟨hgstate, hglevel⟩ : (((s.recorded g st).ownerIssued g st.owner).group g).state = (s.group g).state
      ∧ (((s.recorded g st).ownerIssued g st.owner).group g).level = (s.group g).level := by
    cases st.owner with
    | none =>
      rw [State.ownerIssued, State.recorded_group]
      exact ⟨rfl, rfl⟩
    | some p =>
      rw [State.ownerIssued, State.issueHead_group, State.modGroup_group_self, State.recorded_group]
      exact ⟨rfl, rfl⟩
  obtain ⟨-, hnodupw, hapart⟩ := List.nodup_append.1 hnodup
  have hheads : ∀ q ∈ e.waiters, ((s.recorded g st).ownerIssued g st.owner).headBlock q = st.block := fun q hq => by
    have hne : st.owner ≠ some q := fun heq => hapart q (by rw [heq]; exact List.mem_singleton.2 rfl) q hq rfl
    rw [State.headBlock_of_port (State.ownerIssued_other _ g hne)]
    exact hws q hq
  have hreleased := State.releaseWaiters_of_durable hnodupw ((s.recorded g st).ownerIssued g st.owner)
    (hgstate ▸ hstate) hheads ((State.ownerIssued_table _ g st.owner).symm ▸ hfind) rfl (by
      rw [hglevel]
      exact congrArg some hlevel)
  rw [State.recordAcknowledged_eq, hstart, State.runQueue_nil, waitersOf_of_found he, hreleased]
  refine State.drainCheck_of_other (not_mem_drainStates_of_open ?_)
  obtain ⟨hgroups, -⟩ := State.issueAll_rest ((s.recorded g st).ownerIssued g st.owner) g e.waiters
  rw [State.group, hgroups, ← State.group, hgstate]
  exact hstate

/-- In COMMITTING the step's write is issued, and its waiting list is held. -/
theorem State.recordAcknowledged_of_committing {r : Request} (hstate : (s.group g).state = .committing)
    (hhold : (s.group g).hold = none) (howner : st.owner = some p) (hqueue : (s.group g).queue = [p])
    (he : findEntry s.table st.block = some e) (hr : s.head p = some r) (hblock : blockOf r.addr = st.block)
    (hlevel : st.level = (s.group g).marks.length) : s.recordAcknowledged g st
      = ((s.recorded g st).ownerIssued g st.owner).stageHeads (stagesOf e.waiters (.held .committing)) := by
  have hgroup := State.recorded_ownerIssued_group (rest := []) (s := s) (st := st) (g := g) (by rw [howner]; exact hqueue) hhold
  have hstart := State.recorded_startHeads (rest := []) (.inr (.inr hstate)) (fun _ => hhold) (by rw [howner]; exact hqueue) he
    (fun q hq => by
      rw [howner] at hq
      cases hq
      rw [State.headBlock_of_head hr, hblock]) hlevel
  have hgstate : (((s.recorded g st).ownerIssued g st.owner).group g).state = .committing := by rw [hgroup]; exact hstate
  rw [State.recordAcknowledged_eq, hstart, State.runQueue_nil, waitersOf_of_found he,
    State.releaseWaiters_of_not_judging (by rw [hgstate]; exact ⟨nofun, nofun⟩), hgstate]
  refine State.drainCheck_committing_issued (x := { r.txn p (some g) with stamp := s.clock }) hgstate ?_ (by
    simp [Txn.isDataWriteOf, Request.txn])
  rw [State.stageHeads_mem, State.ownerIssued_mem]
  refine List.mem_append_right _ (List.mem_flatMap.2 ⟨p, by rw [howner]; exact List.mem_singleton.2 rfl, ?_⟩)
  have hhead : (s.recorded g st).head p = some r := hr
  rw [State.issuedTxns, hhead]
  exact List.mem_singleton.2 rfl

/-! ### At a lower level (R38, R27) -/

/-- The entry of a block that is journaled again, and its step, once the write has reserved. -/
theorem State.recorded_reserve_spec (he : findEntry s.table st.block = some e)
    (hblock : s.headBlock p = st.block) (hprior : (s.recorded g st).priorLevel st.block = some st.level) :
    ((s.recorded g st).reserve g p).group g = { s.group g with
        journalLength := (s.group g).journalLength + 1, stats := (s.group g).stats.addRecord, hold := none
        step := some { owner := some p, block := st.block, level := (s.group g).marks.length, prior := some st.level,
                       slot := 2 + ((s.group g).journalLength + 1), sequence := (s.group g).journalLength + 2,
                       epoch := (s.group g).closedEpoch + 1 } }
      ∧ findEntry ((s.recorded g st).reserve g p).table st.block
        = some { e with durable := some st.level, staged := some (s.group g).marks.length, waiters := [] }
      ∧ (∀ b, b ≠ st.block → findEntry ((s.recorded g st).reserve g p).table b = findEntry s.table b)
      ∧ ((s.recorded g st).reserve g p).mem = (s.handOn (oldRead g st.block)).mem := by
  have hhead : (s.recorded g st).headBlock p = st.block := hblock
  refine ⟨?_, ?_, fun b hb => ?_, ?_⟩
  · rw [State.reserve_group, hhead, hprior, State.recorded_group]
    rfl
  · have hself := (s.recorded g st).reserve_findEntry_self g p
    rw [hhead, State.recorded_findEntry_self g he, State.recorded_group] at hself
    exact hself
  · rw [State.reserve_findEntry_other _ g p (by rw [hhead]; exact hb), State.recorded_findEntry_other g hb]
  · rw [State.reserve_mem, hhead]
    rfl

end

/-! ### What each course leaves -/

section
variable {s : State} {i : PlaceId} {g : GroupId} {st : JournalStep} {e : TrackEntry}

/-- What the acknowledgement in UNWINDING or ROLLING_BACK leaves of the group, the table and the ports. -/
theorem State.recordAcknowledged_draining_spec
    (hstate : (s.group g).state = .unwinding ∨ (s.group g).state = .rollingBack)
    (hqueue : (s.group g).queue = st.owner.toList) :
    ((s.recordAcknowledged g st).group g).journalLength = (s.group g).journalLength + 1
      ∧ ((s.recordAcknowledged g st).group g).stats = (s.group g).stats.addRecord
      ∧ ((s.recordAcknowledged g st).group g).state = (s.group g).state
      ∧ ((s.recordAcknowledged g st).group g).closedEpoch = (s.group g).closedEpoch
      ∧ ((s.recordAcknowledged g st).group g).marks = (s.group g).marks
      ∧ ((s.recordAcknowledged g st).group g).queue = [] ∧ ((s.recordAcknowledged g st).group g).step = none
      ∧ ((s.recordAcknowledged g st).group g).putBack = (s.group g).putBack ++ st.owner.toList
      ∧ s.othersKept (s.recordAcknowledged g st) g
      ∧ (s.recordAcknowledged g st).table = (s.recorded g st).table
      ∧ (∀ q r, q ∈ st.owner.toList ++ waitersOf s.table st.block → s.head q = some r →
          (s.recordAcknowledged g st).headStage q = some (s.group g).state.releaseStage) := by
  rw [State.recordAcknowledged_of_draining hstate hqueue]
  obtain ⟨u, hu⟩ : ∃ u, u = ((s.recorded g st).stageHeads (stagesOf (st.owner.toList ++ waitersOf s.table st.block)
    (s.group g).state.releaseStage)).modGroup g fun x => { x with queue := [], putBack := x.putBack ++ st.owner.toList } :=
    ⟨_, rfl⟩
  rw [← hu]
  have hgroup : u.group g = { s.group g with
      journalLength := (s.group g).journalLength + 1, step := none, stats := (s.group g).stats.addRecord, queue := []
      putBack := (s.group g).putBack ++ st.owner.toList } := by
    rw [hu, State.modGroup_group_self, State.stageHeads_group, State.recorded_group]
  have hothers : s.othersKept u g := fun k hk => by
    rw [hu, State.modGroup_group, if_neg hk, State.stageHeads_group]
    exact s.othersKept_recorded g st k hk
  obtain ⟨hrest, hkept⟩ := State.drainCheck_frame_of_record (s := u) (g := g) (by rw [hgroup]; exact hstate)
    (by rw [hgroup]; exact Nat.succ_ne_zero _)
  obtain ⟨hkeptOthers, -, -⟩ := u.drainCheck_kept g
  have hstats : ((u.drainCheck g).group g).stats = (u.group g).stats := by
    rcases hkept with h | ⟨ph, n, h⟩
    · rw [h]
    · rw [h, atPhase_stats]
  obtain ⟨hs, -, -, -, -, -, hepoch, -, hmarks, hlength, hstep, hempty, hput⟩ := Group.kept_of_atPhase hkept
  rw [hgroup] at hs hepoch hmarks hlength hstep hempty hput hstats
  refine ⟨hlength, hstats, hs, hepoch, hmarks, hempty, hstep, hput, fun k hk => (hkeptOthers k hk).trans (hothers k hk), ?_,
    fun q r hq hr => ?_⟩
  · rw [hrest, hu]
    rfl
  · have hport : (u.drainCheck g).port q = u.port q := by
      rw [hrest]
      rfl
    have hhead : (s.recorded g st).headStage q = some r.stage := State.headStage_of_head hr
    have hstaged := State.stageHeads_headStage_of_some (s := s.recorded g st) (stagesOf_of_mem hq)
      (GroupState.releaseStage_undecided (s.group g).state)
    rw [hhead] at hstaged
    rw [State.headStage_of_port hport, hu]
    exact hstaged

end

section
variable {s : State} {g : GroupId} {st : JournalStep} {e : TrackEntry} {p : PortId} {r : Request}

/-- OPEN and VOTING at the group's level: what the acknowledgement leaves. -/
theorem State.recordAcknowledged_open_spec (hstate : (s.group g).state = .opened ∨ (s.group g).state = .voting)
    (hhold : st.owner ≠ none → (s.group g).hold = none) (hqueue : (s.group g).queue = st.owner.toList)
    (he : findEntry s.table st.block = some e) (hblock : ∀ p, st.owner = some p → s.headBlock p = st.block)
    (hlevel : st.level = (s.group g).marks.length) (hnodup : (st.owner.toList ++ e.waiters).Nodup)
    (hws : ∀ q ∈ e.waiters, s.headBlock q = st.block) :
    (s.recordAcknowledged g st).group g = ((s.recorded g st).ownerIssued g st.owner).group g
      ∧ s.othersKept (s.recordAcknowledged g st) g ∧ (s.recordAcknowledged g st).table = (s.recorded g st).table
      ∧ (∀ q x, q ∈ st.owner.toList ++ e.waiters → s.head q = some x → s.headIssued (s.recordAcknowledged g st) q x)
      ∧ (s.recordAcknowledged g st).mem
        = { s.mem with waiting := s.mem.waiting ++ (st.owner.toList ++ e.waiters).flatMap (s.issuedTxns g) } := by
  rw [State.recordAcknowledged_of_open hstate hhold hqueue he hblock hlevel hnodup hws]
  obtain ⟨hgroups, htable⟩ := State.issueAll_rest ((s.recorded g st).ownerIssued g st.owner) g e.waiters
  obtain ⟨-, hnodupw, hapart⟩ := List.nodup_append.1 hnodup
  have hport : ∀ q ∈ e.waiters, ((s.recorded g st).ownerIssued g st.owner).port q = s.port q := fun q hq =>
    State.ownerIssued_other _ g fun heq => hapart q (by rw [heq]; exact List.mem_singleton.2 rfl) q hq rfl
  have hgroup : ∀ k, (((s.recorded g st).ownerIssued g st.owner).issueAll g e.waiters).group k
      = ((s.recorded g st).ownerIssued g st.owner).group k := fun k => by rw [State.group, hgroups, State.group]
  refine ⟨hgroup g, fun k hk => ?_, ?_, fun q x hq hx => ?_, ?_⟩
  · rw [hgroup, State.othersKept_ownerIssued _ g _ k hk]
    exact s.othersKept_recorded g st k hk
  · rw [htable, State.ownerIssued_table]
  · by_cases hw : q ∈ e.waiters
    · exact State.headIssued_of_ports (hport q hw) rfl
        (State.headIssued_issueAll hnodupw hw _ ((State.head_of_port (hport q hw)).trans hx))
    · have howner : st.owner = some q := Option.mem_toList.1 ((List.mem_append.1 hq).resolve_right hw)
      have hhead : (s.recorded g st).head q = some x := hx
      exact State.headIssued_of_ports (u := s.recorded g st) rfl (State.issueAll_port_other hw _)
        (State.headIssued_ownerIssued howner hhead)
  · have hlater : e.waiters.flatMap (((s.recorded g st).ownerIssued g st.owner).issuedTxns g)
        = e.waiters.flatMap (s.issuedTxns g) := List.flatMap_congr fun q hq => by
      rw [State.issuedTxns, State.head_of_port (hport q hq), State.ownerIssued_clock, State.issuedTxns]
      rfl
    rw [State.issueAll_mem hnodupw, hlater, State.ownerIssued_mem, List.flatMap_append, ← List.append_assoc]
    rfl

/-- COMMITTING at the group's level: what the acknowledgement leaves. -/
theorem State.recordAcknowledged_committing_spec (hstate : (s.group g).state = .committing)
    (hhold : (s.group g).hold = none) (howner : st.owner = some p) (hqueue : (s.group g).queue = [p])
    (he : findEntry s.table st.block = some e) (hr : s.head p = some r) (hblock : blockOf r.addr = st.block)
    (hlevel : st.level = (s.group g).marks.length) (hp : p ∉ e.waiters) :
    (s.recordAcknowledged g st).group g = ((s.recorded g st).ownerIssued g st.owner).group g
      ∧ s.othersKept (s.recordAcknowledged g st) g ∧ (s.recordAcknowledged g st).table = (s.recorded g st).table
      ∧ s.headIssued (s.recordAcknowledged g st) p r
      ∧ (∀ q x, q ∈ e.waiters → s.head q = some x →
          (s.recordAcknowledged g st).headStage q = some (.held .committing))
      ∧ (s.recordAcknowledged g st).mem = { s.mem with waiting := s.mem.waiting ++ s.issuedTxns g p } := by
  rw [State.recordAcknowledged_of_committing hstate hhold howner hqueue he hr hblock hlevel]
  refine ⟨rfl, fun k hk => ?_, State.ownerIssued_table .., ?_, fun q x hq hx => ?_, ?_⟩
  · rw [State.stageHeads_group, State.othersKept_ownerIssued _ g _ k hk]
    exact s.othersKept_recorded g st k hk
  · have hhead : (s.recorded g st).head p = some r := hr
    refine State.headIssued_of_ports (u := s.recorded g st) rfl ?_ (State.headIssued_ownerIssued (g := g) howner hhead)
    rw [State.stageHeads_port, stagesOf_of_not_mem hp]
    rfl
  · have hne : st.owner ≠ some q := fun heq => hp (by rw [howner] at heq; cases heq; exact hq)
    have hport : ((s.recorded g st).ownerIssued g st.owner).port q = s.port q := State.ownerIssued_other _ g hne
    have hstaged := State.stageHeads_headStage_of_some (s := (s.recorded g st).ownerIssued g st.owner) (stagesOf_of_mem hq)
      (g := .held .committing) rfl
    rw [State.headStage_of_port hport, State.headStage_of_head hx] at hstaged
    exact hstaged
  · rw [State.stageHeads_mem, State.ownerIssued_mem, howner]
    simp only [Option.toList_some, List.flatMap_cons, List.flatMap_nil, List.append_nil]
    rfl

/-- At a lower level the write is journaled again, and its waiting list waits again or is held: what the acknowledgement
leaves. -/
theorem State.recordAcknowledged_lower_spec (hstate : (s.group g).state.journaling) (hhold : (s.group g).hold = none)
    (hqueue : (s.group g).queue = [p]) (he : findEntry s.table st.block = some e) (hblock : s.headBlock p = st.block)
    (hlevel : st.level ≠ (s.group g).marks.length)
    (hroom : (s.group g).journalLength + 1 < (s.group g).config.slots - 2) (hp : p ∉ e.waiters)
    (hws : ∀ q ∈ e.waiters, s.headBlock q = st.block) :
    (s.recordAcknowledged g st).group g = { s.group g with
        journalLength := (s.group g).journalLength + 1, stats := (s.group g).stats.addRecord, hold := none
        step := some { owner := some p, block := st.block, level := (s.group g).marks.length, prior := some st.level,
                       slot := 2 + ((s.group g).journalLength + 1), sequence := (s.group g).journalLength + 2,
                       epoch := (s.group g).closedEpoch + 1 } }
      ∧ s.othersKept (s.recordAcknowledged g st) g
      ∧ (∀ b, b ≠ st.block → findEntry (s.recordAcknowledged g st).table b = findEntry s.table b)
      ∧ findEntry (s.recordAcknowledged g st).table st.block
        = some { e with durable := some st.level, staged := some (s.group g).marks.length,
                        waiters := if (s.group g).state = .committing then [] else e.waiters }
      ∧ (∀ q x, q ∈ e.waiters → s.head q = some x → (s.recordAcknowledged g st).headStage q
          = if (s.group g).state = .committing then some (.held .committing) else some .waitingOnEntry)
      ∧ (s.recordAcknowledged g st).mem = (s.handOn (oldRead g st.block)).mem := by
  obtain ⟨hsettle, hprior⟩ := State.recorded_reserves hstate hhold hqueue he hblock hlevel hroom
  obtain ⟨hgroup, hfind, hfindOther, hmem⟩ := State.recorded_reserve_spec he hblock hprior
  obtain ⟨u, hu⟩ : ∃ u, u = (s.recorded g st).reserve g p := ⟨_, rfl⟩
  have hothers : s.othersKept u g := fun k hk => by
    rw [hu, State.othersKept_reserve _ g p k hk]
    exact s.othersKept_recorded g st k hk
  have hport : ∀ q ∈ e.waiters, u.port q = s.port q := fun q hq => by
    rw [hu]
    exact (s.recorded g st).reserve_port_other g p fun heq => hp (heq ▸ hq)
  rw [← hu] at hsettle hgroup hfind hfindOther hmem
  have heq : s.recordAcknowledged g st = (u.releaseWaiters g e.waiters).drainCheck g := by
    rw [State.recordAcknowledged_eq, hsettle, waitersOf_of_found he]
  have hstaged : ∀ (k : Stage), k.undecided = true → ∀ q x, q ∈ e.waiters → s.head q = some x →
      (u.stageHeads (stagesOf e.waiters k)).headStage q = some k := fun k hk q x hq hx => by
    rw [State.stageHeads_headStage_of_some (stagesOf_of_mem hq) hk, State.headStage_of_port (hport q hq),
      State.headStage_of_head hx]
    rfl
  rw [heq]
  by_cases hcommitting : (s.group g).state = .committing
  · have hustate : (u.group g).state = .committing := by rw [hgroup]; exact hcommitting
    have hheld : (u.releaseWaiters g e.waiters).drainCheck g = u.stageHeads (stagesOf e.waiters (.held .committing)) := by
      rw [State.releaseWaiters_of_not_judging (by rw [hustate]; exact ⟨nofun, nofun⟩), hustate]
      refine State.drainCheck_committing_queued hustate ?_
      rw [State.stageHeads_group, hgroup, hqueue]
      exact List.cons_ne_nil p []
    rw [hheld, if_pos hcommitting]
    refine ⟨hgroup, hothers, hfindOther, hfind, fun q x hq hx => ?_, hmem⟩
    rw [if_pos hcommitting]
    exact hstaged (.held .committing) rfl q x hq hx
  · have hopen : (s.group g).state = .opened ∨ (s.group g).state = .voting := by
      rcases hstate with h | h | h
      · exact .inl h
      · exact .inr h
      · exact absurd h hcommitting
    have huopen : (u.group g).state = .opened ∨ (u.group g).state = .voting := by rw [hgroup]; exact hopen
    obtain ⟨hgroups, hmems, hports, hself, hothersFind⟩ := State.releaseWaiters_of_pending (ws := e.waiters) u huopen
      (fun q hq => (State.headBlock_of_port (hport q hq)).trans (hws q hq)) hfind rfl
    have hkeeps : ∀ k, (u.releaseWaiters g e.waiters).group k = u.group k := fun k => by
      rw [State.group, hgroups, State.group]
    have hstays : (u.releaseWaiters g e.waiters).drainCheck g = u.releaseWaiters g e.waiters :=
      State.drainCheck_of_other (not_mem_drainStates_of_open (by rw [hkeeps]; exact huopen))
    rw [hstays, if_neg hcommitting]
    refine ⟨(hkeeps g).trans hgroup, fun k hk => (hkeeps k).trans (hothers k hk), fun b hb => (hothersFind b hb).trans (hfindOther b hb),
      hself, fun q x hq hx => ?_, hmems.trans hmem⟩
    rw [if_neg hcommitting, State.headStage_of_port (show (u.releaseWaiters g e.waiters).port q
      = (u.stageHeads (stagesOf e.waiters .waitingOnEntry)).port q by rw [State.port, hports, State.port])]
    exact hstaged .waitingOnEntry rfl q x hq hx

end

end Sys2Proof.Machine
end

section
/-! The journaling step as a whole (R35 to R38). -/

namespace Sys2Proof.Machine

section
variable {s : State} {i : PlaceId} {g : GroupId}

/-- The data writes that are handed on at the event after `s`. -/
theorem State.placeFreed_issuedTxns (s : State) (i : PlaceId) (g : GroupId) :
    (s.placeFreed i).issuedTxns g = s.dataWrites g := rfl

theorem State.placeFreed_headBlock (s : State) (i : PlaceId) (q : PortId) : (s.placeFreed i).headBlock q = s.headBlock q := rfl

/-- The clauses of O39 that hold whatever the state: what the acknowledgement of a record leaves of its group. -/
def Group.RecordKept (x y : Group) : Prop :=
  y.journalLength = x.journalLength + 1
    ∧ y.stats = { x.stats with recordsAppended := min 4294967295 (x.stats.recordsAppended + 1) }
    ∧ y.state = x.state ∧ y.closedEpoch = x.closedEpoch ∧ y.marks = x.marks

theorem Group.recordKept_of_eq {x y : Group} {q : List PortId} {st : Option JournalStep} {h : Option Hold}
    (hy : y = { x with
      journalLength := x.journalLength + 1, step := st, stats := x.stats.addRecord, queue := q, hold := h }) :
    x.RecordKept y := by
  rw [hy]
  exact ⟨rfl, rfl, rfl, rfl, rfl⟩

theorem TrackEntry.acknowledged_eq {e : TrackEntry} (h : e.waiters = []) (l : Nat) :
    e.acknowledged l = { e with durable := some l, staged := none } := by
  rw [TrackEntry.acknowledged, ← h]

/-- In COMMITTING the waiting list is held once the step's write is dealt with, and the drain is looked at. -/
theorem State.recordAcknowledged_of_settled {u : State} {st : JournalStep}
    (hsettled : (s.recorded g st).settleStepWrite g st.owner = u) (hstate : (u.group g).state = .committing) :
    s.recordAcknowledged g st
      = (u.stageHeads (stagesOf (waitersOf s.table st.block) (.held .committing))).drainCheck g := by
  rw [State.recordAcknowledged_eq, hsettled, State.releaseWaiters_of_not_judging (by rw [hstate]; exact ⟨nofun, nofun⟩),
    hstate]
  rfl

/-- The heads that a commit holds stay held while its drain is looked at. -/
theorem State.drainCheck_committing_headStage {u : State} {ws : List PortId} {q : PortId} {x : Request}
    (hstate : (u.group g).state = .committing) (hq : q ∈ ws) (hx : u.head q = some x) :
    ((u.stageHeads (stagesOf ws (.held .committing))).drainCheck g).headStage q = some (.held .committing) := by
  have hstaged := State.stageHeads_headStage_of_some (s := u) (stagesOf_of_mem hq) (g := .held .committing) rfl
  rw [State.headStage_of_head hx] at hstaged
  rw [State.drainCheck_committing_rest (s := u.stageHeads _) hstate]
  exact hstaged

/-- A step whose write has left with its port has no write to deal with in COMMITTING. -/
theorem State.recorded_settle_orphan {st : JournalStep} (hstate : (s.group g).state = .committing)
    (hqueue : (s.group g).queue = []) :
    (s.recorded g st).settleStepWrite g st.owner = s.recorded g st := by
  rw [State.settleStepWrite_of_not_draining (by rw [State.recorded_state, hstate]; exact ⟨nofun, nofun⟩), State.startHeads,
    State.recorded_group, hqueue]
  rfl

/-- The step's write is issued at the group's level, and the next head takes up its step (R31, R38). -/
theorem State.recordAcknowledged_of_next {st : JournalStep} {e : TrackEntry} {q : PortId} {more : List PortId} {rq : Request}
    {prior : Option Nat} (hstate : (s.group g).state.journaling) (hhold : (s.group g).hold = none)
    (hqueue : (s.group g).queue = st.owner.toList ++ q :: more) (hsorted : s.tableSorted)
    (he : findEntry s.table st.block = some e) (hws : e.waiters = [])
    (howner : ∀ p, st.owner = some p → p ≠ q ∧ s.headBlock p = st.block) (hlevel : st.level = (s.group g).marks.length)
    (hrq : s.head q = some rq) (hne : blockOf rq.addr ≠ st.block)
    (htakes : s.takesStep g (blockOf rq.addr) ((s.group g).journalLength + 1) prior) :
    s.recordAcknowledged g st = ((s.recorded g st).ownerIssued g st.owner).reserve g q
      ∧ ((s.recorded g st).ownerIssued g st.owner).head q = some rq
      ∧ ((s.recorded g st).ownerIssued g st.owner).takesStep g (blockOf rq.addr)
        (((s.recorded g st).ownerIssued g st.owner).group g).journalLength prior := by
  obtain ⟨u, hu⟩ : ∃ u, u = (s.recorded g st).ownerIssued g st.owner := ⟨_, rfl⟩
  have hgroup := State.recorded_ownerIssued_group hqueue hhold
  rw [← hu] at hgroup
  have htable : u.table = (s.recorded g st).table := by rw [hu, State.ownerIssued_table]
  have hport : u.port q = s.port q := by
    rw [hu]
    exact State.ownerIssued_other _ g fun heq => (howner q heq).1 rfl
  have hhead : u.head q = some rq := (State.head_of_port hport).trans hrq
  obtain ⟨hlength, hentries⟩ := State.recorded_table_counts g hsorted he
  have htakes : u.takesStep g (blockOf rq.addr) (u.group g).journalLength prior := by
    have hfind := State.recorded_findEntry_other (s := s) (st := st) g hne
    have hcount : u.entriesOf g = s.entriesOf g := by rw [State.entriesOf, htable, ← State.entriesOf, hentries]
    simp only [State.takesStep, hcount, htable, hlength, hgroup, hfind] at htakes ⊢
    exact htakes
  have hreserve : u.runQueue g (q :: more) = u.reserve g q := by
    refine State.runQueue_of_reserve (Group.canStart_eq_true ?_ ?_ ?_) ?_
    · rw [hgroup]
      exact hstate
    · rw [hgroup]
    · rw [hgroup]
      exact hhold
    · rw [State.headBlock_of_head hhead]
      exact (State.startDecision_of_takesStep htakes).1
  have hstart := State.recorded_startHeads hstate (fun _ => hhold) hqueue he (fun p hp => (howner p hp).2) hlevel
  rw [← hu, hreserve] at hstart
  rw [← hu]
  refine ⟨?_, hhead, htakes⟩
  have hlast : ((u.reserve g q).group g).state = (s.group g).state := by rw [State.reserve_group, hgroup]
  have hqueued : ((u.reserve g q).group g).queue ≠ [] := by
    rw [State.reserve_group, hgroup]
    exact List.cons_ne_nil q more
  rw [State.recordAcknowledged_eq, hstart, waitersOf_of_found he, hws]
  change (u.reserve g q).drainCheck g = _
  rcases hstate with h | h | h
  · exact State.drainCheck_of_other (not_mem_drainStates_of_open (.inl (hlast.trans h)))
  · exact State.drainCheck_of_other (not_mem_drainStates_of_open (.inr (hlast.trans h)))
  · exact State.drainCheck_committing_queued (hlast.trans h) hqueued

theorem exec_oldBlockRead_of_step {st : JournalStep} (hown : s.ownAt i g .oldBlockRead 64)
    (hstep : (s.group g).step = some st) (data : List Byte) :
    exec (.oldBlockRead i (.ok data)) s = .next ((s.placeFreed i).handOn (ownOf g .journal .write
      ((s.group g).config.base + BitVec.ofNat 36 (128 * st.slot)) 128 (recordSlot g st (fitBytes 64 data))
      .recordWrite)) := by
  have hwrite : (s.placeFreed i).writeRecord g (fitBytes 64 data) = (s.placeFreed i).handOn (ownOf g .journal .write
      ((s.group g).config.base + BitVec.ofNat 36 (128 * st.slot)) 128 (recordSlot g st (fitBytes 64 data)) .recordWrite) := by
    rw [State.writeRecord, State.placeFreed_group, hstep]
    rfl
  rw [exec_oldBlockRead_ok data hown, hwrite]

end

/-- Settles O39: clause by clause, by what the acknowledgement leaves in each state. -/
theorem journalingStepRuns : Obligations.JournalingStepRuns := by
  refine ⟨fun s i g st data hown hstep => exec_oldBlockRead_of_step hown hstep data,
    fun s i g st p r e ws data hown hstep howner hr _ hblock hqueue hhold _ he _ hws hnodup hwaits hroom => ?owned,
    fun s i g st e ws data hown hstep howner hqueue _ he _ hws hnodup hwaits => ?orphan,
    fun s i g st e q more rq prior data hown hstep hqueue hhold hstate hlevel hsorted he _ hws howner hrq _ hne htakes => ?next⟩
  case owned =>
    subst hws
    have hfound := State.recorded_findEntry_self (s := s.placeFreed i) (st := st) g he
    have hfoundOther : ∀ b, b ≠ st.block → findEntry ((s.placeFreed i).recorded g st).table b = findEntry s.table b :=
      fun b hb => State.recorded_findEntry_other (s := s.placeFreed i) g hb
    obtain ⟨hp, hnodupw⟩ := List.nodup_cons.1 hnodup
    have hhead : (s.placeFreed i).headBlock p = st.block := (State.headBlock_of_head hr).trans hblock
    have hheads : ∀ q ∈ e.waiters, (s.placeFreed i).headBlock q = st.block := fun q hq => by
      obtain ⟨x, hx, -, hb⟩ := hwaits q hq
      exact (State.headBlock_of_head hx).trans hb
    have hqueue' : ((s.placeFreed i).group g).queue = st.owner.toList := by rw [howner]; exact hqueue
    have hread : oldRead g st.block = ownOf g .journal .read (BitVec.ofNat 36 (64 * (r.addr.toNat / 64))) 64 []
        .oldBlockRead := by rw [← hblock, oldRead_eq]
    refine ⟨_, exec_recordWrite_of_step hown hstep data, ?_⟩
    by_cases hjournaling : (s.group g).state.journaling
    · have hnotDraining : ¬ ((s.group g).state = .unwinding ∨ (s.group g).state = .rollingBack) := fun h =>
        h.elim hjournaling.not_draining.1 hjournaling.not_draining.2
      by_cases hlevel : st.level = (s.group g).marks.length
      · by_cases hcommitting : (s.group g).state = .committing
        · obtain ⟨hgroup, hothers, htable, hissued, hstages, hmem⟩ := State.recordAcknowledged_committing_spec
            (s := s.placeFreed i) hcommitting hhold howner hqueue he hr hblock hlevel hp
          have hgroup := hgroup.trans (State.recorded_ownerIssued_group (s := s.placeFreed i) (rest := [])
            (by rw [List.append_nil]; exact hqueue') hhold)
          obtain ⟨hlength, hstats, hstate, hepoch, hmarks⟩ := Group.recordKept_of_eq hgroup
          exact ⟨hlength, hstats, hstate, hepoch, hmarks, hothers, fun b hb => by rw [htable, hfoundOther b hb],
            fun _ => ⟨fun _ => ⟨by rw [hgroup], by rw [hgroup], by rw [htable, hfound]; rfl, hissued,
              fun h => absurd hcommitting h,
              fun _ => ⟨fun q hq => (hwaits q hq).elim fun x hx => hstages q x hq hx.1, hmem⟩⟩, fun h => absurd hlevel h⟩,
            fun q _ => ⟨fun h => absurd (.inl h) hnotDraining, fun h => absurd (.inr h) hnotDraining⟩,
            fun h => absurd h hnotDraining⟩
        · have hopen : (s.group g).state = .opened ∨ (s.group g).state = .voting :=
            hjournaling.imp_right fun h => h.resolve_right hcommitting
          obtain ⟨hgroup, hothers, htable, hissued, hmem⟩ := State.recordAcknowledged_open_spec (s := s.placeFreed i) hopen
            (fun _ => hhold) hqueue' he (fun q hq => by rw [howner] at hq; cases hq; exact hhead) hlevel
            (by rw [howner]; exact hnodup) hheads
          have hgroup := hgroup.trans (State.recorded_ownerIssued_group (s := s.placeFreed i) (rest := [])
            (by rw [List.append_nil]; exact hqueue') hhold)
          rw [howner] at hissued hmem
          obtain ⟨hlength, hstats, hstate, hepoch, hmarks⟩ := Group.recordKept_of_eq hgroup
          exact ⟨hlength, hstats, hstate, hepoch, hmarks, hothers, fun b hb => by rw [htable, hfoundOther b hb],
            fun _ => ⟨fun _ => ⟨by rw [hgroup], by rw [hgroup], by rw [htable, hfound]; rfl,
              hissued p r List.mem_cons_self hr,
              fun _ => ⟨fun q x hq hx => hissued q x (List.mem_cons_of_mem p hq) hx, hmem⟩,
              fun h => absurd h hcommitting⟩, fun h => absurd hlevel h⟩,
            fun q _ => ⟨fun h => absurd (.inl h) hnotDraining, fun h => absurd (.inr h) hnotDraining⟩,
            fun h => absurd h hnotDraining⟩
      · have hroom : (s.group g).journalLength + 1 < (s.group g).config.slots - 2 := by
          rcases hroom with h | h | h | h
          · exact absurd (.inl h) hnotDraining
          · exact absurd (.inr h) hnotDraining
          · exact absurd h hlevel
          · exact h
        obtain ⟨hgroup, hothers, htable, hself, hstages, hmem⟩ := State.recordAcknowledged_lower_spec (s := s.placeFreed i)
          hjournaling hhold hqueue he hhead hlevel hroom hp hheads
        obtain ⟨hlength, hstats, hstate, hepoch, hmarks⟩ := Group.recordKept_of_eq hgroup
        exact ⟨hlength, hstats, hstate, hepoch, hmarks, hothers, htable,
          fun _ => ⟨fun h => absurd h hlevel, fun _ => ⟨(congrArg Group.queue hgroup).trans hqueue, congrArg Group.step hgroup, hself,
            fun q hq => (hwaits q hq).elim fun x hx => hstages q x hq hx.1, hread ▸ hmem⟩⟩,
          fun q _ => ⟨fun h => absurd (.inl h) hnotDraining, fun h => absurd (.inr h) hnotDraining⟩,
          fun h => absurd h hnotDraining⟩
    by_cases hdraining : (s.group g).state = .unwinding ∨ (s.group g).state = .rollingBack
    · have hnotJournaling : (s.group g).state ∉ [GroupState.opened, .voting, .committing] := by
        rcases hdraining with h | h <;> rw [h] <;> decide
      obtain ⟨hlength, hstats, hstate, hepoch, hmarks, hempty, hstep, hput, hothers, htable, hstages⟩ :=
        State.recordAcknowledged_draining_spec (s := s.placeFreed i) hdraining hqueue'
      rw [howner] at hput hstages
      have hheld : ∀ q ∈ p :: e.waiters, ((s.placeFreed i).recordAcknowledged g st).headStage q
          = some (s.group g).state.releaseStage := fun q hq => by
        obtain ⟨x, hx⟩ : ∃ x, s.head q = some x := by
          rcases List.mem_cons.1 hq with rfl | hq
          · exact ⟨r, hr⟩
          · exact (hwaits q hq).imp fun x hx => hx.1
        exact hstages q x (by rw [waitersOf_of_found (l := (s.placeFreed i).table) he]; exact hq) hx
      exact ⟨hlength, hstats, hstate, hepoch, hmarks, hothers, fun b hb => by rw [htable, hfoundOther b hb],
        fun h => absurd h hnotJournaling,
        fun q hq => ⟨fun h => by rw [hheld q hq, h]; rfl, fun h => by rw [hheld q hq, h]; rfl⟩,
        fun _ => ⟨hempty, hstep, hstate ▸ hdraining, hput, by rw [htable, hfound]; rfl⟩⟩
    · have hdrains : (s.group g).state ≠ .unwinding ∧ (s.group g).state ≠ .rollingBack := not_or.1 hdraining
      have hgroup := (s.placeFreed i).recorded_group g st
      rw [State.recordAcknowledged_of_idle (s := s.placeFreed i) hjournaling hdrains]
      exact ⟨by rw [State.stageHeads_group, hgroup]; rfl, by rw [State.stageHeads_group, hgroup]; rfl,
        by rw [State.stageHeads_group, hgroup]; rfl, by rw [State.stageHeads_group, hgroup]; rfl,
        by rw [State.stageHeads_group, hgroup]; rfl, (s.placeFreed i).othersKept_recorded g st, hfoundOther,
        fun h => absurd (GroupState.journaling_iff.2 h) hjournaling,
        fun q _ => ⟨fun h => absurd h hdrains.1, fun h => absurd h hdrains.2⟩,
        fun h => (h.elim hdrains.1 hdrains.2).elim⟩
  case orphan =>
    subst hws
    have hfound := State.recorded_findEntry_self (s := s.placeFreed i) (st := st) g he
    have hheads : ∀ q ∈ e.waiters, (s.placeFreed i).headBlock q = st.block := fun q hq => by
      obtain ⟨x, hx, -, hb⟩ := hwaits q hq
      exact (State.headBlock_of_head hx).trans hb
    have hqueue' : ((s.placeFreed i).group g).queue = st.owner.toList := by rw [howner]; exact hqueue
    refine ⟨_, exec_recordWrite_of_step hown hstep data, fun hopen hlevel => ?_, fun hcommitting => ?_, fun hstate => ?_,
      fun hstate => ?_⟩
    · obtain ⟨hgroup, hothers, htable, -, hmem⟩ := State.recordAcknowledged_open_spec (s := s.placeFreed i) hopen
        (fun h => absurd howner h) hqueue' he (fun q hq => by rw [howner] at hq; cases hq) hlevel
        (by rw [howner]; exact hnodup) hheads
      rw [howner] at hgroup hmem
      refine ⟨hgroup.trans ((s.placeFreed i).recorded_group g st), hothers, by rw [htable, hfound]; rfl, ?_⟩
      rw [hmem]
      rfl
    · have hsettled := State.recorded_settle_orphan (s := s.placeFreed i) (st := st) hcommitting hqueue
      rw [State.recordAcknowledged_of_settled (s := s.placeFreed i) hsettled (State.recorded_state.trans hcommitting),
        waitersOf_of_found (l := (s.placeFreed i).table) he]
      intro q hq
      obtain ⟨x, hx, -⟩ := hwaits q hq
      exact State.drainCheck_committing_headStage (State.recorded_state.trans hcommitting) hq hx
    all_goals
      obtain ⟨-, -, -, -, -, -, -, -, -, -, hstages⟩ := State.recordAcknowledged_draining_spec (s := s.placeFreed i)
        (by rw [State.placeFreed_group, hstate]; simp) hqueue'
      intro q hq
      obtain ⟨x, hx, -⟩ := hwaits q hq
      rw [hstages q x (by rw [waitersOf_of_found (l := (s.placeFreed i).table) he]; exact List.mem_append_right _ hq) hx,
        State.placeFreed_group, hstate]
      rfl
  case next =>
    have hjournaling := GroupState.journaling_iff.2 hstate
    obtain ⟨hlast, hhead, htakesLast⟩ := State.recordAcknowledged_of_next (s := s.placeFreed i) hjournaling hhold hqueue hsorted
      he hws (fun p hp => by
        obtain ⟨hpq, r, hr, hb⟩ := howner p hp
        exact ⟨hpq, (State.headBlock_of_head hr).trans hb⟩) hlevel hrq hne htakes
    obtain ⟨u, hu⟩ : ∃ u, u = ((s.placeFreed i).recorded g st).ownerIssued g st.owner := ⟨_, rfl⟩
    have hgroup := State.recorded_ownerIssued_group (s := s.placeFreed i) hqueue hhold
    rw [← hu] at hgroup
    have htable : u.table = ((s.placeFreed i).recorded g st).table := by rw [hu, State.ownerIssued_table]
    have hblock : u.headBlock q = blockOf rq.addr := State.headBlock_of_head (hu ▸ hhead)
    have hself := State.recorded_findEntry_self (s := s.placeFreed i) (st := st) g he
    rw [← hu] at hlast hhead htakesLast
    obtain ⟨htakenStep, -, htakenEntry⟩ := State.stepTaken_reserve hhead rfl htakesLast
    refine ⟨_, exec_recordWrite_of_step hown hstep data, ?_⟩
    rw [hlast]
    refine ⟨⟨?_, u.reserve_headStage g q hhead, ?_⟩, ?_, ?_, ?_, ?_, fun k hk => ?_, ?_, fun p r hp hr => ?_, ?_⟩
    · rw [htakenStep, hgroup]
      rfl
    · rw [htable, State.recorded_findEntry_other (s := s.placeFreed i) g hne, hgroup] at htakenEntry
      exact htakenEntry
    · rw [State.reserve_group, hgroup]
    · rw [State.reserve_group]
    · rw [State.reserve_group, hgroup]
      rfl
    · rw [State.reserve_group, hgroup]
      rfl
    · rw [State.othersKept_reserve u g q k hk, hu, State.othersKept_ownerIssued _ g _ k hk]
      exact (s.placeFreed i).othersKept_recorded g st k hk
    · rw [State.reserve_findEntry_other u g q (by rw [hblock]; exact hne.symm), htable, hself, TrackEntry.acknowledged_eq hws]
    · obtain ⟨hpq, -⟩ := howner p hp
      have hport := u.reserve_port_other g q hpq
      rw [hu] at hport
      have hissued := State.headIssued_ownerIssued (s := (s.placeFreed i).recorded g st) (g := g) hp hr
      rw [hu]
      exact State.headIssued_of_ports rfl hport hissued
    · have hclock : u.clock = s.clock + 1 := by
        rw [hu, State.ownerIssued_clock]
        rfl
      rw [State.reserve_mem, hblock, State.handOn_mem, hclock, hu, State.ownerIssued_mem]
      rfl

end Sys2Proof.Machine
end

section
/-! The end of a step without a record (R37, R39): what it takes back, and what starts after it. -/

namespace Sys2Proof.Machine

/-! ### The entry of a failed step (R26) -/

section
variable {l : List TrackEntry} {b : Block} {e : TrackEntry} (prior : Option Nat)

theorem failEntry_of_found (h : findEntry l b = some e) : failEntry b prior l = match prior with
    | none => dropEntry b l
    | some n => putEntry (e.acknowledged n) l := by
  cases prior with
  | none => rfl
  | some n =>
    unfold failEntry
    rw [h]

theorem findEntry_failEntry_self (h : findEntry l b = some e) :
    findEntry (failEntry b prior l) b = prior.map fun n => e.acknowledged n := by
  have hblock : e.block = b := findEntry_block h
  rw [failEntry_of_found prior h]
  cases prior with
  | none => exact (findEntry_dropEntry b l b).trans (if_pos rfl)
  | some n => exact findEntry_putEntry_at (e := e.acknowledged n) hblock l

theorem findEntry_failEntry_other (h : findEntry l b = some e) {x : Block} (hx : x ≠ b) :
    findEntry (failEntry b prior l) x = findEntry l x := by
  have hblock : e.block = b := findEntry_block h
  rw [failEntry_of_found prior h]
  cases prior with
  | none => exact (findEntry_dropEntry b l x).trans (if_neg hx)
  | some n => exact findEntry_putEntry_of_ne (e := e.acknowledged n) (fun heq => hx (heq.trans hblock)) l

/-- A failed step takes no entry: the table does not grow, for any count that looks at neither level nor list. -/
theorem failEntry_counts (hsorted : sortedTable l) (h : findEntry l b = some e) {k : TrackEntry → Bool}
    (hk : ∀ n, k (e.acknowledged n) = k e) :
    (failEntry b prior l).length ≤ l.length ∧ (failEntry b prior l).countP k ≤ l.countP k := by
  have hblock : e.block = b := findEntry_block h
  rw [failEntry_of_found prior h]
  cases prior with
  | none => exact ⟨List.length_filter_le _ _, List.filter_sublist.countP_le⟩
  | some n =>
    have hfind : findEntry l (e.acknowledged n).block = some e := by
      rw [show (e.acknowledged n).block = b from hblock, h]
    exact ⟨(length_putEntry_of_found hsorted hfind).le, (countP_putEntry_of_found hsorted hfind (hk n)).le⟩

theorem countP_dropEntry_lt (h : findEntry l b = some e) {k : TrackEntry → Bool} (hk : k e = true) :
    (dropEntry b l).countP k < l.countP k := by
  have hlength : (l.filter k).filter (fun x => x.block != b) = (dropEntry b l).filter k := by
    rw [dropEntry, List.filter_filter, List.filter_filter]
    exact List.filter_congr fun x _ => Bool.and_comm _ _
  rw [List.countP_eq_length_filter, List.countP_eq_length_filter, ← hlength]
  exact List.length_filter_lt_length_iff_exists.2
    ⟨e, List.mem_filter.2 ⟨findEntry_mem h, hk⟩, by simp [findEntry_block h]⟩

end

/-! ### The step taken back and its write refused (R37, R39) -/

/-- The state once the step has left its group and its entry is taken back, before its write is refused. -/
def State.stepGone (s : State) (g : GroupId) (st : JournalStep) : State :=
  (s.setTable (failEntry st.block st.prior s.table)).modGroup g fun x => { x with step := none }

section
variable (s : State) (g : GroupId) (st : JournalStep)

theorem State.endFailedStep_eq : s.endFailedStep g st = (s.stepGone g st).refuseStepWrite g st.owner := rfl

theorem State.stepGone_group : (s.stepGone g st).group g = { s.group g with step := none } :=
  State.modGroup_group_self (s.setTable (failEntry st.block st.prior s.table)) g _

theorem State.othersKept_stepGone : s.othersKept (s.stepGone g st) g := State.othersKept_of_groups rfl

theorem State.stepGone_closedEpoch (k : GroupId) : ((s.stepGone g st).group k).closedEpoch = (s.group k).closedEpoch := by
  by_cases hk : k = g
  · rw [hk, State.stepGone_group]
  · rw [s.othersKept_stepGone g st k hk]

theorem State.othersKept_endFailedStep : s.othersKept (s.endFailedStep g st) g := fun k hk => by
  rw [State.endFailedStep_eq]
  cases st.owner with
  | none => exact s.othersKept_stepGone g st k hk
  | some p =>
    rw [State.refuseStepWrite, State.refuseHead_group, State.modGroup_group, if_neg hk]
    exact s.othersKept_stepGone g st k hk

@[simp] theorem State.endFailedStep_table : (s.endFailedStep g st).table = failEntry st.block st.prior s.table := by
  rw [State.endFailedStep_eq]
  cases st.owner with
  | none => rfl
  | some p =>
    rw [State.refuseStepWrite, State.refuseHead_table]
    rfl

@[simp] theorem State.endFailedStep_mem : (s.endFailedStep g st).mem = s.mem := by
  rw [State.endFailedStep_eq]
  cases st.owner with
  | none => rfl
  | some p =>
    rw [State.refuseStepWrite, State.refuseHead_mem]
    rfl

@[simp] theorem State.endFailedStep_clock : (s.endFailedStep g st).clock = s.clock := by
  rw [State.endFailedStep_eq]
  cases st.owner with
  | none => rfl
  | some p =>
    rw [State.refuseStepWrite, State.refuseHead_clock]
    rfl

variable {s g st}

theorem Group.stepWriteLeaves_of_first {x : Group} {owner : Option PortId} {rest : List PortId}
    (hqueue : x.queue = owner.toList ++ rest) (hrest : ∀ p, owner = some p → p ∉ rest) (hsome : owner ≠ none) :
    x.stepWriteLeaves owner = { x with queue := rest } := by
  obtain ⟨p, hp⟩ := Option.ne_none_iff_exists'.1 hsome
  have hkept : rest.filter (fun q => some p != some q) = rest := List.filter_eq_self.2 fun q hq => by
    have hne : p ≠ q := fun heq => hrest p hp (heq ▸ hq)
    simpa using hne
  rw [Group.stepWriteLeaves, hqueue, hp, Option.toList_some, List.filter_append, hkept]
  simp

theorem State.endFailedStep_group {rest : List PortId} (hqueue : (s.group g).queue = st.owner.toList ++ rest)
    (hrest : ∀ p, st.owner = some p → p ∉ rest) :
    (s.endFailedStep g st).group g = { s.group g with queue := rest, step := none } := by
  have hqueue' : ((s.stepGone g st).group g).queue = st.owner.toList ++ rest := by rw [State.stepGone_group]; exact hqueue
  rw [State.endFailedStep_eq]
  cases howner : st.owner with
  | none =>
    have hrestQueue : (s.group g).queue = rest := by rw [hqueue, howner]; rfl
    rw [← hrestQueue]
    exact s.stepGone_group g st
  | some p =>
    rw [howner] at hqueue' hrest
    rw [State.refuseStepWrite, State.refuseHead_group, State.modGroup_group_self,
      Group.stepWriteLeaves_of_first hqueue' hrest nofun, State.stepGone_group]

theorem State.endFailedStep_other {q : PortId} (hq : st.owner ≠ some q) : (s.endFailedStep g st).port q = s.port q := by
  rw [State.endFailedStep_eq]
  cases howner : st.owner with
  | none => rfl
  | some p =>
    rw [State.refuseStepWrite, State.refuseHead_other _ fun heq => hq (by rw [howner, heq]), State.modGroup_port]
    rfl

/-- The step's write is refused MEMORY_ERROR and answered (R39, R123, R129). -/
theorem State.endFailedStep_refuses {p : PortId} {r : Request} (howner : st.owner = some p) (hr : s.head p = some r) :
    ((s.endFailedStep g st).port p).refusal
        = some { kind := r.kind, addr := r.addr, size := r.size, reason := .memoryError
                 domain := (s.port p).headDomain, group := (s.port p).headGroup
                 epoch := (s.port p).headGroup.map (fun k => (s.group k).closedEpoch + 1) }
      ∧ ((s.endFailedStep g st).port p).refusalCount = min 65535 ((s.port p).refusalCount + 1)
      ∧ (s.endFailedStep g st).isLatched (.refusal p) = true ∧ s.headAnswered (s.endFailedStep g st) p r := by
  obtain ⟨u, hu⟩ : ∃ u, u = (s.stepGone g st).modGroup g fun x => x.stepWriteLeaves (some p) := ⟨_, rfl⟩
  have hports : u.port p = s.port p := by rw [hu, State.modGroup_port]; rfl
  have hhead : u.head p = some r := (State.head_of_port hports).trans hr
  have hepoch : ∀ k, (u.group k).currentEpoch = (s.group k).closedEpoch + 1 := fun k => by
    rw [Group.currentEpoch, ← s.stepGone_closedEpoch g st k, hu, State.modGroup_group]
    split
    next hk => rw [hk]; rfl
    next => rfl
  have heq : s.endFailedStep g st = u.refuseHead p .memoryError := by rw [State.endFailedStep_eq, howner, hu]; rfl
  obtain ⟨hrefusal, hcount, hlatched⟩ := State.refuseHead_refusal hhead .memoryError
  have hrecord : u.recordOf p r .memoryError
      = { kind := r.kind, addr := r.addr, size := r.size, reason := .memoryError, domain := (s.port p).headDomain,
          group := (s.port p).headGroup, epoch := (s.port p).headGroup.map (fun k => (s.group k).closedEpoch + 1) } := by
    rw [State.recordOf, hports, funext hepoch]
    rfl
  have hanswered : s.headAnswered (u.refuseHead p .memoryError) p r := by
    have h := State.headAnswered_refuseHead hhead .memoryError
    have hemitted : u.emitted = s.emitted := by rw [hu]; rfl
    simp only [State.headAnswered, State.queueAround, hports, hemitted] at h
    exact h
  rw [heq]
  exact ⟨hrecord ▸ hrefusal, hports ▸ hcount, hlatched, hanswered⟩

/-- The short form of the refusal that the statements speak of. -/
theorem State.endFailedStep_refusal {p : PortId} {r : Request} (howner : st.owner = some p) (hr : s.head p = some r) :
    ((s.endFailedStep g st).port p).refusal.map (fun x => (x.addr, x.reason)) = some (r.addr, .memoryError) := by
  obtain ⟨hrefusal, -⟩ := State.endFailedStep_refuses (g := g) howner hr
  rw [hrefusal]
  rfl

end

/-! ### What follows the end of a failed step (R37, R41) -/

section
variable {s : State} {i : PlaceId} {g : GroupId} {st : JournalStep} {c : Instr}

theorem exec_of_stepFails (h : s.stepFails i g c) (hstep : (s.group g).step = some st) :
    exec c s = .next ((s.placeFreed i).stepFailed g st) := by
  have hfail : (s.placeFreed i).failStep g = (s.placeFreed i).stepFailed g st := by
    rw [State.failStep, State.placeFreed_group, hstep]
  rcases h with ⟨hown, rfl⟩ | ⟨hown, rfl⟩
  · rw [exec, execOldBlockRead, State.takeOwn_error hown rfl, hfail]
  · rw [exec, execRecordWrite, State.takeOwn_error hown rfl, hfail]

theorem State.anyHeld_of_noneHeld (h : s.noneHeld) : s.anyHeld = false := List.any_eq_false.2 fun k _ => by
  rw [h k]
  nofun

/-- While no head is held, nobody but the group's own writes can take what a failed step frees. -/
theorem State.stepFailed_of_noneHeld {t : State} (hended : (s.endFailedStep g st).noneHeld)
    (hafter : (s.endFailedStep g st).afterFailure g (waitersOf s.table st.block) = t) (h : t.noneHeld) :
    s.stepFailed g st = t.drainCheck g := by
  have hwants : (s.endFailedStep g st).wantsFreed g (waitersOf s.table st.block) = false := by
    rw [State.wantsFreed, State.anyHeld_of_noneHeld hended]
    rfl
  have hshare : (s.endFailedStep g st).shareAfterFailure g st (waitersOf s.table st.block) = t := by
    rw [State.shareAfterFailure, hwants, hafter, State.retakeAll_of_noneHeld h]
    cases st.prior.isSome <;> rfl
  rw [State.stepFailed, hshare]

theorem State.noneHeld_endFailedStep {rest : List PortId} (h : s.noneHeld)
    (hqueue : (s.group g).queue = st.owner.toList ++ rest) (hrest : ∀ p, st.owner = some p → p ∉ rest) :
    (s.endFailedStep g st).noneHeld :=
  State.noneHeld_of_group h (s.othersKept_endFailedStep g st) (by rw [State.endFailedStep_group hqueue hrest])

/-- With nothing in the queue and nothing on the waiting list, the end of the step is all. -/
theorem State.stepFailed_of_alone (hheld : s.noneHeld) (hqueue : (s.group g).queue = st.owner.toList)
    (hopen : (s.group g).state = .opened ∨ (s.group g).state = .voting) {e : TrackEntry}
    (he : findEntry s.table st.block = some e) (hws : e.waiters = []) : s.stepFailed g st = s.endFailedStep g st := by
  have hqueue' : (s.group g).queue = st.owner.toList ++ [] := by rw [List.append_nil]; exact hqueue
  have hgroup := State.endFailedStep_group hqueue' fun _ _ => List.not_mem_nil
  have hnone := State.noneHeld_endFailedStep hheld hqueue' fun _ _ => List.not_mem_nil
  have hafter : (s.endFailedStep g st).afterFailure g (waitersOf s.table st.block) = s.endFailedStep g st := by
    rw [waitersOf_of_found he, hws, State.afterFailure, State.startHeads]
    change (s.endFailedStep g st).runQueue g ((s.endFailedStep g st).group g).queue = _
    rw [hgroup]
    rfl
  rw [State.stepFailed_of_noneHeld hnone hafter hnone]
  refine State.drainCheck_of_other (not_mem_drainStates_of_open ?_)
  rw [hgroup]
  exact hopen

theorem State.drainCheck_of_queued {q : PortId} {more : List PortId} (h : (s.group g).state.journaling)
    (hqueue : (s.group g).queue = q :: more) : s.drainCheck g = s := by
  rcases h with h | h | h
  · exact State.drainCheck_of_other (not_mem_drainStates_of_open (.inl h))
  · exact State.drainCheck_of_other (not_mem_drainStates_of_open (.inr h))
  · exact State.drainCheck_committing_queued h (by rw [hqueue]; exact List.cons_ne_nil q more)

/-- The next head of the queue takes up its step at the event that ends the failed one (R37). -/
theorem State.stepFailed_of_next {q : PortId} {more : List PortId} {rq : Request} {prior : Option Nat} {e : TrackEntry}
    (hheld : s.noneHeld) (hqueue : (s.group g).queue = st.owner.toList ++ q :: more)
    (hstate : (s.group g).state.journaling) (hsorted : s.tableSorted) (he : findEntry s.table st.block = some e)
    (hws : e.waiters = []) (howner : ∀ p, st.owner = some p → p ∉ q :: more) (hrq : s.head q = some rq)
    (hne : blockOf rq.addr ≠ st.block) (htakes : s.takesStep g (blockOf rq.addr) (s.group g).journalLength prior) :
    s.stepFailed g st = (s.endFailedStep g st).reserve g q
      ∧ (s.endFailedStep g st).head q = some rq
      ∧ (s.endFailedStep g st).takesStep g (blockOf rq.addr) ((s.endFailedStep g st).group g).journalLength prior := by
  have hgroup := State.endFailedStep_group hqueue howner
  have hnone := State.noneHeld_endFailedStep hheld hqueue howner
  have hport : (s.endFailedStep g st).port q = s.port q :=
    State.endFailedStep_other fun heq => howner q heq List.mem_cons_self
  obtain ⟨u, hu⟩ : ∃ u, u = s.endFailedStep g st := ⟨_, rfl⟩
  have htable : u.table = failEntry st.block st.prior s.table := by rw [hu, State.endFailedStep_table]
  have hafter : u.afterFailure g [] = u.runQueue g (u.group g).queue := rfl
  rw [← hu] at hgroup hnone hport
  have hhead : u.head q = some rq := (State.head_of_port hport).trans hrq
  have hutakes : u.takesStep g (blockOf rq.addr) (u.group g).journalLength prior := by
    obtain ⟨hlength, hcount⟩ := failEntry_counts st.prior hsorted he (k := fun e => e.group == g) fun _ => rfl
    have hentries : u.entriesOf g ≤ s.entriesOf g := by rw [State.entriesOf, htable]; exact hcount
    have hfind : findEntry u.table (blockOf rq.addr) = findEntry s.table (blockOf rq.addr) := by
      rw [htable, findEntry_failEntry_other st.prior he hne]
    rw [State.takesStep, hgroup, hfind]
    refine ⟨htakes.1, htakes.2.imp_left fun ⟨hnew, hprior, hroom, hquota⟩ => ⟨hnew, hprior, ?_, hentries.trans_lt hquota⟩⟩
    rw [htable]
    exact hlength.trans_lt hroom
  have hreserve : u.runQueue g (u.group g).queue = u.reserve g q := by
    rw [hgroup]
    refine State.runQueue_of_reserve (Group.canStart_eq_true ?_ ?_ (hnone g)) ?_
    · rw [hgroup]
      exact hstate
    · rw [hgroup]
    · rw [State.headBlock_of_head hhead]
      exact (State.startDecision_of_takesStep hutakes).1
  have hlast : (u.reserve g q).noneHeld :=
    State.noneHeld_of_group hnone (u.othersKept_reserve g q) (by rw [State.reserve_group, hnone g])
  refine ⟨?_, hu ▸ hhead, hu ▸ hutakes⟩
  rw [State.stepFailed_of_noneHeld (hu ▸ hnone) (t := u.reserve g q)
    (by rw [waitersOf_of_found he, hws, ← hu, hafter, hreserve]) hlast, ← hu]
  refine State.drainCheck_of_queued ?_ (q := q) (more := more) ?_ <;> rw [State.reserve_group, hgroup]
  exact hstate

end

/-! ### The waiting list joins the queue (R27, R39) -/

section
variable {s : State} {g : GroupId} {st : JournalStep} {e : TrackEntry} {w : PortId} {more : List PortId}

/-- The state once the waiting list has joined the queue that the failed step left empty. -/
def State.requeued (s : State) (g : GroupId) (st : JournalStep) (ws : List PortId) : State :=
  ((s.endFailedStep g st).stageHeads (stagesOf ws .inQueue)).modGroup g fun x => { x with queue := x.queue ++ ws }

theorem State.requeued_group (hqueue : (s.group g).queue = st.owner.toList) (ws : List PortId) :
    (s.requeued g st ws).group g = { s.group g with queue := ws, step := none } := by
  rw [State.requeued, State.modGroup_group_self, State.stageHeads_group,
    State.endFailedStep_group (rest := []) (by rw [List.append_nil]; exact hqueue) fun _ _ => List.not_mem_nil]
  rfl

theorem State.othersKept_requeued (s : State) (g : GroupId) (st : JournalStep) (ws : List PortId) :
    s.othersKept (s.requeued g st ws) g := fun k hk => by
  rw [State.requeued, State.modGroup_group, if_neg hk, State.stageHeads_group]
  exact s.othersKept_endFailedStep g st k hk

theorem State.requeued_table (s : State) (g : GroupId) (st : JournalStep) (ws : List PortId) :
    (s.requeued g st ws).table = failEntry st.block st.prior s.table := s.endFailedStep_table g st

theorem State.requeued_port (s : State) (g : GroupId) (st : JournalStep) (ws : List PortId) (q : PortId) :
    (s.requeued g st ws).port q = ((s.endFailedStep g st).port q).staged (stagesOf ws .inQueue q) := by
  rw [State.requeued, State.modGroup_port, State.stageHeads_port]

/-- The first write of the list takes up the block's step afresh: its own entry was the last in its way (R39). -/
theorem State.requeued_takesStep (hqueue : (s.group g).queue = st.owner.toList) (hfits : s.tableFits)
    (he : findEntry s.table st.block = some e) (heg : e.group = g) (hprior : st.prior ≠ some (s.group g).marks.length)
    (hquota : s.entriesOf g ≤ (s.group g).effectiveQuota)
    (hroom : (s.group g).journalLength < (s.group g).config.slots - 2) (ws : List PortId) :
    (s.requeued g st ws).takesStep g st.block ((s.requeued g st ws).group g).journalLength st.prior := by
  have htable := s.requeued_table g st ws
  have hfind := findEntry_failEntry_self st.prior he
  rw [State.takesStep, State.requeued_group hqueue, htable]
  refine ⟨hroom, ?_⟩
  cases h : st.prior with
  | none =>
    rw [h] at hfind htable
    refine .inl ⟨hfind, rfl, (length_dropEntry_lt he).trans_le hfits, ?_⟩
    rw [State.entriesOf, htable]
    exact (countP_dropEntry_lt he (by simp [heg])).trans_le hquota
  | some n =>
    rw [h] at hfind hprior
    exact .inr ⟨_, hfind, rfl, rfl, hprior⟩

theorem State.stepFailed_of_waiters (hheld : s.noneHeld) (hqueue : (s.group g).queue = st.owner.toList)
    (hopen : (s.group g).state = .opened ∨ (s.group g).state = .voting) (he : findEntry s.table st.block = some e)
    (hws : e.waiters = w :: more) (hprior : st.prior ≠ some (s.group g).marks.length)
    (hblock : ∀ q ∈ w :: more, st.owner ≠ some q ∧ s.headBlock q = st.block)
    (htakes : (s.requeued g st (w :: more)).takesStep g st.block
      ((s.requeued g st (w :: more)).group g).journalLength st.prior) :
    s.stepFailed g st = (s.requeued g st (w :: more)).reserve g w
      ∧ (s.requeued g st (w :: more)).headBlock w = st.block := by
  have hqueue' : (s.group g).queue = st.owner.toList ++ [] := by rw [List.append_nil]; exact hqueue
  have hended := State.endFailedStep_group hqueue' fun _ _ => List.not_mem_nil
  have hnone := State.noneHeld_endFailedStep hheld hqueue' fun _ _ => List.not_mem_nil
  have hgroup := State.requeued_group hqueue (w :: more)
  have hothers := s.othersKept_requeued g st (w :: more)
  have hheads : ∀ q ∈ w :: more, (s.endFailedStep g st).headBlock q = st.block := fun q hq => by
    obtain ⟨hne, hb⟩ := hblock q hq
    exact (State.headBlock_of_port (State.endFailedStep_other hne)).trans hb
  have hwaits : (s.endFailedStep g st).queueWaiters g (w :: more) = s.requeued g st (w :: more) := by
    refine State.queueWaiters_of_joins _ (by rw [hended]; exact hopen) hheads ?_
    rw [State.endFailedStep_table, hended, findEntry_failEntry_self st.prior he]
    cases h : st.prior with
    | none => exact .inl rfl
    | some n => exact .inr ⟨_, rfl, rfl, fun heq => hprior (h.trans heq)⟩
  have hwblock : (s.requeued g st (w :: more)).headBlock w = st.block := by
    refine Eq.trans ?_ (hheads w List.mem_cons_self)
    exact State.stageHeads_headBlock (s := s.endFailedStep g st) (keepsHeads_stagesOf (w :: more) rfl) w
  obtain ⟨u, hu⟩ : ∃ u, u = s.requeued g st (w :: more) := ⟨_, rfl⟩
  rw [← hu] at hgroup hothers hwaits hwblock htakes ⊢
  have hunone : u.noneHeld := State.noneHeld_of_group hheld hothers (by rw [hgroup])
  have hreserve : u.startHeads g = u.reserve g w := by
    rw [State.startHeads, hgroup]
    refine State.runQueue_of_reserve (Group.canStart_eq_true ?_ ?_ (hunone g)) ?_
    · rw [hgroup]
      exact hopen.imp_right .inl
    · rw [hgroup]
    · rw [hwblock]
      exact (State.startDecision_of_takesStep htakes).1
  have hlast : (u.reserve g w).noneHeld :=
    State.noneHeld_of_group hunone (u.othersKept_reserve g w) (by rw [State.reserve_group, hunone g])
  refine ⟨?_, hwblock⟩
  rw [State.stepFailed_of_noneHeld hnone (t := u.reserve g w)
    (by rw [waitersOf_of_found he, hws, State.afterFailure, hwaits, hreserve]) hlast]
  refine State.drainCheck_of_other (not_mem_drainStates_of_open ?_)
  rw [State.reserve_group, hgroup]
  exact hopen

end

end Sys2Proof.Machine
end

section
/-! A failed step in OPEN, VOTING or COMMITTING (R26, R37, R39). -/

namespace Sys2Proof.Machine

section
variable {s : State} {g : GroupId} {st : JournalStep} {e : TrackEntry} {q w : PortId} {more : List PortId}

theorem TrackEntry.acknowledged_map (h : e.waiters = []) (prior : Option Nat) : prior.map (fun n => e.acknowledged n)
    = match prior with
      | none => none
      | some n => some { e with durable := some n, staged := none } := by
  cases prior with
  | none => rfl
  | some n => exact congrArg some (TrackEntry.acknowledged_eq h n)

/-- The entry that the first of the waiting list stages afresh: a new one like the old, or the old one reverted. -/
theorem stagedEntry_failed (he : findEntry s.table st.block = some e) (heg : e.group = g) (n : Nat) :
    stagedEntry g st.block n (st.prior.map fun k => e.acknowledged k)
      = { e with durable := st.prior, staged := some n, waiters := [] } := by
  have hblock : e.block = st.block := findEntry_block he
  cases st.prior with
  | none =>
    rw [← hblock, ← heg]
    rfl
  | some k => rfl

/-- What the step of the first waiting write leaves (R27, R39). -/
theorem State.requeued_reserve_spec (hqueue : (s.group g).queue = st.owner.toList) (hhold : (s.group g).hold = none)
    (he : findEntry s.table st.block = some e) (heg : e.group = g)
    (hwblock : (s.requeued g st (w :: more)).headBlock w = st.block)
    (hprior : (s.requeued g st (w :: more)).priorLevel st.block = st.prior)
    (hheads : ∀ q ∈ w :: more, st.owner ≠ some q ∧ ∃ r, s.head q = some r) :
    ((s.requeued g st (w :: more)).reserve g w).group g = { s.group g with
        queue := w :: more, step := some ((s.group g).stepOf (some w) st.block st.prior) }
      ∧ s.othersKept ((s.requeued g st (w :: more)).reserve g w) g
      ∧ findEntry ((s.requeued g st (w :: more)).reserve g w).table st.block
        = some { e with durable := st.prior, staged := some (s.group g).marks.length, waiters := [] }
      ∧ (∀ b, b ≠ st.block → findEntry ((s.requeued g st (w :: more)).reserve g w).table b = findEntry s.table b)
      ∧ (∀ q ∈ w :: more, ((s.requeued g st (w :: more)).reserve g w).headStage q = some .inQueue)
      ∧ ((s.requeued g st (w :: more)).reserve g w).mem = (s.handOn (oldRead g st.block)).mem := by
  have hgroup := State.requeued_group hqueue (w :: more)
  have htable := s.requeued_table g st (w :: more)
  have hmem : (s.requeued g st (w :: more)).mem = s.mem := s.endFailedStep_mem g st
  have hclock : (s.requeued g st (w :: more)).clock = s.clock := s.endFailedStep_clock g st
  have hstaged : ∀ q ∈ w :: more, (s.requeued g st (w :: more)).headStage q = some .inQueue := fun q hq => by
    obtain ⟨hne, r, hr⟩ := hheads q hq
    have hended : (s.endFailedStep g st).headStage q = some r.stage :=
      (State.headStage_of_port (State.endFailedStep_other hne)).trans (State.headStage_of_head hr)
    have hlast := State.stageHeads_headStage_of_some (s := s.endFailedStep g st) (stagesOf_of_mem hq) (g := .inQueue) rfl
    rw [hended] at hlast
    exact hlast
  have hothers := s.othersKept_requeued g st (w :: more)
  obtain ⟨u, hu⟩ : ∃ u, u = s.requeued g st (w :: more) := ⟨_, rfl⟩
  rw [← hu] at hgroup htable hmem hclock hstaged hothers hwblock hprior ⊢
  refine ⟨?_, State.othersKept_trans hothers (u.othersKept_reserve g w), ?_, fun b hb => ?_, fun q hq => ?_, ?_⟩
  · rw [State.reserve_group, hwblock, hprior, hgroup]
    conv_rhs => rw [← Group.with_hold_none hhold]
    rfl
  · have hself := u.reserve_findEntry_self g w
    rw [hwblock, htable, findEntry_failEntry_self st.prior he, stagedEntry_failed he heg, hgroup] at hself
    exact hself
  · rw [State.reserve_findEntry_other _ g w (by rw [hwblock]; exact hb), htable,
      findEntry_failEntry_other st.prior he hb]
  · by_cases hqw : q = w
    · obtain ⟨r, hr, -⟩ := State.head_of_headStage (hstaged q hq)
      rw [hqw] at hr ⊢
      exact u.reserve_headStage g w hr
    · rw [State.headStage_of_port (u.reserve_port_other g w hqw)]
      exact hstaged q hq
  · rw [State.reserve_mem, hwblock, State.handOn_mem, hmem, hclock]
    rfl

end

/-- Settles O40: by what stands behind the failed step, nothing, its waiting list, or the next head. -/
theorem failedStepLeavesNoRecord : Obligations.FailedStepLeavesNoRecord := by
  refine ⟨fun s i g st p r e c hfails hstep howner hr hqueue hheld hopen _ he hws => ?owned,
    fun s i g st e c hfails hstep howner hqueue hheld hopen _ he hws => ?orphan,
    fun s i g st e c w more hfails hstep hqueue hheld hopen _ hfits he heg hws hprior hheads hquota hroom => ?waiters,
    fun s i g st e c q more rq prior hfails hstep hqueue hheld hstate hsorted he hws howner hrq _ hne htakes => ?next⟩
  case owned =>
    have hqueue' : (s.group g).queue = st.owner.toList := by rw [howner]; exact hqueue
    have hgroup := State.endFailedStep_group (s := s.placeFreed i) (rest := []) (by rw [List.append_nil]; exact hqueue')
      fun _ _ => List.not_mem_nil
    have htable := (s.placeFreed i).endFailedStep_table g st
    obtain ⟨hrefusal, hcount, hlatched, hanswered⟩ := State.endFailedStep_refuses (s := s.placeFreed i) (g := g) howner hr
    refine ⟨_, exec_of_stepFails hfails hstep, ?_⟩
    rw [State.stepFailed_of_alone (s := s.placeFreed i) hheld hqueue' hopen he hws]
    refine ⟨hgroup, (s.placeFreed i).othersKept_endFailedStep g st, ?_, fun b hb => ?_,
      (s.placeFreed i).endFailedStep_mem g st, hrefusal, hcount, hlatched, hanswered,
      fun q hq => State.endFailedStep_other (s := s.placeFreed i) fun heq => hq ?_⟩
    · rw [htable, findEntry_failEntry_self (l := (s.placeFreed i).table) st.prior he]
      exact TrackEntry.acknowledged_map hws st.prior
    · rw [htable]
      exact findEntry_failEntry_other (l := (s.placeFreed i).table) st.prior he hb
    · rw [howner] at heq
      exact (Option.some.inj heq).symm
  case orphan =>
    have hqueue' : (s.group g).queue = st.owner.toList := by rw [howner]; exact hqueue
    have hgone : (s.placeFreed i).endFailedStep g st = (s.placeFreed i).stepGone g st := by
      rw [State.endFailedStep_eq, howner]
      rfl
    have hgroup := (s.placeFreed i).stepGone_group g st
    have htable : ((s.placeFreed i).stepGone g st).table = failEntry st.block st.prior (s.placeFreed i).table := rfl
    refine ⟨_, exec_of_stepFails hfails hstep, ?_⟩
    rw [State.stepFailed_of_alone (s := s.placeFreed i) hheld hqueue' hopen he hws, hgone]
    refine ⟨rfl, hgroup, (s.placeFreed i).othersKept_stepGone g st, ?_, fun b hb => ?_⟩
    · rw [htable, findEntry_failEntry_self (l := (s.placeFreed i).table) st.prior he]
      exact TrackEntry.acknowledged_map hws st.prior
    · rw [htable]
      exact findEntry_failEntry_other (l := (s.placeFreed i).table) st.prior he hb
  case waiters =>
    have hblocks : ∀ q ∈ w :: more, st.owner ≠ some q ∧ (s.placeFreed i).headBlock q = st.block := fun q hq => by
      obtain ⟨hne, r, hr, hb⟩ := hheads q hq
      exact ⟨hne, (State.headBlock_of_head hr).trans hb⟩
    have htakes := State.requeued_takesStep (s := s.placeFreed i) hqueue hfits he heg hprior hquota hroom (w :: more)
    obtain ⟨hlast, hwblock⟩ := State.stepFailed_of_waiters (s := s.placeFreed i) hheld hqueue hopen he hws hprior hblocks htakes
    obtain ⟨hgroup, hothers, hself, hother, hstages, hmem⟩ := State.requeued_reserve_spec (s := s.placeFreed i) hqueue (hheld g)
      he heg hwblock (State.startDecision_of_takesStep htakes).2 fun q hq =>
        ⟨(hheads q hq).1, (hheads q hq).2.imp fun r hr => hr.1⟩
    refine ⟨_, exec_of_stepFails hfails hstep, ?_⟩
    rw [hlast]
    refine ⟨hgroup, hothers, hself, hother, hstages, hmem, fun p r hp hr => ?_⟩
    have hpw : p ∉ w :: more := fun hmem => (hheads p hmem).1 hp
    rw [State.reserve_port_other _ g w (fun heq => hpw (heq ▸ List.mem_cons_self)), State.requeued_port,
      stagesOf_of_not_mem hpw]
    exact State.endFailedStep_refusal (s := s.placeFreed i) hp hr
  case next =>
    obtain ⟨hlast, hhead, htakesLast⟩ := State.stepFailed_of_next (s := s.placeFreed i) hheld hqueue
      (GroupState.journaling_iff.2 hstate) hsorted he hws howner hrq hne htakes
    have hgroup := State.endFailedStep_group (s := s.placeFreed i) hqueue howner
    have htable := (s.placeFreed i).endFailedStep_table g st
    have hothers := (s.placeFreed i).othersKept_endFailedStep g st
    have hmem := (s.placeFreed i).endFailedStep_mem g st
    have hclock := (s.placeFreed i).endFailedStep_clock g st
    have hrefuses : ∀ p r, st.owner = some p → s.head p = some r →
        s.headAnswered ((s.placeFreed i).endFailedStep g st) p r
          ∧ (((s.placeFreed i).endFailedStep g st).port p).refusal.map (fun x => (x.addr, x.reason))
            = some (r.addr, .memoryError) := fun p r hp hr => by
      obtain ⟨-, -, -, hanswered⟩ := State.endFailedStep_refuses (s := s.placeFreed i) (g := g) hp hr
      exact ⟨hanswered, State.endFailedStep_refusal (s := s.placeFreed i) hp hr⟩
    obtain ⟨u, hu⟩ : ∃ u, u = (s.placeFreed i).endFailedStep g st := ⟨_, rfl⟩
    rw [← hu] at hlast hhead htakesLast hgroup htable hothers hmem hclock hrefuses
    obtain ⟨htakenStep, htakenStage, htakenEntry⟩ := State.stepTaken_reserve hhead rfl htakesLast
    have hblock : u.headBlock q = blockOf rq.addr := State.headBlock_of_head hhead
    refine ⟨_, exec_of_stepFails hfails hstep, ?_⟩
    rw [hlast]
    refine ⟨⟨?_, htakenStage, ?_⟩, ?_, State.othersKept_trans hothers (u.othersKept_reserve g q), ?_, ?_, fun p r hp hr => ?_⟩
    · rw [htakenStep, hgroup]
      rfl
    · rw [htable, findEntry_failEntry_other (l := (s.placeFreed i).table) st.prior he hne, hgroup] at htakenEntry
      exact htakenEntry
    · rw [State.reserve_group, hgroup]
      conv_rhs => rw [← Group.with_hold_none (hheld g)]
      rfl
    · rw [State.reserve_findEntry_other u g q (by rw [hblock]; exact hne.symm), htable,
        findEntry_failEntry_self (l := (s.placeFreed i).table) st.prior he]
      exact congrArg (fun f => Option.map f st.prior) (funext fun n => TrackEntry.acknowledged_eq hws n)
    · rw [State.reserve_mem, hblock, State.handOn_mem, hmem, hclock]
      rfl
    · obtain ⟨hanswered, hrefusal⟩ := hrefuses p r hp hr
      have hport := u.reserve_port_other g q (q := p) fun heq => howner p hp (heq ▸ List.mem_cons_self)
      refine ⟨State.headAnswered_of_port hanswered hport rfl, ?_⟩
      rw [hport]
      exact hrefusal

end Sys2Proof.Machine
end

section
/-! The end of a step in a group that drains (R54, R70, R77). -/

namespace Sys2Proof.Machine

section
variable {s : State} {i : PlaceId} {g : GroupId} {st : JournalStep} {e : TrackEntry} {p : PortId} {r : Request}

/-- The stage in which an undo or a rollback holds what a step releases (R11). -/
theorem GroupState.releaseStage_of_draining {k : GroupState} (h : k = .unwinding ∨ k = .rollingBack) :
    k.releaseStage = .held (if k = .unwinding then .unwinding else .rollingBack) := by
  rcases h with rfl | rfl <;> rfl

/-- The states that hold what a step releases. -/
theorem GroupState.releaseStage_of_drainStates {k : GroupState} (h : k ∈ [GroupState.unwinding, .rollingBack, .committing]) :
    some k.releaseStage = k.holding.map .held := by
  simp only [List.mem_cons, List.not_mem_nil, or_false] at h
  rcases h with rfl | rfl | rfl <;> rfl

/-- An undo or a rollback that drains goes on behind the journal as the record leaves it (R54, R77). -/
theorem State.drainsTo_recordAcknowledged (hstate : (s.group g).state = .unwinding ∨ (s.group g).state = .rollingBack)
    (hqueue : (s.group g).queue = st.owner.toList) (hphase : (s.group g).phase = some .drain)
    (hslots : 3 ≤ (s.group g).config.slots) :
    s.drainsTo (s.recordAcknowledged g st) g ((s.group g).journalLength + 1) := by
  rw [State.recordAcknowledged_of_draining hstate hqueue]
  obtain ⟨u, hu⟩ : ∃ u, u = ((s.recorded g st).stageHeads (stagesOf (st.owner.toList ++ waitersOf s.table st.block)
    (s.group g).state.releaseStage)).modGroup g fun x => { x with queue := [], putBack := x.putBack ++ st.owner.toList } :=
    ⟨_, rfl⟩
  have hgroup : u.group g = { s.group g with
      journalLength := (s.group g).journalLength + 1, step := none, stats := (s.group g).stats.addRecord, queue := []
      putBack := (s.group g).putBack ++ st.owner.toList } := by
    rw [hu, State.modGroup_group_self, State.stageHeads_group, State.recorded_group]
  have hdrain := State.drainsTo_drainCheck (s := u) (u := s) (g := g) (by rw [hgroup]; exact hphase) (by rw [hgroup])
    (by rw [hgroup]; exact hslots) (by rw [hu]; rfl) (by rw [hu]; rfl) (by rw [hgroup])
  rw [← hu]
  rw [hgroup] at hdrain
  exact hdrain

/-! ### A failed step -/

/-- The state once a step of a draining group has failed, before its drain is looked at. -/
def State.failedHeld (s : State) (g : GroupId) (st : JournalStep) : State :=
  (s.endFailedStep g st).stageHeads (stagesOf (waitersOf s.table st.block) (s.group g).state.releaseStage)

theorem State.failedHeld_group (hqueue : (s.group g).queue = st.owner.toList) :
    (s.failedHeld g st).group g = { s.group g with queue := [], step := none } := by
  rw [State.failedHeld, State.stageHeads_group,
    State.endFailedStep_group (rest := []) (by rw [List.append_nil]; exact hqueue) fun _ _ => List.not_mem_nil]

/-- In a group that drains the waiting list is held, and no step starts (R27, R39). -/
theorem State.stepFailed_of_draining (hstate : (s.group g).state ∈ [GroupState.unwinding, .rollingBack, .committing])
    (hqueue : (s.group g).queue = st.owner.toList) (hheld : s.noneHeld) :
    s.stepFailed g st = (s.failedHeld g st).drainCheck g := by
  have hqueue' : (s.group g).queue = st.owner.toList ++ [] := by rw [List.append_nil]; exact hqueue
  have hended := State.endFailedStep_group hqueue' fun _ _ => List.not_mem_nil
  have hnone := State.noneHeld_endFailedStep hheld hqueue' fun _ _ => List.not_mem_nil
  have hnot : ((s.endFailedStep g st).group g).state ≠ .opened ∧ ((s.endFailedStep g st).group g).state ≠ .voting := by
    rw [hended]
    constructor <;> intro h <;> rw [h] at hstate <;> revert hstate <;> decide
  have hwaits : (s.endFailedStep g st).queueWaiters g (waitersOf s.table st.block) = s.failedHeld g st := by
    rw [State.queueWaiters_of_not_judging hnot, hended]
    rfl
  refine State.stepFailed_of_noneHeld hnone ?_ hnone
  rw [State.afterFailure, hwaits, State.startHeads, State.failedHeld_group hqueue]
  rfl

/-- What the failed step of a draining group leaves beside its drain. -/
theorem State.stepFailed_draining_spec (hstate : (s.group g).state ∈ [GroupState.unwinding, .rollingBack, .committing])
    (hqueue : (s.group g).queue = st.owner.toList) (hheld : s.noneHeld) (he : findEntry s.table st.block = some e)
    (hslots : (s.group g).state = .unwinding → 3 ≤ (s.group g).config.slots) :
    ((s.stepFailed g st).group g).state = (s.group g).state
      ∧ ((s.stepFailed g st).group g).journalLength = (s.group g).journalLength
      ∧ ((s.stepFailed g st).group g).marks = (s.group g).marks ∧ ((s.stepFailed g st).group g).queue = []
      ∧ ((s.stepFailed g st).group g).step = none ∧ ((s.stepFailed g st).group g).putBack = (s.group g).putBack
      ∧ s.othersKept (s.stepFailed g st) g
      ∧ (s.stepFailed g st).table = failEntry st.block st.prior s.table
      ∧ (∀ p r, st.owner = some p → s.head p = some r →
          ((s.stepFailed g st).port p).refusal.map (fun x => (x.addr, x.reason)) = some (r.addr, .memoryError))
      ∧ (∀ q r, q ∈ e.waiters → st.owner ≠ some q → s.head q = some r →
          (s.stepFailed g st).headStage q = (s.group g).state.holding.map .held) := by
  have hgroup := State.failedHeld_group (s := s) hqueue
  obtain ⟨hrest, hothers, -, hkept⟩ := State.drainCheck_frame (s := s.failedHeld g st) (g := g)
    (by rw [hgroup]; exact hslots)
  obtain ⟨hs, -, -, -, -, -, -, -, hmarks, hlength, hstep, hempty, hput⟩ := Group.kept_of_atPhase hkept
  rw [hgroup] at hs hmarks hlength hstep hempty hput
  have hport : ∀ q, ((s.failedHeld g st).drainCheck g).port q = (s.failedHeld g st).port q := fun q => by
    rw [hrest]
    rfl
  rw [State.stepFailed_of_draining hstate hqueue hheld]
  refine ⟨hs, hlength, hmarks, hempty, hstep, hput, State.othersKept_trans (s.othersKept_endFailedStep g st) hothers, ?_,
    fun p r hp hr => ?_, fun q r hq hne hr => ?_⟩
  · rw [hrest]
    exact s.endFailedStep_table g st
  · rw [hport, State.failedHeld, State.stageHeads_port, Port.staged_refusal]
    exact State.endFailedStep_refusal hp hr
  · have hended : (s.endFailedStep g st).headStage q = some r.stage :=
      (State.headStage_of_port (State.endFailedStep_other hne)).trans (State.headStage_of_head hr)
    have hq' : q ∈ waitersOf s.table st.block := by rw [waitersOf_of_found he]; exact hq
    rw [State.headStage_of_port (hport q), State.failedHeld,
      State.stageHeads_headStage_of_some (stagesOf_of_mem hq') (GroupState.releaseStage_undecided _), hended]
    exact GroupState.releaseStage_of_drainStates hstate

/-- The drain goes on behind the journal as the failed step leaves it (R54, R70, R77). -/
theorem State.drains_stepFailed (hstate : (s.group g).state ∈ [GroupState.unwinding, .rollingBack, .committing])
    (hqueue : (s.group g).queue = st.owner.toList) (hheld : s.noneHeld)
    (hdrain : (s.group g).state = .committing ∨ ((s.group g).phase = some .drain ∧ 3 ≤ (s.group g).config.slots)) :
    if (s.group g).state = .committing then s.commitDrainsTo (s.stepFailed g st) g
    else s.drainsTo (s.stepFailed g st) g (s.group g).journalLength := by
  have hgroup := State.failedHeld_group (s := s) hqueue
  have hmem : s.mem = (s.failedHeld g st).mem := (s.endFailedStep_mem g st).symm
  have hclock : s.clock = (s.failedHeld g st).clock := (s.endFailedStep_clock g st).symm
  rw [State.stepFailed_of_draining hstate hqueue hheld]
  split
  next hcommitting =>
    exact State.commitDrainsTo_drainCheck (by rw [hgroup]; exact hcommitting) (by rw [hgroup]) (by rw [hgroup]) hmem hclock
      (by rw [hgroup]) (by rw [hgroup])
  next hnot =>
    obtain ⟨hphase, hslots⟩ := hdrain.resolve_left hnot
    have h := State.drainsTo_drainCheck (u := s) (s := s.failedHeld g st) (g := g) (by rw [hgroup]; exact hphase)
      (by rw [hgroup]) (by rw [hgroup]; exact hslots) hmem hclock (by rw [hgroup])
    rw [hgroup] at h
    exact h

/-! ### A commit whose queue ends empty (R46, R72) -/

/-- In COMMITTING the step's write that was reserved at a lower level is refused where the journal is full (R46). -/
theorem State.recorded_refused (hstate : (s.group g).state = .committing) (hhold : (s.group g).hold = none)
    (hqueue : (s.group g).queue = [p]) (he : findEntry s.table st.block = some e) (hblock : s.headBlock p = st.block)
    (hlevel : st.level ≠ (s.group g).marks.length)
    (hfull : (s.group g).config.slots - 2 ≤ (s.group g).journalLength + 1) :
    (s.recorded g st).settleStepWrite g st.owner = (s.recorded g st).refuseOverflow g p .journalFull := by
  have hfind := State.recorded_findEntry_self g he
  have hgroup := s.recorded_group g st
  have hmeets : (s.recorded g st).meetsOverflow g st.block .journalFull := by
    refine .inl ⟨rfl, ?_, .inr ⟨_, hfind, rfl, ?_⟩⟩
    · rw [hgroup]
      exact hfull
    · rw [hgroup]
      exact fun heq => hlevel (Option.some.inj heq)
  have hqueue' : ((s.recorded g st).group g).queue = [p] := by rw [hgroup]; exact hqueue
  have hhead : (s.recorded g st).headBlock p = st.block := hblock
  rw [State.settleStepWrite_of_not_draining (by rw [hgroup, hstate]; exact ⟨nofun, nofun⟩), State.startHeads, hqueue',
    State.runQueue_of_refuse (State.recorded_canStart (.inr (.inr hstate)) hhold) (by
      rw [hhead]
      exact State.startDecision_of_meetsOverflow hmeets) (Group.overflowAct_of_committing (by rw [hgroup]; exact hstate)),
    State.runQueue_nil]

/-- A commit whose step has ended with nothing left in the queue: the held heads and the drain. -/
theorem State.committing_settled_spec {u : State} {ws : List PortId} (hstate : (u.group g).state = .committing)
    (hqueue : (u.group g).queue = []) (hstep : (u.group g).step = none) (hmem : s.mem = u.mem) (hclock : s.clock = u.clock)
    (hconfig : (s.group g).config = (u.group g).config) (hepoch : (s.group g).closedEpoch = (u.group g).closedEpoch) :
    (∀ k, ((u.stageHeads (stagesOf ws (.held .committing))).drainCheck g).group k = u.group k)
      ∧ ((u.stageHeads (stagesOf ws (.held .committing))).drainCheck g).ports
        = (u.stageHeads (stagesOf ws (.held .committing))).ports
      ∧ s.commitDrainsTo ((u.stageHeads (stagesOf ws (.held .committing))).drainCheck g) g := by
  have hrest := State.drainCheck_committing_rest (s := u.stageHeads (stagesOf ws (.held .committing))) (g := g) hstate
  refine ⟨fun k => by rw [hrest]; rfl, by rw [hrest], ?_⟩
  exact State.commitDrainsTo_drainCheck (s := u.stageHeads (stagesOf ws (.held .committing))) hstate hqueue hstep hmem hclock
    hconfig hepoch

end

/-- Settles O41: clause by clause, the record acknowledged and the failure in a draining group, and the two ways in which a
commit's queue ends empty. -/
theorem stepEndEndsTheDrain : Obligations.StepEndEndsTheDrain := by
  refine ⟨fun s i g st e data hown hstep hqueue he hstate hphase hslots => ?recorded,
    fun s i g st e c hfails hstep hqueue hheld _ he hstate hdrain => ?failed,
    fun s i g st data hown hstep _ hqueue hstate => ?orphan,
    fun s i g st p r e data hown hstep howner hr hblock hqueue hhold hstate _ he hlevel hfull => ?refused⟩
  case recorded =>
    obtain ⟨hlength, -, hs, -, hmarks, hempty, hnone, hput, hothers, -, hstages⟩ :=
      State.recordAcknowledged_draining_spec (s := s.placeFreed i) hstate hqueue
    refine ⟨_, exec_recordWrite_of_step hown hstep data, hs, hlength, hmarks, hempty, hnone, hput, hothers, fun q r hq hr => ?_,
      State.drainsTo_recordAcknowledged (s := s.placeFreed i) hstate hqueue hphase hslots⟩
    have hmem : q ∈ st.owner.toList ++ waitersOf s.table st.block := by
      rw [waitersOf_of_found he]
      exact List.mem_append.2 (hq.symm.imp_left Option.mem_toList.2)
    rw [hstages q r hmem hr]
    exact congrArg some (GroupState.releaseStage_of_draining hstate)
  case failed =>
    obtain ⟨hs, hlength, hmarks, hempty, hnone, hput, hothers, htable, hrefusals, hstages⟩ :=
      State.stepFailed_draining_spec (s := s.placeFreed i) hstate hqueue hheld he fun h =>
        (hdrain.resolve_left fun hc => absurd (h.symm.trans hc) nofun).2
    refine ⟨_, exec_of_stepFails hfails hstep, hs, hlength, hmarks, hempty, hnone, hput, hothers, ?_, fun b hb => ?_, hrefusals,
      hstages, State.drains_stepFailed (s := s.placeFreed i) hstate hqueue hheld hdrain⟩
    · rw [htable, findEntry_failEntry_self (l := (s.placeFreed i).table) st.prior he]
      rfl
    · rw [htable]
      exact findEntry_failEntry_other (l := (s.placeFreed i).table) st.prior he hb
  case orphan =>
    have hgroup := (s.placeFreed i).recorded_group g st
    obtain ⟨hkept, -, hdrain⟩ := State.committing_settled_spec (s := s.placeFreed i) (g := g)
      (u := (s.placeFreed i).recorded g st) (ws := waitersOf (s.placeFreed i).table st.block) (by rw [hgroup]; exact hstate)
      (by rw [hgroup]; exact hqueue) (by rw [hgroup]) rfl rfl (by rw [hgroup]) (by rw [hgroup])
    refine ⟨_, exec_recordWrite_of_step hown hstep data, ?_⟩
    rw [State.recordAcknowledged_of_settled (s := s.placeFreed i)
      (State.recorded_settle_orphan (s := s.placeFreed i) hstate hqueue) (by rw [hgroup]; exact hstate)]
    refine ⟨?_, ?_, ?_, ?_, fun k hk => (hkept k).trans ((s.placeFreed i).othersKept_recorded g st k hk), hdrain⟩
    · rw [hkept, hgroup]
      exact hstate
    · rw [hkept, hgroup]
      rfl
    · rw [hkept, hgroup]
      exact hqueue
    · rw [hkept, hgroup]
  case refused =>
    have hblock' : (s.placeFreed i).headBlock p = st.block := (State.headBlock_of_head hr).trans hblock
    obtain ⟨u, hu⟩ : ∃ u, u = ((s.placeFreed i).recorded g st).refuseOverflow g p .journalFull := ⟨_, rfl⟩
    have hgroup : u.group g = { s.group g with
        journalLength := (s.group g).journalLength + 1, step := none, stats := (s.group g).stats.addRecord.addOverflow
        queue := [], hold := none } := by
      rw [hu, State.refuseOverflow_group, State.recorded_group, State.placeFreed_group, hqueue]
      rfl
    have hothers : s.othersKept u g := by
      rw [hu]
      exact State.othersKept_trans ((s.placeFreed i).othersKept_recorded g st)
        (((s.placeFreed i).recorded g st).othersKept_refuseOverflow g p .journalFull)
    have hrefusal : (u.port p).refusal.map (fun x => (x.addr, x.reason)) = some (r.addr, .journalFull) := by
      rw [hu]
      exact ((s.placeFreed i).recorded g st).refuseOverflow_refusal g p .journalFull hr
    have hclock : u.clock = s.clock + 1 := by
      rw [hu, State.refuseOverflow, State.refuseHead_clock]
      rfl
    have hmem : u.mem = (s.placeFreed i).mem := by
      rw [hu, State.refuseOverflow_mem]
      rfl
    obtain ⟨hkept, hports, hdrain⟩ := State.committing_settled_spec (s := s.placeFreed i) (g := g) (u := u)
      (ws := waitersOf (s.placeFreed i).table st.block) (by rw [hgroup]; exact hstate) (by rw [hgroup]) (by rw [hgroup]) hmem.symm
      hclock.symm (by rw [hgroup]; rfl) (by rw [hgroup]; rfl)
    refine ⟨_, exec_recordWrite_of_step hown hstep data, ?_⟩
    rw [State.recordAcknowledged_of_settled (s := s.placeFreed i) (u := u)
      ((State.recorded_refused (s := s.placeFreed i) hstate hhold hqueue he hblock' hlevel hfull).trans hu.symm)
      (by rw [hgroup]; exact hstate)]
    refine ⟨?_, ?_, ?_, ?_, ?_, fun k hk => (hkept k).trans (hothers k hk), fun hws => ?_, hdrain⟩
    · rw [hkept, hgroup]
      exact hstate
    · rw [hkept, hgroup]
    · rw [hkept, hgroup]
      rfl
    · rw [hkept, hgroup]
    · rw [hkept, hgroup]
    · rw [← hrefusal, State.port, hports, ← State.port, State.stageHeads_port, Port.staged_refusal]

end Sys2Proof.Machine
end

section
/-! Trigger events (R163 to R166): the snapshot, and the groups that a trigger rolls back. -/

namespace Sys2Proof.Machine

/-! ### Ports whose heads a rollback may have held -/

/-- From `x` to `y` nothing but the head has moved, and it only into the hold of ROLLING_BACK. -/
def Port.rolledTo (x y : Port) : Prop := y = x ∨ y = x.staged (some (.held .rollingBack))

/-- From `s` to `t` the ports have had no more done to them than their heads held by ROLLING_BACK. -/
def State.portsRolled (s t : State) : Prop := ∀ p, (s.port p).rolledTo (t.port p)

theorem Port.staged_staged (x : Port) {k : Stage} (h : k.undecided = true) :
    (x.staged (some k)).staged (some k) = x.staged (some k) := by
  have hmap : mapHead (fun r => r.atStage k) (mapHead (fun r => r.atStage k) x.queue)
      = mapHead (fun r => r.atStage k) x.queue := mapHead_mapHead (fun _ => h) _ x.queue
  simp only [Port.staged, hmap]

theorem Port.rolledTo.trans {x y z : Port} (h : x.rolledTo y) (k : y.rolledTo z) : x.rolledTo z := by
  rcases h with rfl | rfl
  · exact k
  · rcases k with rfl | rfl
    · exact .inr rfl
    · exact .inr (x.staged_staged rfl)

theorem Port.staged_stagesOf (x : Port) (ps : List PortId) (k : Stage) (p : PortId) :
    x.staged (stagesOf ps k p) = x ∨ x.staged (stagesOf ps k p) = x.staged (some k) := by
  by_cases h : p ∈ ps
  · exact .inr (by rw [stagesOf_of_mem h])
  · exact .inl (by rw [stagesOf_of_not_mem h]; rfl)

section
variable {s t u v : State} {g : GroupId} {p : PortId}

theorem State.portsRolled.refl (s : State) : s.portsRolled s := fun _ => .inl rfl

theorem State.portsRolled.trans (h : s.portsRolled t) (k : t.portsRolled u) : s.portsRolled u := fun p => (h p).trans (k p)

theorem State.portsRolled_enterRollingBack (s : State) (g : GroupId) (c : CloseCause) :
    s.portsRolled (s.enterRollingBack g c) := fun p => by
  rw [State.enterRollingBack_port, State.stageHeads_port]
  exact Port.staged_stagesOf ..

theorem State.portsRolled_abortCause (s : State) (g : GroupId) (c : CloseCause) : s.portsRolled (s.abortCause g c) := by
  rcases s.abortCause_cases g c with h | h
  · rw [h]
    exact .refl s
  · rw [h]
    exact s.portsRolled_enterRollingBack g c

/-- A head stays at its stage, or is held by ROLLING_BACK. -/
theorem State.portsRolled.headStage (h : s.portsRolled t) (p : PortId) :
    t.headStage p = s.headStage p ∨ t.headStage p = (s.headStage p).map fun _ => .held .rollingBack := by
  rcases h p with hp | hp
  · exact .inl (State.headStage_of_port hp)
  · refine .inr ?_
    have hstaged := State.stageHeads_headStage_of_some (s := s) (σ := fun _ => some (.held .rollingBack)) (p := p) rfl rfl
    rw [← hstaged]
    exact State.headStage_of_port (hp.trans (s.stageHeads_port (fun _ => some (.held .rollingBack)) p).symm)

theorem State.portsRolled.held (h : s.portsRolled t) (hp : s.headStage p = some (.held .rollingBack)) :
    t.headStage p = some (.held .rollingBack) := by
  rcases h.headStage p with hp' | hp'
  · rw [hp', hp]
  · rw [hp', hp]
    rfl

theorem State.portsRolled.headGroup (h : s.portsRolled t) (p : PortId) : (t.port p).headGroup = (s.port p).headGroup := by
  rcases h p with hp | hp
  · rw [hp]
  · rw [hp, Port.staged_headGroup]

/-- A group's entry to ROLLING_BACK is seen through the entries of other groups before and after it. -/
theorem State.rolledInto_of_portsRolled {c : CloseCause} (hbefore : s.portsRolled u) (hgroup : u.group g = s.group g)
    (hbetween : u.portsRolled v) (hinto : u.rolledInto v g c) (hafter : v.portsRolled t)
    (hlast : t.group g = v.group g) : s.rolledInto t g c := by
  simp only [State.rolledInto, hgroup] at hinto ⊢
  obtain ⟨hstate, hclose, hcause, htimer, hhold, hconfig, hepoch, hvotes, hmarks, hlength, hstep, hqueue, hput, hqueued, hheld⟩ :=
    hinto
  refine ⟨hlast ▸ hstate, hlast ▸ hclose, hlast ▸ hcause, hlast ▸ htimer, hlast ▸ hhold, hlast ▸ hconfig, hlast ▸ hepoch,
    hlast ▸ hvotes, hlast ▸ hmarks, hlast ▸ hlength, hlast ▸ hstep, hlast ▸ hqueue, hlast ▸ hput, fun p r hr hp hne => ?_,
    fun p hp hin => ?_⟩
  · obtain ⟨x, hx⟩ : ∃ x, u.head p = some x := by
      have hsome := State.headStage_of_head hr
      rcases hbefore.headStage p with h | h <;> rw [hsome] at h
      · exact (State.head_of_headStage h).imp fun _ => And.left
      · exact (State.head_of_headStage h).imp fun _ => And.left
    exact hafter.held (hqueued p x hx hp hne)
  · rcases hbefore.headStage p with h | h
    · exact hafter.held (hheld p (h.trans hp) ((hbefore.headGroup p).trans hin))
    · rw [hp] at h
      exact hafter.held (hbetween.held h)

/-! ### An abort cause for several groups (R165) -/

theorem State.abortCause_of_not_abortable (h : (s.group g).state ∉ abortedStates) (c : CloseCause) :
    s.abortCause g c = s := if_neg fun ha => h (State.abortable_iff.1 ha)

theorem State.abortCause_of_aborted (h : (s.group g).state ∈ abortedStates) (c : CloseCause) :
    s.abortCause g c = s.enterRollingBack g c := if_pos (State.abortable_iff.2 h)

theorem State.othersKept_abortCause (s : State) (g : GroupId) (c : CloseCause) : s.othersKept (s.abortCause g c) g := by
  rcases s.abortCause_cases g c with h | h
  · rw [h]
    exact fun _ _ => rfl
  · rw [h]
    exact s.othersKept_enterRollingBack g c

theorem State.abortCause_rest (s : State) (g : GroupId) (c : CloseCause) :
    ∃ gs ps m, s.abortCause g c = { s with groups := gs, ports := ps, mem := m } := by
  rcases s.abortCause_cases g c with h | h
  · exact ⟨_, _, _, h⟩
  · obtain ⟨hrest, -⟩ := s.enterRollingBack_frame g c
    exact ⟨_, _, _, h.trans hrest⟩

theorem State.triggerGroups_cons (s : State) (n : TrigId) (g : GroupId) (gs : List GroupId) :
    s.triggerGroups n (g :: gs) = (s.abortCause g (.trigger n)).triggerGroups n gs := rfl

/-- A trigger moves groups, ports and the memory port alone. -/
theorem State.triggerGroups_rest (s : State) (n : TrigId) (gs : List GroupId) :
    ∃ xs ps m, s.triggerGroups n gs = { s with groups := xs, ports := ps, mem := m } := by
  induction gs generalizing s with
  | nil => exact ⟨_, _, _, rfl⟩
  | cons g gs ih =>
    obtain ⟨xs, ps, m, hfirst⟩ := s.abortCause_rest g (.trigger n)
    rw [State.triggerGroups_cons, hfirst]
    exact ih { s with groups := xs, ports := ps, mem := m }

theorem State.portsRolled_triggerGroups (s : State) (n : TrigId) (gs : List GroupId) : s.portsRolled (s.triggerGroups n gs) := by
  induction gs generalizing s with
  | nil => exact .refl s
  | cons g gs ih =>
    rw [State.triggerGroups_cons]
    exact (s.portsRolled_abortCause g _).trans (ih _)

theorem State.triggerGroups_group_of_not_mem {n : TrigId} {gs : List GroupId} (h : g ∉ gs) (s : State) :
    (s.triggerGroups n gs).group g = s.group g := by
  induction gs generalizing s with
  | nil => rfl
  | cons k gs ih =>
    obtain ⟨hk, hgs⟩ : g ≠ k ∧ g ∉ gs := by simpa using h
    rw [State.triggerGroups_cons, ih hgs, s.othersKept_abortCause k _ g hk]

theorem State.triggerGroups_group_of_not_abortable {n : TrigId} {gs : List GroupId} (s : State)
    (h : (s.group g).state ∉ abortedStates) : (s.triggerGroups n gs).group g = s.group g := by
  induction gs generalizing s with
  | nil => rfl
  | cons k gs ih =>
    rw [State.triggerGroups_cons]
    by_cases hk : g = k
    · subst hk
      rw [State.abortCause_of_not_abortable h]
      exact ih s h
    · have hkept := s.othersKept_abortCause k (.trigger n) g hk
      exact (ih _ (by rw [hkept]; exact h)).trans hkept

/-- Each group in an abortable state that the trigger names enters ROLLING_BACK (R165). -/
theorem State.rolledInto_triggerGroups {n : TrigId} {gs : List GroupId} (hnodup : gs.Nodup) (hg : g ∈ gs) (s : State)
    (h : (s.group g).state ∈ abortedStates) : s.rolledInto (s.triggerGroups n gs) g (.trigger n) := by
  induction gs generalizing s with
  | nil => cases hg
  | cons k gs ih =>
    obtain ⟨hk, hgs⟩ := List.nodup_cons.1 hnodup
    rw [State.triggerGroups_cons]
    by_cases hgk : g = k
    · subst hgk
      rw [State.abortCause_of_aborted h]
      exact State.rolledInto_of_portsRolled (.refl s) rfl (s.portsRolled_enterRollingBack g _)
        (s.rolledInto_enterRollingBack g _) (State.portsRolled_triggerGroups _ n gs)
        (State.triggerGroups_group_of_not_mem hk _)
    · have hkept := s.othersKept_abortCause k (.trigger n) g hgk
      have hinto := ih hgs ((List.mem_cons.1 hg).resolve_left hgk) (s.abortCause k (.trigger n)) (by rw [hkept]; exact h)
      exact State.rolledInto_of_portsRolled (s.portsRolled_abortCause k _) hkept
        (State.portsRolled_triggerGroups _ n gs) hinto (.refl _) rfl

end

/-! ### The event (R163, R164) -/

/-- The flag of a trigger's cause is its own bit (R168, R175). -/
theorem Cause.flag_getLsbD (c : Cause) (i : Fin 21) : c.flag.getLsbD i.val = decide (i.val = c.bit) := by
  rw [Cause.flag, BitVec.getLsbD_ofNat, Nat.testBit_two_pow, decide_eq_true i.isLt, Bool.true_and, decide_eq_decide]
  exact eq_comm

section
variable (s : State) (n : TrigId)

/-- The state as the event leaves its own input and the alerts, before it reaches any group. -/
def State.risen (s : State) (n : TrigId) : State :=
  (s.modTrigger n fun t => t.risen (s.snapshotOf n)).latch (.trigger n)

theorem State.triggerEvent_eq : s.triggerEvent n = (s.risen n).triggerGroups n (s.trigger n).targets := rfl

theorem State.risen_trigger : (s.risen n).trigger n = (s.trigger n).risen (s.snapshotOf n) :=
  Four.get_set_self s.triggers n _

theorem State.snapshotOf_group : ∀ g : GroupId, (s.snapshotOf n).groups.get g = s.groupShot n g
  | 0 => rfl
  | 1 => rfl
  | 2 => rfl
  | 3 => rfl

theorem State.snapshotOf_lastWrite : ∀ p : PortId, (s.snapshotOf n).lastWrites.get p = (s.port p).lastWrite
  | 0 => rfl
  | 1 => rfl
  | 2 => rfl
  | 3 => rfl

theorem Trigger.mem_targets {t : Trigger} {g : GroupId} : g ∈ t.targets ↔ t.acts g = true := by
  simp [Trigger.targets, mem_fourIds]

theorem Trigger.nodup_targets (t : Trigger) : t.targets.Nodup := List.Nodup.filter _ (by decide)

theorem Trigger.targets_eq_nil {t : Trigger} (h : t.action ≠ .rollback) : t.targets = [] :=
  List.filter_eq_nil_iff.2 fun g _ => by simp [Trigger.acts, h]

end

section
variable {s : State} {n : TrigId} {g : GroupId}

theorem exec_triggerEvent (hpin : s.resetPin = false) (hlevel : (s.trigger n).level = false) :
    exec (.triggerEvent n) s = .next (s.tick.triggerEvent n) := by
  rw [exec, execTriggerEvent, if_pos ⟨hpin, hlevel⟩]

/-- The group as the event finds it (R164). -/
theorem State.groupShot_fields : (s.groupShot n g).state = (s.group g).state
    ∧ (s.groupShot n g).closedEpoch = (s.group g).closedEpoch
    ∧ (s.groupShot n g).journalLength = (s.group g).journalLength ∧ (s.groupShot n g).level = (s.group g).level :=
  ⟨rfl, rfl, rfl, rfl⟩

theorem State.groupShot_of_idle (h : (s.trigger n).action ≠ .rollback) : s.groupShot n g = {
    state := (s.group g).state, closedEpoch := (s.group g).closedEpoch, journalLength := (s.group g).journalLength
    level := (s.group g).level, outcome := .notActed } := by
  have hacts : (s.trigger n).acts g = false := by simp [Trigger.acts, h]
  rw [State.groupShot, hacts]
  rfl

theorem State.groupShot_outcome (h : (s.trigger n).action = .rollback) : (s.groupShot n g).outcome
    = if (s.trigger n).mask.get g = true then (s.group g).state.triggerOutcome else .notActed := by
  have hacts : (s.trigger n).acts g = (s.trigger n).mask.get g := by simp [Trigger.acts, h]
  rw [State.groupShot, hacts]

/-- A rollback event goes by the mask and by each group's state (R165). -/
theorem State.triggerEvent_group (h : (s.trigger n).action = .rollback) :
    ((s.trigger n).mask.get g = false ∨ (s.group g).state ∉ abortedStates → (s.triggerEvent n).group g = s.group g)
      ∧ ((s.trigger n).mask.get g = true → (s.group g).state ∈ abortedStates →
        s.rolledInto (s.triggerEvent n) g (.trigger n)) := by
  rw [State.triggerEvent_eq]
  refine ⟨fun hidle => ?_, fun hmask hstate => ?_⟩
  · rcases hidle with hmask | hstate
    · refine State.triggerGroups_group_of_not_mem (s := s.risen n) (fun hg => ?_)
      have hacts := Trigger.mem_targets.1 hg
      simp [Trigger.acts, hmask] at hacts
    · exact State.triggerGroups_group_of_not_abortable (s.risen n) hstate
  · have hg : g ∈ (s.trigger n).targets := Trigger.mem_targets.2 (by simp [Trigger.acts, h, hmask])
    exact State.rolledInto_triggerGroups (Trigger.nodup_targets _) hg (s.risen n) hstate

end

/-- Settles O15: the event's own input and alerts first, and then each group of the mask. -/
theorem triggerEventActsAsConfigured : Obligations.TriggerEventActsAsConfigured := by
  intro s n hpin hlevel
  obtain ⟨xs, ps, m, hrest⟩ := (s.tick.risen n).triggerGroups_rest n (s.tick.trigger n).targets
  have hown : (s.tick.triggerEvent n).trigger n = (s.trigger n).risen (s.tick.snapshotOf n) := by
    rw [State.triggerEvent_eq, hrest]
    exact s.tick.risen_trigger n
  have halerts : (s.tick.triggerEvent n).alerts
      = { s.alerts with latched := s.alerts.latched ||| (Cause.trigger n).flag } := by
    rw [State.triggerEvent_eq, hrest]
    rfl
  have hkept : (s.trigger n).action ≠ .rollback → (s.tick.triggerEvent n).groups = s.groups := fun h => by
    rw [State.triggerEvent_eq, Trigger.targets_eq_nil (t := s.tick.trigger n) h]
    rfl
  have hshot := s.tick.snapshotOf_group n
  have hwrites := s.tick.snapshotOf_lastWrite n
  refine ⟨_, exec_triggerEvent hpin hlevel, ?_, ?_, ?_, ?_, ?_, ?_, ?_, ?_, fun i hi => ?_, ?_⟩
  · rw [hown]
    rfl
  · rw [State.isLatched, halerts]
    exact (s.isLatched_latch (.trigger n) :)
  · rw [hown]
    rfl
  · rw [hown]
    rfl
  · rw [State.triggerEvent_eq, hrest]
    rfl
  · rw [State.triggerEvent_eq, hrest]
    rfl
  · rw [State.triggerEvent_eq, hrest]
    rfl
  · rw [halerts]
  · rw [halerts, BitVec.getLsbD_or, Cause.flag_getLsbD, Cause.bit, decide_eq_false hi, Bool.or_false]
  · cases haction : (s.trigger n).action with
    | noAction =>
      have hsame : ((s.trigger n).risen (s.tick.snapshotOf n)).snapshot = (s.trigger n).snapshot := by
        rw [Trigger.risen, haction]
      exact ⟨by rw [hown, hsame], hkept (by rw [haction]; nofun)⟩
    | note =>
      have htaken : ((s.trigger n).risen (s.tick.snapshotOf n)).snapshot = some (s.tick.snapshotOf n) := by
        rw [Trigger.risen, haction]
      refine ⟨hkept (by rw [haction]; nofun), _, by rw [hown, htaken], haction, rfl, hwrites, fun g => ?_⟩
      rw [hshot g]
      exact State.groupShot_of_idle (s := s.tick) (by rw [show (s.tick.trigger n).action = _ from haction]; nofun)
    | rollback =>
      have htaken : ((s.trigger n).risen (s.tick.snapshotOf n)).snapshot = some (s.tick.snapshotOf n) := by
        rw [Trigger.risen, haction]
      refine ⟨_, by rw [hown, htaken], haction, rfl, hwrites, fun g => ?_⟩
      rw [hshot g]
      obtain ⟨hidle, hrolled⟩ := State.triggerEvent_group (s := s.tick) (n := n) (g := g) haction
      have houtcome := State.groupShot_outcome (s := s.tick) (n := n) (g := g) haction
      refine ⟨rfl, rfl, rfl, rfl, ?_⟩
      split
      next hmask =>
        rw [show (s.tick.trigger n).mask.get g = false from hmask] at houtcome
        exact ⟨houtcome, hidle (.inl hmask)⟩
      next hmask =>
        have hmask : (s.trigger n).mask.get g = true := by simpa using hmask
        rw [show (s.tick.trigger n).mask.get g = true from hmask, if_pos rfl, State.tick_group] at houtcome
        rw [State.tick_group] at hidle hrolled
        cases hstate : (s.group g).state with
        | opened | voting | unwinding =>
          rw [hstate] at houtcome hrolled
          exact ⟨houtcome, hrolled hmask (by decide)⟩
        | disabled | unverified | formatting | recovering | closed | committing | rollingBack | faulted =>
          rw [hstate] at houtcome hidle
          exact ⟨houtcome, hidle (.inr (by decide))⟩

end Sys2Proof.Machine
end

section
/-! A port reset removes its port (R47, R133, R147, R158): nothing of the port is left, and what follows brings nothing back. -/

namespace Sys2Proof.Machine

/-! ### A machine without a port's requests -/

/-- Nothing of port `p` is in the group: no write queued or put back, and no step that waits for one. -/
def Group.without (x : Group) (p : PortId) : Prop :=
  p ∉ x.queue ∧ p ∉ x.putBack ∧ ∀ st, x.step = some st → st.owner ≠ some p

/-- Nothing of port `p` is left in the machine. -/
structure State.Gone (s : State) (p : PortId) : Prop where
  queue : (s.port p).queue = []
  channel : (s.port p).channel = none
  groups : ∀ g, (s.group g).without p
  waiters : ∀ e ∈ s.table, p ∉ e.waiters
  held : ∀ x ∈ s.mem.held, x.source = .port p → x.orphan ≠ .live

/-- From `s`, where nothing of port `p` is left, to `t` nothing of it comes back, and the vote sets stay. -/
def State.leavesGone (p : PortId) (s t : State) : Prop :=
  s.Gone p → t.Gone p ∧ t.port p = s.port p ∧ ∀ g, (t.group g).voteSet = (s.group g).voteSet

theorem Group.without_of_eq {x y : Group} {p : PortId} (h : x.without p) (hqueue : y.queue = x.queue)
    (hput : y.putBack = x.putBack) (hstep : y.step = x.step) : y.without p := by
  rw [Group.without, hqueue, hput, hstep]
  exact h

section
variable {p : PortId}

theorem State.leavesGone_refl (s : State) : s.leavesGone p s := fun h => ⟨h, rfl, fun _ => rfl⟩

theorem State.leavesGone_trans {a b c : State} (hab : a.leavesGone p b) (hbc : b.leavesGone p c) : a.leavesGone p c :=
  fun h => by
    obtain ⟨hb, hport, hvotes⟩ := hab h
    obtain ⟨hc, hport', hvotes'⟩ := hbc hb
    exact ⟨hc, hport'.trans hport, fun g => (hvotes' g).trans (hvotes g)⟩

theorem State.leavesGone_foldl {α : Type} {f : State → α → State} (hf : ∀ (s : State) x, s.leavesGone p (f s x)) (l : List α)
    (s : State) : s.leavesGone p (l.foldl f s) := by
  induction l generalizing s with
  | nil => exact s.leavesGone_refl
  | cons x l ih => exact State.leavesGone_trans (hf s x) (ih _)

/-- A move that leaves the port as it is, keeps it out of the groups and the table, and hands on nothing of it. -/
theorem State.leavesGone_of {s t : State} (hport : s.Gone p → t.port p = s.port p)
    (hgroups : ∀ g, ((s.group g).without p → (t.group g).without p) ∧ (t.group g).voteSet = (s.group g).voteSet)
    (htable : s.Gone p → ∀ e ∈ t.table, p ∉ e.waiters)
    (hheld : ∀ x ∈ t.mem.held, x ∈ s.mem.held ∨ x.source ≠ .port p) : s.leavesGone p t := fun h => by
  refine ⟨⟨?_, ?_, fun g => (hgroups g).1 (h.groups g), htable h, fun x hx hsource => ?_⟩, hport h, fun g => (hgroups g).2⟩
  · rw [hport h]
    exact h.queue
  · rw [hport h]
    exact h.channel
  · exact (hheld x hx).elim (fun hx => h.held x hx hsource) fun hne => absurd hsource hne

theorem State.leavesGone_modGroup {g : GroupId} {f : Group → Group} (s : State)
    (hf : (s.group g).without p → (f (s.group g)).without p) (hvotes : (f (s.group g)).voteSet = (s.group g).voteSet) :
    s.leavesGone p (s.modGroup g f) := by
  refine State.leavesGone_of (fun _ => rfl) (fun k => ?_) (fun h => h.waiters) fun x hx => .inl hx
  rw [State.modGroup_group]
  split
  next hk =>
    rw [hk]
    exact ⟨hf, hvotes⟩
  next => exact ⟨id, rfl⟩

/-- Staging heads cannot bring a request back: the port's queue is empty. -/
theorem State.leavesGone_stageHeads (s : State) (σ : PortId → Option Stage) : s.leavesGone p (s.stageHeads σ) := by
  refine State.leavesGone_of (fun h => ?_) (fun _ => ⟨id, rfl⟩) (fun h => h.waiters) fun x hx => .inl hx
  rw [State.stageHeads_port]
  cases hσ : σ p with
  | none => rfl
  | some k =>
    have hqueue := h.queue
    have hkept : mapHead (fun r => r.atStage k) (s.port p).queue = (s.port p).queue := by
      rw [hqueue]
      rfl
    rw [Port.staged, hkept]

theorem mem_held_handOn {s : State} {x y : Txn} (hy : y.source ≠ .port p) (h : x ∈ (s.handOn y).mem.held) :
    x ∈ s.mem.held ∨ x.source ≠ .port p := by
  rcases List.mem_append.1 h with h | h
  · rcases List.mem_append.1 h with h | h
    · exact .inl (List.mem_append_left _ h)
    · rw [List.mem_singleton.1 h]
      exact .inr hy
  · exact .inl (List.mem_append_right _ h)

theorem State.leavesGone_handOn {y : Txn} (h : y.source ≠ .port p) (s : State) : s.leavesGone p (s.handOn y) :=
  State.leavesGone_of (fun _ => rfl) (fun _ => ⟨id, rfl⟩) (fun h => h.waiters) fun _ hx =>
    mem_held_handOn h hx

theorem State.leavesGone_issueHead {q : PortId} (hq : p ≠ q) (d : Option GroupId) (s : State) :
    s.leavesGone p (s.issueHead q d) := by
  cases h : s.head q with
  | none =>
    rw [State.issueHead, h]
    exact s.leavesGone_refl
  | some r =>
    refine State.leavesGone_of (fun _ => State.issueHead_other d hq) (fun g => ?_) (fun h => ?_) fun x hx => ?_
    · rw [State.issueHead_group]
      exact ⟨id, rfl⟩
    · rw [State.issueHead_table]
      exact h.waiters
    · rw [State.issueHead_rest h] at hx
      exact mem_held_handOn (y := r.txn q d) (fun hp => hq (Source.port.inj hp).symm) hx

theorem State.leavesGone_refuseHead {q : PortId} (hq : p ≠ q) (why : RefusalReason) (s : State) :
    s.leavesGone p (s.refuseHead q why) := by
  refine State.leavesGone_of (fun _ => State.refuseHead_other why hq) (fun g => ?_) (fun h => ?_) fun x hx => ?_
  · rw [State.refuseHead_group]
    exact ⟨id, rfl⟩
  · rw [State.refuseHead_table]
    exact h.waiters
  · rw [State.refuseHead_mem] at hx
    exact .inl hx

theorem Group.without_headLeaves {x : Group} (h : x.without p) : x.headLeaves.without p :=
  ⟨not_mem_tail h.1, h.2⟩

theorem State.leavesGone_refuseOverflow {g : GroupId} {q : PortId} (hq : p ≠ q) (o : Overflow) (s : State) :
    s.leavesGone p (s.refuseOverflow g q o) :=
  State.leavesGone_trans
    (s.leavesGone_modGroup (f := fun x => x.headLeaves.modStats Stats.addOverflow) Group.without_headLeaves rfl)
    (State.leavesGone_refuseHead hq _ _)

theorem State.leavesGone_reserve {g : GroupId} {q : PortId} (hq : p ≠ q) (s : State) : s.leavesGone p (s.reserve g q) := by
  refine State.leavesGone_of (fun _ => s.reserve_port_other g q hq) (fun k => ?_) (fun h e he => ?_) fun x hx => ?_
  · by_cases hk : k = g
    · rw [hk, State.reserve_group]
      refine ⟨fun ⟨hqueue, hput, _⟩ => ⟨hqueue, hput, fun st hst howner => ?_⟩, rfl⟩
      cases hst
      exact hq (Option.some.inj howner).symm
    · rw [s.othersKept_reserve g q k hk]
      exact ⟨id, rfl⟩
  · rw [State.reserve_table] at he
    rcases mem_putEntry he with rfl | he
    · rw [stagedEntry_eq]
      split
      · exact List.not_mem_nil
      next e he => exact h.waiters e (findEntry_mem he)
    · exact h.waiters e he
  · rw [State.reserve_mem] at hx
    exact mem_held_handOn (y := oldRead g (s.headBlock q)) nofun hx

theorem State.leavesGone_beginHold {g : GroupId} {q : PortId} (o : Overflow) (s : State) :
    s.leavesGone p (s.beginHold g q o) := by
  have hheld : s.leavesGone p ((s.modGroup g fun x =>
      { x with hold := some { reason := o, timer := x.config.holdLimit, since := s.nextHold } }).holdHead q (.overflow o)) := by
    refine State.leavesGone_trans (s.leavesGone_modGroup (g := g) (f := fun x =>
      { x with hold := some { reason := o, timer := x.config.holdLimit, since := s.nextHold } }) id rfl) ?_
    rw [State.holdHead, State.stageHead_eq]
    exact State.leavesGone_stageHeads _ _
  intro h
  obtain ⟨hgone, hport, hvotes⟩ := hheld h
  exact ⟨⟨hgone.queue, hgone.channel, hgone.groups, hgone.waiters, hgone.held⟩, hport, hvotes⟩

/-! ### Drains and the entry to ROLLING_BACK -/

theorem State.leavesGone_answerWaiting (s : State) (g : GroupId) (kinds : WaitingKind → Bool) (a : Answer) (q : PortId) :
    s.leavesGone p (s.answerWaiting g kinds a q) := by
  by_cases h : s.waitsFor g kinds q = true
  · rw [State.answerWaiting_of_waiting a h]
    refine State.leavesGone_of (fun hgone => ?_) (fun _ => ⟨id, rfl⟩) (fun h => h.waiters) fun x hx => .inl hx
    have hq : p ≠ q := fun heq => by
      rw [State.waitsFor, ← heq, hgone.channel] at h
      exact absurd h nofun
    exact (State.modPort_port s q (fun x => { x with channel := none }) p).trans (if_neg hq)
  · rw [State.answerWaiting_of_other a (Bool.eq_false_iff.2 h)]
    exact s.leavesGone_refl

theorem State.leavesGone_releaseHeads (s : State) (g : GroupId) : s.leavesGone p (s.releaseHeads g) := by
  rw [State.releaseHeads_eq]
  exact s.leavesGone_stageHeads _

theorem State.leavesGone_finishUndo (s : State) (g : GroupId) : s.leavesGone p (s.finishUndo g) := by
  cases h : (s.group g).unwind with
  | none =>
    rw [State.finishUndo, h]
    exact s.leavesGone_refl
  | some u =>
    rw [State.finishUndo_of_some h]
    refine State.leavesGone_trans (State.leavesGone_trans (s.leavesGone_modGroup ?_ rfl)
      (State.leavesGone_answerWaiting _ _ _ _ _)) (State.leavesGone_releaseHeads _ g)
    exact fun ⟨hqueue, _, howner⟩ => ⟨hqueue, List.not_mem_nil, howner⟩

end

theorem Group.closingHeader_source (x : Group) (g : GroupId) (h : HeaderState) (r : Role) :
    (x.closingHeader g h r).source = .group g := by
  rw [Group.closingHeader]
  split <;> rfl

/-- What a drain check can do: nothing, one transaction of the group's own handed on, with its phase or without, or the
finish of an undo. -/
theorem State.drainCheck_outcomes (s : State) (g : GroupId) : s.drainCheck g = s
    ∨ (∃ y : Txn, y.source = .group g ∧ s.drainCheck g = s.handOn y)
    ∨ (∃ ph n, ∃ y : Txn, y.source = .group g ∧ s.drainCheck g = (s.modGroup g fun x => x.atPhase ph n).handOn y)
    ∨ ((s.group g).state = .unwinding ∧ (s.group g).step = none ∧ s.drainCheck g = s.finishUndo g) := by
  by_cases hdrains : (s.group g).state = .unwinding ∨ (s.group g).state = .rollingBack
  · rw [State.drainCheck_of_draining hdrains]
    split
    next hdrained =>
      rw [State.beginClear]
      split
      · exact .inr (.inr (.inl ⟨.clear, none, _, rfl, rfl⟩))
      · by_cases hzero : (s.group g).journalLength = 0
        · rcases hdrains with h | h
          · have hstep : (s.group g).step = none := by
              by_contra hne
              rw [State.drained_of_step hne] at hdrained
              exact absurd hdrained nofun
            exact .inr (.inr (.inr ⟨h, hstep, State.nextPop_of_unwinding hzero h⟩))
          · exact .inr (.inr (.inl ⟨.header, none, _, Group.closingHeader_source .., State.nextPop_of_rollingBack hzero h⟩))
        · exact .inr (.inr (.inl ⟨.pop, some (1 + (s.group g).journalLength), _, rfl, State.nextPop_of_record hzero⟩))
    next => exact .inl rfl
  · by_cases hcommitting : (s.group g).state = .committing
    · rw [State.drainCheck_of_committing hcommitting]
      split
      · exact .inr (.inl ⟨_, Group.closingHeader_source .., rfl⟩)
      · exact .inl rfl
    · refine .inl (State.drainCheck_of_other fun hmem => ?_)
      simp only [drainStates, List.mem_cons, List.not_mem_nil, or_false] at hmem
      exact hmem.elim (fun h => hdrains (.inl h)) fun h => h.elim (fun h => hdrains (.inr h)) hcommitting

section
variable {p : PortId}

theorem State.leavesGone_atPhase (s : State) (g : GroupId) (ph : Phase) (n : Option Nat) :
    s.leavesGone p (s.modGroup g fun x => x.atPhase ph n) := by
  obtain ⟨-, -, -, -, -, -, -, hvotes, -, -, hstep, hqueue, hput⟩ :=
    Group.kept_of_atPhase (x := s.group g) (.inr ⟨ph, n, rfl⟩)
  exact s.leavesGone_modGroup (fun h => Group.without_of_eq h hqueue hput hstep) hvotes

theorem State.leavesGone_drainCheck (s : State) (g : GroupId) : s.leavesGone p (s.drainCheck g) := by
  rcases s.drainCheck_outcomes g with h | ⟨y, hy, h⟩ | ⟨ph, n, y, hy, h⟩ | ⟨-, -, h⟩
  · rw [h]
    exact s.leavesGone_refl
  · rw [h]
    exact s.leavesGone_handOn (by rw [hy]; nofun)
  · rw [h]
    exact State.leavesGone_trans (s.leavesGone_atPhase g ph n) (State.leavesGone_handOn (by rw [hy]; nofun) _)
  · rw [h]
    exact s.leavesGone_finishUndo g

theorem Group.without_rolled {x : Group} (h : x.without p) (c : CloseCause) : (x.rolled c).without p := by
  obtain ⟨hqueue, hput, howner⟩ := h
  refine ⟨fun hmem => ?_, fun hmem => ?_, howner⟩
  · rw [show (x.rolled c).queue = x.begun from rfl, Group.begun_eq] at hmem
    exact hqueue (List.mem_filter.1 hmem).1
  · rcases List.mem_append.1 (show p ∈ x.putBack ++ x.unbegun from hmem) with hmem | hmem
    · exact hput hmem
    · exact hqueue (x.mem_unbegun.1 hmem).1

theorem State.leavesGone_enterRollingBack (s : State) (g : GroupId) (c : CloseCause) :
    s.leavesGone p (s.enterRollingBack g c) := by
  rw [State.enterRollingBack_eq]
  exact State.leavesGone_trans (State.leavesGone_trans (s.leavesGone_stageHeads _)
    (State.leavesGone_modGroup _ (fun h => Group.without_rolled h c) rfl)) (State.leavesGone_drainCheck _ g)

theorem State.leavesGone_abortCause (s : State) (g : GroupId) (c : CloseCause) : s.leavesGone p (s.abortCause g c) := by
  rcases s.abortCause_cases g c with h | h
  · rw [h]
    exact s.leavesGone_refl
  · rw [h]
    exact s.leavesGone_enterRollingBack g c

/-- The heads that start are of other ports. -/
theorem State.leavesGone_startHeads (s : State) (g : GroupId) : s.leavesGone p (s.startHeads g) := fun h => by
  have hp := (h.groups g).1
  have hne : ∀ q ∈ (s.group g).queue, p ≠ q := fun q hq heq => hp (heq ▸ hq)
  exact State.runQueue_rel State.leavesGone_refl State.leavesGone_trans
    (fun s q hq => State.leavesGone_trans (s.leavesGone_modGroup Group.without_headLeaves rfl)
      (State.leavesGone_issueHead (hne q hq) (some g) _))
    (fun s q hq => s.leavesGone_reserve (hne q hq)) (fun s q hq o => s.leavesGone_refuseOverflow (hne q hq) o)
    (fun s q _ o _ => s.leavesGone_beginHold o)
    (fun s q hq o _ => State.leavesGone_trans (s.leavesGone_refuseOverflow (hne q hq) o) (State.leavesGone_abortCause _ g _))
    s h

/-! ### What the reset takes with it (R133, R47, R158) -/

theorem Group.without_leftBy (x : Group) : (x.leftBy p).without p := by
  refine ⟨fun h => ?_, fun h => ?_, fun st hst howner => ?_⟩
  · have hmem := (List.mem_filter.1 h).2
    simp at hmem
  · have hmem := (List.mem_filter.1 h).2
    simp at hmem
  · obtain ⟨old, -, rfl⟩ := Option.map_eq_some_iff.1 (show x.step.map (fun st => st.disowned p) = some st from hst)
    have hkept := (Option.filter_eq_some_iff.1 (show old.owner.filter (fun q => q != p) = some p from howner)).2
    simp at hkept

theorem mem_held_mapTxns {s : State} {f : Txn → Txn} {x : Txn} (h : x ∈ (s.mapTxns f).mem.held) :
    ∃ y ∈ s.mem.held, x = f y := by
  rcases List.mem_append.1 h with h | h
  · obtain ⟨y, hy, rfl⟩ := List.mem_map.1 (show x ∈ s.mem.waiting.map f from h)
    exact ⟨y, List.mem_append_left _ hy, rfl⟩
  · obtain ⟨j, hj⟩ := mem_outstanding.1 h
    have hplace : (s.mem.places[j]).map f = some x := by
      rw [← hj]
      exact (Vector.getElem_map _ _).symm
    obtain ⟨y, hy, rfl⟩ := Option.map_eq_some_iff.1 hplace
    exact ⟨y, List.mem_append_right _ (mem_outstanding.2 ⟨j, hy⟩), rfl⟩

theorem Txn.orphanedByPort_not_live (y : Txn) (h : (y.orphanedByPort p).source = .port p) :
    (y.orphanedByPort p).orphan ≠ .live := by
  rw [Txn.orphanedByPort] at h ⊢
  split
  · nofun
  next hnot =>
    rw [if_neg hnot] at h
    exact fun hlive => hnot ⟨h, hlive⟩

theorem State.flushPort_port_self (s : State) (p : PortId) : (s.flushPort p).port p = (s.port p).flushed :=
  State.modPort_port_self s p Port.flushed

/-- After the flush nothing of the port is left. -/
theorem State.gone_flushPort (s : State) (p : PortId) : (s.flushPort p).Gone p where
  queue := by rw [State.flushPort_port_self]; rfl
  channel := by rw [State.flushPort_port_self]; rfl
  groups g := by
    rw [State.flushPort_group]
    exact Group.without_leftBy _
  waiters e he := by
    obtain ⟨old, -, rfl⟩ := List.mem_map.1 (show e ∈ leaveWaiters p s.table from he)
    simp
  held x hx hsource := by
    obtain ⟨y, -, rfl⟩ := mem_held_mapTxns hx
    exact y.orphanedByPort_not_live hsource

theorem State.leavesGone_portReset (s : State) (p : PortId) : (s.flushPort p).leavesGone p (s.portReset p) := by
  refine State.leavesGone_trans (State.leavesGone_trans
    (State.leavesGone_foldl (fun s g => s.leavesGone_startHeads g) (s.headless p) _) ?_)
    (State.leavesGone_foldl (fun s g => s.leavesGone_drainCheck g) fourIds _)
  unfold State.portAbort
  split
  · exact State.leavesGone_refl _
  · exact State.leavesGone_abortCause _ _ _

end

theorem exec_portReset {s : State} {p : PortId} (h : (s.port p).resetPin = false) :
    exec (.portReset p) s = .next (s.tick.portReset p) := if_neg (by rw [h]; nofun)

/-- Settles O13: after the flush nothing of the port is left, and neither the next heads nor the abort bring any of it back. -/
theorem portResetFlushesItsPort : Obligations.PortResetFlushesItsPort := by
  intro s p hpin
  obtain ⟨hgone, hport, hvotes⟩ := s.tick.leavesGone_portReset p (s.tick.gone_flushPort p)
  have hexec := exec_portReset hpin
  have hcalm : Calm (fun _ => False) (s.tick.flushPort p) (s.tick.portReset p) :=
    ((calm_startEach _ _).trans (calm_portAbort _ p)).trans (calm_drainAll _)
  refine ⟨_, hexec, ?_, fun g => ?_, hgone.waiters, hgone.held, hcalm.map, hcalm.triggers, hcalm.mgmt, fun c hc => ?_⟩
  · rw [hport, State.flushPort_port_self]
    rfl
  · obtain ⟨hqueue, hput, howner⟩ := hgone.groups g
    have hflushed := s.tick.flushPort_group p g
    refine ⟨hqueue, hput, howner, ?_, ?_, ?_⟩
    · rw [hcalm.config g, hflushed]
      rfl
    · rw [hvotes g, hflushed]
      rfl
    · rw [hcalm.epoch g id, hflushed]
      rfl
  · exact hcalm.latched c.bit hc

end Sys2Proof.Machine
end

section
/-! A port reset and the group of its port (R14, R47, R133): the next head starts, then the abort cause arrives, then the drains go on. -/

namespace Sys2Proof.Machine

/-! ### What a start of the next heads makes of a group (R31, R45) -/

/-- The group has taken the cause OVERFLOW on its way through its queue (R45). -/
def Group.overflowed (y : Group) : Prop :=
  y.state = .rollingBack ∧ y.lastClose = .overflow ∧ y.rollback.map (fun r => r.cause) = some .overflow
    ∧ y.voteTimer = none ∧ y.hold = none

/-- From `x` to `y` heads have started: the context stays, and the state too unless the policy ABORT took it (R45). -/
structure Group.Started (x y : Group) : Prop where
  voteSet : y.voteSet = x.voteSet
  marks : y.marks = x.marks
  journalLength : y.journalLength = x.journalLength
  course : (y.state = x.state ∧ y.lastClose = x.lastClose)
    ∨ ((x.state = .opened ∨ x.state = .voting) ∧ x.config.policy = .abort ∧ y.overflowed)

theorem Group.Started.refl (x : Group) : x.Started x := ⟨rfl, rfl, rfl, .inl ⟨rfl, rfl⟩⟩

/-- A move before the rest of the start that keeps what the start looks at. -/
theorem Group.Started.of_eq {x x' y : Group} (h : x'.Started y) (hstate : x'.state = x.state) (hclose : x'.lastClose = x.lastClose)
    (hconfig : x'.config = x.config) (hvotes : x'.voteSet = x.voteSet) (hmarks : x'.marks = x.marks)
    (hlength : x'.journalLength = x.journalLength) : x.Started y where
  voteSet := h.voteSet.trans hvotes
  marks := h.marks.trans hmarks
  journalLength := h.journalLength.trans hlength
  course := by
    have hcourse := h.course
    rw [hstate, hclose, hconfig] at hcourse
    exact hcourse

theorem Group.opened_of_abort {x : Group} (hcan : x.canStart = true) (hact : x.overflowAct = .abort) :
    (x.state = .opened ∨ x.state = .voting) ∧ x.config.policy = .abort := by
  have hstate : x.state = .opened ∨ x.state = .voting := by
    rw [Group.canStart] at hcan
    cases h : x.state with
    | opened => exact .inl rfl
    | voting => exact .inr rfl
    | committing =>
      rw [Group.overflowAct_of_committing h] at hact
      cases hact
    | _ =>
      rw [h] at hcan
      exact absurd hcan nofun
  refine ⟨hstate, ?_⟩
  rw [Group.overflowAct_of_policy hstate] at hact
  cases h : x.config.policy with
  | abort => rfl
  | refuse | hold =>
    rw [h] at hact
    cases hact

theorem State.started_runQueue (g : GroupId) (q : List PortId) (s : State) :
    (s.group g).Started ((s.runQueue g q).group g) := by
  induction q generalizing s with
  | nil => exact .refl _
  | cons p rest ih =>
    rw [State.runQueue_cons]
    split
    next hcan =>
      split
      next =>
        have hgroup : ((s.modGroup g Group.headLeaves).issueHead p (some g)).group g = (s.group g).headLeaves := by
          rw [State.issueHead_group, State.modGroup_group_self]
        have hrest := ih ((s.modGroup g Group.headLeaves).issueHead p (some g))
        rw [hgroup] at hrest
        exact hrest.of_eq rfl rfl rfl rfl rfl rfl
      next =>
        rw [State.reserve_group]
        exact ⟨rfl, rfl, rfl, .inl ⟨rfl, rfl⟩⟩
      next o _ =>
        have hrefused := s.refuseOverflow_group g p o
        split
        next =>
          have hrest := ih (s.refuseOverflow g p o)
          rw [hrefused] at hrest
          exact hrest.of_eq rfl rfl rfl rfl rfl rfl
        next =>
          rw [State.group_of_groups (s.beginHold_groups g p o)]
          exact ⟨rfl, rfl, rfl, .inl ⟨rfl, rfl⟩⟩
        next hact =>
          obtain ⟨hstate, hpolicy⟩ := Group.opened_of_abort hcan hact
          have habort : (s.refuseOverflow g p o).abortCause g .overflow = (s.refuseOverflow g p o).enterRollingBack g .overflow :=
            State.abortCause_of_abortable _ g (by rw [hrefused]; exact hstate) _
          rw [habort]
          obtain ⟨hrolling, hclose, hcause, htimer, hhold, -, -, hvotes, hmarks, hlength, -⟩ :=
            (s.refuseOverflow g p o).rolledInto_enterRollingBack g .overflow
          rw [hrefused] at hvotes hmarks hlength
          exact ⟨hvotes, hmarks, hlength, .inr ⟨hstate, hpolicy, hrolling, hclose, hcause, htimer, hhold⟩⟩
    next => exact .refl _

theorem State.othersKept_startHeads (s : State) (g : GroupId) : s.othersKept (s.startHeads g) g := by
  refine State.runQueue_rel (R := fun s t => s.othersKept t g) (fun _ _ _ => rfl) State.othersKept_trans
    (fun s p _ k hk => ?_) (fun s p _ => s.othersKept_reserve g p) (fun s p _ o => s.othersKept_refuseOverflow g p o)
    (fun s p _ o _ => State.othersKept_of_groups (s.beginHold_groups g p o))
    (fun s p _ o _ => State.othersKept_trans (s.othersKept_refuseOverflow g p o) (State.othersKept_abortCause _ g _)) s
  rw [State.issueHead_group, State.modGroup_group, if_neg hk]

/-- Several groups start their heads: each sees the start of its own alone. -/
theorem State.startEach_group {gs : List GroupId} (hnodup : gs.Nodup) (g : GroupId) (s : State) :
    (g ∉ gs → (s.startEach gs).group g = s.group g)
      ∧ (g ∈ gs → ∃ u : State, u.group g = s.group g ∧ (s.startEach gs).group g = (u.startHeads g).group g) := by
  induction gs generalizing s with
  | nil => exact ⟨fun _ => rfl, fun h => absurd h List.not_mem_nil⟩
  | cons k gs ih =>
    obtain ⟨hk, hgs⟩ := List.nodup_cons.1 hnodup
    obtain ⟨hout, hin⟩ := ih hgs (s.startHeads k)
    by_cases hgk : g = k
    · subst hgk
      exact ⟨fun h => absurd List.mem_cons_self h, fun _ => ⟨s, rfl, hout hk⟩⟩
    · have hkept := s.othersKept_startHeads k g hgk
      refine ⟨fun h => (hout fun hmem => h (List.mem_cons_of_mem k hmem)).trans hkept, fun h => ?_⟩
      obtain ⟨u, hu, hlast⟩ := hin ((List.mem_cons.1 h).resolve_left hgk)
      exact ⟨u, hu.trans hkept, hlast⟩

/-! ### The drains of all groups (R54, R70, R77) -/

/-- A rollback or a group that does not drain keeps its context while the drains are looked at. -/
structure Group.DrainKept (x y : Group) : Prop where
  state : y.state = x.state
  lastClose : y.lastClose = x.lastClose
  cause : y.rollback.map (fun r => r.cause) = x.rollback.map (fun r => r.cause)
  voteTimer : y.voteTimer = x.voteTimer
  hold : y.hold = x.hold
  voteSet : y.voteSet = x.voteSet
  marks : y.marks = x.marks
  journalLength : y.journalLength = x.journalLength

theorem State.drainKept_drainAll {g : GroupId} (s : State) (h : (s.group g).state ≠ .unwinding) :
    (s.group g).DrainKept (s.drainAll.group g) := by
  suffices hfold : ∀ (gs : List GroupId) (u : State), (s.group g).DrainKept (u.group g) →
      (s.group g).DrainKept ((gs.foldl (fun s k => s.drainCheck k) u).group g) from
    hfold fourIds s ⟨rfl, rfl, rfl, rfl, rfl, rfl, rfl, rfl⟩
  intro gs
  induction gs with
  | nil => exact fun _ hu => hu
  | cons k gs ih =>
    intro u hu
    refine ih (u.drainCheck k) ?_
    by_cases hk : g = k
    · subst hk
      obtain ⟨-, -, -, hkept⟩ := State.drainCheck_frame (s := u) (g := g) fun hun => absurd (hu.state.symm.trans hun) h
      obtain ⟨hstate, hclose, hcause, htimer, hhold, -, -, hvotes, hmarks, hlength, -⟩ := Group.kept_of_atPhase hkept
      exact ⟨hstate.trans hu.state, hclose.trans hu.lastClose, hcause.trans hu.cause, htimer.trans hu.voteTimer,
        hhold.trans hu.hold, hvotes.trans hu.voteSet, hmarks.trans hu.marks, hlength.trans hu.journalLength⟩
    · obtain ⟨hothers, -⟩ := u.drainCheck_kept k
      rw [hothers g hk]
      exact hu

/-- What the drains leave of a group whose step is in progress, and of a head in a journal queue. -/
structure State.StepKept (s t : State) (g : GroupId) (q : PortId) : Prop where
  group : t.group g = s.group g
  head : t.headStage q = s.headStage q
  table : t.table = s.table
  waiting : ∃ others, t.mem.waiting = s.mem.waiting ++ others

theorem State.finishUndo_rest (s : State) (g : GroupId) : (s.finishUndo g).mem = s.mem
    ∧ ∀ q, s.headStage q = some .inQueue → (s.finishUndo g).headStage q = some .inQueue := by
  cases h : (s.group g).unwind with
  | none =>
    rw [State.finishUndo, h]
    exact ⟨rfl, fun _ hq => hq⟩
  | some x =>
    obtain ⟨u, hu⟩ : ∃ u, u = (s.modGroup g fun y => y.undone x.target).answerWaiting g WaitingKind.isUndo
      (.undoDone x.target (s.group g).journalLength) x.port := ⟨_, rfl⟩
    have hanswers := State.answers_foldl (g := g) (kinds := WaitingKind.isUndo)
      (.undoDone x.target (s.group g).journalLength) [x.port] (s.modGroup g fun y => y.undone x.target)
    change State.Answers _ ((s.modGroup g fun y => y.undone x.target).answerWaiting g WaitingKind.isUndo
      (.undoDone x.target (s.group g).journalLength) x.port) _ _ _ _ at hanswers
    rw [State.finishUndo_of_some h, ← hu, State.releaseHeads_eq]
    rw [← hu] at hanswers
    refine ⟨?_, fun q hq => ?_⟩
    · rw [State.stageHeads_mem, hanswers.rest]
      rfl
    · have hstage : u.headStage q = some .inQueue := by
        rw [State.headStage, (hanswers.heads q).1]
        exact hq
      have hnot : q ∉ u.heldPorts g := fun hmem => by
        rw [State.mem_heldPorts, State.heldByState_eq, hstage] at hmem
        exact absurd hmem nofun
      rw [State.stageHeads_headStage_of_none (stagesOf_of_not_mem hnot)]
      exact hstage

theorem State.stepKept_drainCheck {g : GroupId} {q : PortId} (s : State) (k : GroupId) (hstep : (s.group g).step ≠ none)
    (hq : s.headStage q = some .inQueue) : s.StepKept (s.drainCheck k) g q := by
  obtain ⟨hothers, htable, -⟩ := s.drainCheck_kept k
  by_cases hk : k = g
  · subst hk
    have hsame : s.drainCheck k = s ∨ ∃ y, s.drainCheck k = s.handOn y := by
      by_cases hcommitting : (s.group k).state = .committing
      · rw [State.drainCheck_of_committing hcommitting]
        split
        · exact .inr ⟨_, rfl⟩
        · exact .inl rfl
      · refine .inl ?_
        by_cases hdrains : (s.group k).state = .unwinding ∨ (s.group k).state = .rollingBack
        · rw [State.drainCheck_of_draining hdrains, State.drained_of_step hstep]
          rfl
        · refine State.drainCheck_of_other fun hmem => ?_
          simp only [drainStates, List.mem_cons, List.not_mem_nil, or_false] at hmem
          exact hmem.elim (fun h => hdrains (.inl h)) fun h => h.elim (fun h => hdrains (.inr h)) hcommitting
    rcases hsame with h | ⟨y, h⟩
    · rw [h]
      exact ⟨rfl, rfl, rfl, [], (List.append_nil _).symm⟩
    · rw [h]
      exact ⟨rfl, rfl, rfl, _, rfl⟩
  · have hgroup := hothers g (Ne.symm hk)
    rcases s.drainCheck_outcomes k with h | ⟨y, -, h⟩ | ⟨ph, n, y, -, h⟩ | ⟨-, -, h⟩
    · rw [h]
      exact ⟨rfl, rfl, rfl, [], (List.append_nil _).symm⟩
    · rw [h]
      exact ⟨rfl, rfl, rfl, _, rfl⟩
    · refine ⟨hgroup, ?_, htable, ?_⟩
      · rw [h]
        rfl
      · rw [h]
        exact ⟨_, rfl⟩
    · obtain ⟨hmem, hstages⟩ := s.finishUndo_rest k
      refine ⟨hgroup, ?_, htable, [], ?_⟩
      · rw [h, hstages q hq, hq]
      · rw [h, hmem, List.append_nil]

theorem State.stepKept_drainAll {g : GroupId} {q : PortId} (s : State) (hstep : (s.group g).step ≠ none)
    (hq : s.headStage q = some .inQueue) : s.StepKept s.drainAll g q := by
  suffices hfold : ∀ (gs : List GroupId) (u : State), s.StepKept u g q →
      s.StepKept (gs.foldl (fun s k => s.drainCheck k) u) g q from
    hfold fourIds s ⟨rfl, rfl, rfl, [], (List.append_nil _).symm⟩
  intro gs
  induction gs with
  | nil => exact fun _ hu => hu
  | cons k gs ih =>
    intro u hu
    refine ih (u.drainCheck k) ?_
    obtain ⟨hgroup, hhead, htable, more, hwaiting⟩ :=
      u.stepKept_drainCheck k (by rw [hu.group]; exact hstep) (hu.head.trans hq)
    obtain ⟨others, hold⟩ := hu.waiting
    exact ⟨hgroup.trans hu.group, hhead.trans hu.head, htable.trans hu.table, others ++ more, by
      rw [hwaiting, hold, List.append_assoc]⟩

end Sys2Proof.Machine
end

section
/-! A port reset and the group of its port: the state in which the abort cause arrives, and what it leaves (R14, R47). -/

namespace Sys2Proof.Machine

/-- The state in which a port reset's abort cause arrives: the port is gone, and the next heads have started. -/
def State.resetStarted (s : State) (p : PortId) : State := (s.flushPort p).startEach (s.headless p)

theorem State.groupOf_of_config {s t : State} (h : ∀ g, (t.group g).config = (s.group g).config) (p : PortId) :
    t.groupOf p = s.groupOf p := by
  rw [State.groupOf, State.groupOf]
  exact congrArg (fun f => fourIds.find? f) (funext fun g => by rw [h g])

section
variable {s : State} {p q : PortId} {g : GroupId}

theorem State.portReset_of_group (h : s.groupOf p = some g) :
    s.portReset p = ((s.resetStarted p).abortCause g (.portReset p)).drainAll := by
  have hcalm : Calm (fun _ => False) (s.flushPort p) (s.resetStarted p) := calm_startEach _ _
  have hgroup : (s.resetStarted p).groupOf p = some g := by
    rw [State.groupOf_of_config (s := s) (fun k => ?_) p, h]
    rw [hcalm.config k, State.flushPort_group]
    rfl
  have habort : (s.resetStarted p).portAbort p = (s.resetStarted p).abortCause g (.portReset p) := by
    rw [State.portAbort, hgroup]
  rw [← habort]
  rfl

theorem State.mem_headless : g ∈ s.headless p ↔ (s.group g).step = none ∧ (s.group g).queue.head? = some p := by
  rw [State.headless, List.mem_filter, Group.losesHead]
  simp [mem_fourIds]

theorem State.nodup_headless (s : State) (p : PortId) : (s.headless p).Nodup := List.Nodup.filter _ (by decide)

theorem State.resetStarted_group_of_not_headless (h : g ∉ s.headless p) :
    (s.resetStarted p).group g = (s.group g).leftBy p := by
  obtain ⟨hout, -⟩ := State.startEach_group (s.nodup_headless p) g (s.flushPort p)
  exact (hout h).trans (s.flushPort_group p g)

theorem State.started_resetStarted (s : State) (p : PortId) (g : GroupId) :
    ((s.group g).leftBy p).Started ((s.resetStarted p).group g) := by
  by_cases h : g ∈ s.headless p
  · obtain ⟨-, hin⟩ := State.startEach_group (s.nodup_headless p) g (s.flushPort p)
    obtain ⟨u, hu, hlast⟩ := hin h
    rw [State.flushPort_group] at hu
    have hstarted := State.started_runQueue g (u.group g).queue u
    rw [hu] at hstarted
    rw [State.resetStarted, hlast, State.startHeads, hu]
    exact hstarted
  · rw [State.resetStarted_group_of_not_headless h]
    exact .refl _

/-- Where no head starts, or no overflow can take the group, the context is the group's before the reset. -/
theorem State.resetStarted_context
    (h : (s.group g).state = .opened ∨ (s.group g).state = .voting → g ∉ s.headless p) :
    ((s.resetStarted p).group g).state = (s.group g).state ∧ ((s.resetStarted p).group g).lastClose = (s.group g).lastClose
      ∧ ((s.resetStarted p).group g).voteSet = (s.group g).voteSet
      ∧ ((s.resetStarted p).group g).marks = (s.group g).marks
      ∧ ((s.resetStarted p).group g).journalLength = (s.group g).journalLength := by
  by_cases hopen : (s.group g).state = .opened ∨ (s.group g).state = .voting
  · rw [State.resetStarted_group_of_not_headless (h hopen)]
    exact ⟨rfl, rfl, rfl, rfl, rfl⟩
  · have hstarted := s.started_resetStarted p g
    rcases hstarted.course with ⟨hstate, hclose⟩ | ⟨hwas, -⟩
    · exact ⟨hstate, hclose, hstarted.voteSet, hstarted.marks, hstarted.journalLength⟩
    · exact absurd hwas hopen

/-- What the abort cause and the drains after it leave of a group in an abortable state. -/
theorem State.aborted_and_drained {u : State} {c : CloseCause} (h : (u.group g).state ∈ abortedStates) :
    (((u.abortCause g c).drainAll).group g).state = .rollingBack
      ∧ (((u.abortCause g c).drainAll).group g).lastClose = c
      ∧ (((u.abortCause g c).drainAll).group g).rollback.map (fun r => r.cause) = some c
      ∧ (((u.abortCause g c).drainAll).group g).voteTimer = none ∧ (((u.abortCause g c).drainAll).group g).hold = none
      ∧ (((u.abortCause g c).drainAll).group g).voteSet = (u.group g).voteSet
      ∧ (((u.abortCause g c).drainAll).group g).marks = (u.group g).marks
      ∧ (((u.abortCause g c).drainAll).group g).journalLength = (u.group g).journalLength := by
  rw [State.abortCause_of_aborted h]
  obtain ⟨hstate, hclose, hcause, htimer, hhold, -, -, hvotes, hmarks, hlength, -⟩ := u.rolledInto_enterRollingBack g c
  have hkept := (u.enterRollingBack g c).drainKept_drainAll (g := g) (by rw [hstate]; nofun)
  exact ⟨hkept.state.trans hstate, hkept.lastClose.trans hclose, hkept.cause.trans hcause, hkept.voteTimer.trans htimer,
    hkept.hold.trans hhold, hkept.voteSet.trans hvotes, hkept.marks.trans hmarks, hkept.journalLength.trans hlength⟩

/-! ### The next head starts its step before the abort (R47) -/

theorem State.headless_eq_singleton (hstep : (s.group g).step = none) (hhead : (s.group g).queue.head? = some p)
    (hothers : ∀ k, k ≠ g → p ∉ (s.group k).queue) : s.headless p = [g] := by
  have hsingle : ∀ g : GroupId, fourIds.filter (fun k => k == g) = [g] := by decide
  rw [← hsingle g]
  refine List.filter_congr fun k _ => ?_
  by_cases hk : k = g
  · rw [hk, Group.losesHead, hstep, hhead]
    simp
  · have hnot : (s.group k).queue.head? ≠ some p := fun h => hothers k hk (List.mem_of_mem_head? h)
    have hlast : ((s.group k).queue.head? == some p) = false := beq_false_of_ne hnot
    rw [Group.losesHead, hlast, Bool.and_false]
    exact (beq_false_of_ne hk).symm

theorem State.flushPort_port_other (s : State) (hq : q ≠ p) : (s.flushPort p).port q = s.port q :=
  (State.modPort_port s p Port.flushed q).trans (if_neg hq)

/-- The flush takes no entry of the table. -/
theorem State.flushPort_counts (s : State) (p : PortId) : (s.flushPort p).table.length = s.table.length
    ∧ ∀ k, (s.flushPort p).entriesOf k = s.entriesOf k := by
  have htable : (s.flushPort p).table = leaveWaiters p s.table := rfl
  refine ⟨by rw [htable, leaveWaiters, List.length_map], fun k => ?_⟩
  rw [State.entriesOf, htable, leaveWaiters, List.countP_map]
  rfl

theorem State.flushPort_hasRoom {b : Block} (h : s.hasRoom g b) : (s.flushPort p).hasRoom g b := by
  obtain ⟨hroom, hnew, hlength, hquota⟩ := h
  obtain ⟨hlengths, hcounts⟩ := s.flushPort_counts p
  rw [State.hasRoom, State.flushPort_group, hlengths, hcounts]
  refine ⟨hroom, fun e he => ?_, hlength, hquota⟩
  obtain ⟨old, hold, rfl⟩ := List.mem_map.1 (show e ∈ leaveWaiters p s.table from he)
  exact hnew old hold

theorem Group.leftBy_hold {x : Group} (h : x.queue.head? = some p) : (x.leftBy p).hold = none := by
  rw [Group.leftBy, Group.heldHeadOf, h]
  cases hhold : x.hold <;> simp

/-- A group whose head was of the port starts the next one, the only one left. -/
theorem State.resetStarted_of_next {r : Request} (hopen : (s.group g).state = .opened ∨ (s.group g).state = .voting)
    (hqueue : (s.group g).queue = [p, q]) (hpq : p ≠ q) (hstep : (s.group g).step = none)
    (hothers : ∀ k, k ≠ g → p ∉ (s.group k).queue) (hr : s.head q = some r) (hroom : s.hasRoom g (blockOf r.addr)) :
    s.resetStarted p = (s.flushPort p).reserve g q ∧ (s.flushPort p).head q = some r
      ∧ ((s.group g).leftBy p).queue = [q] := by
  have hhead : (s.group g).queue.head? = some p := by rw [hqueue]; rfl
  have hleft : ((s.group g).leftBy p).queue = [q] := by
    rw [Group.leftBy, hqueue]
    simp [hpq.symm]
  have hr' : (s.flushPort p).head q = some r := (State.head_of_port (s.flushPort_port_other hpq.symm)).trans hr
  refine ⟨?_, hr', hleft⟩
  rw [State.resetStarted, State.headless_eq_singleton hstep hhead hothers]
  change (s.flushPort p).startHeads g = _
  rw [State.startHeads, State.flushPort_group, hleft]
  refine State.runQueue_of_reserve (Group.canStart_eq_true ?_ ?_ ?_) ?_
  · rw [State.flushPort_group]
    exact hopen.imp_right .inl
  · rw [State.flushPort_group, Group.leftBy, hstep]
    rfl
  · rw [State.flushPort_group]
    exact Group.leftBy_hold hhead
  · rw [State.headBlock_of_head hr']
    exact (State.startDecision_of_takesStep (State.takesStep_of_hasRoom (State.flushPort_hasRoom hroom))).1

/-- An abort that meets a step in progress begins its drain, and leaves the step and its write alone. -/
theorem State.abort_of_step {u : State} {st : JournalStep} {c : CloseCause} (hopen : (u.group g).state = .opened ∨ (u.group g).state = .voting)
    (hstep : (u.group g).step = some st) (howner : st.owner = some q) (hqueue : (u.group g).queue = [q])
    (hstage : u.headStage q = some .inQueue) :
    ((u.abortCause g c).group g).step = some st ∧ ((u.abortCause g c).group g).queue = [q]
      ∧ ((u.abortCause g c).group g).rollback = some { cause := c, phase := .drain, slot := none }
      ∧ (u.abortCause g c).headStage q = some .inQueue ∧ (u.abortCause g c).table = u.table
      ∧ (u.abortCause g c).mem = u.mem := by
  have habort : u.abortCause g c = u.enterRollingBack g c := State.abortCause_of_abortable u g hopen c
  obtain ⟨v, hv⟩ : ∃ v, v = (u.stageHeads (stagesOf (u.rolledPorts g) (.held .rollingBack))).modGroup g fun x => x.rolled c :=
    ⟨_, rfl⟩
  have hgroup : v.group g = (u.group g).rolled c := by rw [hv, State.modGroup_group_self, State.stageHeads_group]
  have hstays : u.enterRollingBack g c = v := by
    rw [State.enterRollingBack_eq, ← hv, State.drainCheck_of_draining (.inr (by rw [hgroup]; rfl)),
      State.drained_of_step (by rw [hgroup]; exact fun h => absurd (hstep.symm.trans h) nofun)]
    rfl
  have hnot : q ∉ u.rolledPorts g := fun hmem => by
    rcases List.mem_append.1 hmem with hmem | hmem
    · obtain ⟨-, hunbegun⟩ := (Group.mem_unbegun _).1 hmem
      rw [hstep] at hunbegun
      simp [howner] at hunbegun
    · rw [State.mem_heldPorts, State.heldByState_eq, hstage] at hmem
      exact absurd hmem nofun
  rw [habort, hstays, hgroup]
  refine ⟨hstep, ?_, Group.rolled_rollback_of_not_unwinding _ c ?_, ?_, by rw [hv]; rfl, by rw [hv]; rfl⟩
  · rw [show ((u.group g).rolled c).queue = (u.group g).begun from rfl, Group.begun_eq, hqueue, hstep]
    simp [howner]
  · rcases hopen with h | h <;> rw [h] <;> nofun
  · rw [hv]
    exact (State.stageHeads_headStage_of_none (s := u) (stagesOf_of_not_mem hnot)).trans hstage

end

/-- Settles O14: the state in which the abort arrives, and the abort itself, clause by clause. -/
theorem portResetAbortsItsGroup : Obligations.PortResetAbortsItsGroup := by
  refine ⟨fun s p g hpin hgroup hhead => ?joins, fun s p g hpin hgroup hopen hhead hstep => ?starts,
    fun s p q g r hpin hgroup hopen hqueue hpq hstep hothers hr hroom => ?next⟩
  case joins =>
    refine ⟨_, exec_portReset hpin, ?_⟩
    rw [State.portReset_of_group (s := s.tick) hgroup]
    obtain ⟨hstate, hclose, hvotes, hmarks, hlength⟩ := State.resetStarted_context (s := s.tick) (p := p) (g := g)
      fun hopen hmem => by
        obtain ⟨hstep, hfirst⟩ := State.mem_headless.1 hmem
        exact hhead hopen hfirst hstep
    obtain ⟨u, hu⟩ : ∃ u, u = s.tick.resetStarted p := ⟨_, rfl⟩
    rw [← hu] at hstate hclose hvotes hmarks hlength ⊢
    split
    next habortable =>
      obtain ⟨hrolling, hlast, hcause, htimer, -, hvotes', hmarks', hlength'⟩ := State.aborted_and_drained (u := u) (g := g)
        (c := .portReset p) (by rw [hstate]; simpa [abortedStates] using habortable)
      exact ⟨hvotes'.trans hvotes, hmarks'.trans hmarks, hlength'.trans hlength, hrolling, hlast, hcause, htimer⟩
    next hnot =>
      have hnot : (u.group g).state ∉ abortedStates := by rw [hstate]; simpa [abortedStates] using hnot
      rw [State.abortCause_of_not_abortable hnot]
      have hkept := u.drainKept_drainAll (g := g) fun h => hnot (by rw [h]; decide)
      exact ⟨hkept.voteSet.trans hvotes, hkept.marks.trans hmarks, hkept.journalLength.trans hlength,
        hkept.state.trans hstate, hkept.lastClose.trans hclose⟩
  case starts =>
    refine ⟨_, exec_portReset hpin, ?_⟩
    rw [State.portReset_of_group (s := s.tick) hgroup]
    have hstarted := s.tick.started_resetStarted p g
    obtain ⟨u, hu⟩ : ∃ u, u = s.tick.resetStarted p := ⟨_, rfl⟩
    rw [← hu] at hstarted ⊢
    rcases hstarted.course with ⟨hstate, -⟩ | ⟨-, hpolicy, hrolling, hlast, hcause, htimer, hhold⟩
    · have hstate : (u.group g).state = (s.group g).state := hstate
      obtain ⟨hrolling, hlast, hcause, htimer, hhold, hvotes, hmarks, hlength⟩ := State.aborted_and_drained (u := u) (g := g)
        (c := .portReset p) (by
          rw [hstate]
          rcases hopen with h | h <;> rw [h] <;> decide)
      exact ⟨hvotes.trans hstarted.voteSet, hmarks.trans hstarted.marks, hlength.trans hstarted.journalLength, hrolling, htimer,
        hhold, hcause.trans (congrArg some hlast.symm), .inl hlast⟩
    · rw [State.abortCause_of_not_abortable (by rw [hrolling]; decide)]
      have hkept := u.drainKept_drainAll (g := g) (by rw [hrolling]; nofun)
      have hlast := hkept.lastClose.trans hlast
      exact ⟨hkept.voteSet.trans hstarted.voteSet, hkept.marks.trans hstarted.marks,
        hkept.journalLength.trans hstarted.journalLength, hkept.state.trans hrolling, hkept.voteTimer.trans htimer,
        hkept.hold.trans hhold, hkept.cause.trans (hcause.trans (congrArg some hlast.symm)), .inr ⟨hlast, hpolicy⟩⟩
  case next =>
    refine ⟨_, exec_portReset hpin, ?_⟩
    rw [State.portReset_of_group (s := s.tick) hgroup]
    obtain ⟨hstarted, hhead, hleft⟩ := State.resetStarted_of_next (s := s.tick) hopen hqueue hpq hstep hothers hr hroom
    have hfroom := State.flushPort_hasRoom (s := s.tick) (p := p) hroom
    obtain ⟨-, hprior⟩ := State.startDecision_of_takesStep (State.takesStep_of_hasRoom hfroom)
    have hblock : (s.tick.flushPort p).headBlock q = blockOf r.addr := State.headBlock_of_head hhead
    obtain ⟨f, hf⟩ : ∃ f, f = s.tick.flushPort p := ⟨_, rfl⟩
    have hfgroup : f.group g = (s.group g).leftBy p := by rw [hf, State.flushPort_group, State.tick_group]
    rw [← hf] at hstarted hhead hprior hblock hfroom
    have hreserved : (f.reserve g q).group g = { (s.group g).leftBy p with
        step := some ((s.group g).stepOf (some q) (blockOf r.addr) none), hold := none } := by
      rw [State.reserve_group, hblock, hprior, hfgroup]
      rfl
    have hstage := f.reserve_headStage g q hhead
    obtain ⟨habortStep, habortQueue, habortCause, habortStage, habortTable, habortMem⟩ :=
      State.abort_of_step (u := f.reserve g q) (g := g) (q := q) (c := .portReset p) (by rw [hreserved]; exact hopen)
        (by rw [hreserved]) rfl (by rw [hreserved]; exact hleft) hstage
    rw [hstarted]
    obtain ⟨hgroup', hhead', htable', others, hwaiting⟩ :=
      ((f.reserve g q).abortCause g (.portReset p)).stepKept_drainAll (g := g) (q := q) (by rw [habortStep]; nofun) habortStage
    refine ⟨hgroup'.symm ▸ habortStep, hgroup'.symm ▸ habortQueue, hgroup'.symm ▸ habortCause, hhead'.trans habortStage, ?_,
      others, ?_⟩
    · obtain ⟨-, hnew, -⟩ := hfroom
      obtain ⟨-, hcounts⟩ := s.tick.flushPort_counts p
      have hcount : f.entriesOf g = s.entriesOf g := by rw [hf]; exact hcounts g
      rw [State.entriesOf, htable', habortTable, ← State.entriesOf, State.reserve_entriesOf f g q (by
        rw [hblock]
        exact findEntry_eq_none.2 hnew), hcount]
    · rw [hwaiting, habortMem, State.reserve_mem, hblock, hf]
      rfl

end Sys2Proof.Machine
end

section
/-! A rollback begins with its drain, whatever its cause (R61, R76 to R78): what the entry leaves of the phase and the memory port. -/

namespace Sys2Proof.Machine

/-! ### The entry to ROLLING_BACK, before its drain is looked at -/

/-- The state at the entry to ROLLING_BACK, before its drain is looked at. -/
def State.rolling (s : State) (g : GroupId) (c : CloseCause) : State :=
  (s.stageHeads (stagesOf (s.rolledPorts g) (.held .rollingBack))).modGroup g fun x => x.rolled c

section
variable {s : State} {g : GroupId} {c : CloseCause}

theorem State.rolling_group (s : State) (g : GroupId) (c : CloseCause) : (s.rolling g c).group g = (s.group g).rolled c :=
  State.modGroup_group_self (s.stageHeads _) g _

theorem State.enterRollingBack_rolling (s : State) (g : GroupId) (c : CloseCause) :
    s.enterRollingBack g c = (s.rolling g c).drainCheck g := s.enterRollingBack_eq g c

/-- A group that was not in an undo, or in an undo's drain, begins its rollback with the drain. -/
theorem Group.rolled_phase {x : Group} (h : x.state = .unwinding → x.phase = some .drain ∧ x.popSlot = none) (c : CloseCause) :
    (x.rolled c).phase = some .drain ∧ (x.rolled c).popSlot = none := by
  have hrollback : (x.rolled c).rollback = some { cause := c, phase := .drain, slot := none } := by
    by_cases hun : x.state = .unwinding
    · obtain ⟨hphase, hslot⟩ := h hun
      rw [Group.phase_of_unwinding hun] at hphase
      obtain ⟨u, hu, hdrain⟩ := Option.map_eq_some_iff.1 hphase
      rw [Group.popSlot_of_unwinding hun, hu] at hslot
      rw [Group.rolled_rollback_of_unwinding x c hun hu, hdrain, show u.slot = none from hslot]
    · exact Group.rolled_rollback_of_not_unwinding x c hun
  rw [Group.phase_of_rollingBack (x := x.rolled c) rfl, Group.popSlot_of_rollingBack (x := x.rolled c) rfl, hrollback]
  exact ⟨rfl, rfl⟩

theorem Group.rolled_unwind (x : Group) (c : CloseCause) : (x.rolled c).unwind = x.unwindAtEntry := rfl

theorem Group.unwindAtEntry_of_some {x : Group} {u : UnwindContext} (h : x.unwind = some u) :
    x.unwindAtEntry = if u.slot = none then none else some u := by
  rw [Group.unwindAtEntry, h]
  change (if u.slot.isSome = true then some u else none) = _
  cases hslot : u.slot <;> simp

theorem Group.unwindAtEntry_of_drain {x : Group} (hstate : x.state = .unwinding) (hslot : x.popSlot = none) :
    x.unwindAtEntry = none := by
  rw [Group.popSlot_of_unwinding hstate] at hslot
  cases hu : x.unwind with
  | none => rw [Group.unwindAtEntry, hu]
  | some u =>
    rw [hu] at hslot
    rw [Group.unwindAtEntry_of_some hu, if_pos (show u.slot = none from hslot)]

theorem Group.atPhase_unwind_of_rollingBack {x : Group} (h : x.state = .rollingBack) (ph : Phase) (n : Option Nat) :
    (x.atPhase ph n).unwind = x.unwind := by
  rw [Group.atPhase_of_rollingBack h]

/-- The drain of a rollback moves the rollback alone, not what is left of an undo. -/
theorem State.enterRollingBack_unwind (s : State) (g : GroupId) (c : CloseCause) :
    ((s.enterRollingBack g c).group g).unwind = (s.group g).unwindAtEntry := by
  obtain ⟨-, -, -, hgroup⟩ := s.enterRollingBack_frame g c
  rcases hgroup with h | ⟨ph, n, h⟩
  · rw [h, Group.rolled_unwind]
  · rw [h, Group.atPhase_unwind_of_rollingBack (Group.rolled_state _ _), Group.rolled_unwind]

/-! ### The drain of a rollback, looked at twice -/

theorem Group.phase_atPhase_of_rollingBack {x : Group} (h : x.state = .rollingBack) {ph : Phase} (hph : ph ≠ .drain)
    (n : Option Nat) : (x.atPhase ph n).phase ≠ some .drain := by
  rw [Group.atPhase_of_rollingBack h, Group.phase_of_rollingBack (by exact h), Option.map_map]
  cases x.rollback with
  | none => nofun
  | some r => exact fun heq => hph (Option.some.inj heq)

/-- A second look at the drain of a rollback finds it waiting as before, or gone on. -/
theorem State.drainCheck_again (h : (s.group g).state = .rollingBack) : (s.drainCheck g).drainCheck g = s.drainCheck g := by
  have hcheck := State.drainCheck_of_draining (.inr h)
  by_cases hdrained : s.drained g = true
  · have hgone : ∃ ph n y, ph ≠ .drain ∧ s.drainCheck g = (s.modGroup g fun x => x.atPhase ph n).handOn y := by
      rw [hcheck, if_pos hdrained, State.beginClear]
      split
      · exact ⟨.clear, none, _, nofun, rfl⟩
      · by_cases hzero : (s.group g).journalLength = 0
        · exact ⟨.header, none, _, nofun, State.nextPop_of_rollingBack hzero h⟩
        · exact ⟨.pop, some (1 + (s.group g).journalLength), _, nofun, State.nextPop_of_record hzero⟩
    obtain ⟨ph, n, y, hph, heq⟩ := hgone
    have hgroup : ((s.modGroup g fun x => x.atPhase ph n).handOn y).group g = (s.group g).atPhase ph n := by
      rw [State.handOn_group, State.modGroup_group_self]
    have hstate : (((s.modGroup g fun x => x.atPhase ph n).handOn y).group g).state = .rollingBack := by
      rw [hgroup, atPhase_state]
      exact h
    rw [heq, State.drainCheck_of_draining (.inr hstate), State.drained_of_phase (by
      rw [hgroup]
      exact Group.phase_atPhase_of_rollingBack h hph n)]
    rfl
  · have hsame : s.drainCheck g = s := by rw [hcheck, if_neg hdrained]
    rw [hsame, hsame]

end

/-! ### The cause as it reaches its group -/

/-- The state `w` in which an abort cause reaches group `g`: what the rollback starts from is as in `s`, and the memory port
is as in `u`. -/
structure State.AbortAt (s w u : State) (g : GroupId) : Prop where
  state : (w.group g).state = (s.group g).state
  step : (w.group g).step = none ↔ (s.group g).step = none
  journalLength : (w.group g).journalLength = (s.group g).journalLength
  config : (w.group g).config = (s.group g).config
  unwind : (w.group g).unwind = (s.group g).unwind
  mem : w.mem = u.mem
  clock : w.clock = u.clock
  before : u.group g = s.group g

section
variable {s w u t : State} {g : GroupId} {k : CloseCause}

theorem State.AbortAt.of_group (hgroup : w.group g = s.group g) (hmem : w.mem = u.mem) (hclock : w.clock = u.clock)
    (hbefore : u.group g = s.group g) : s.AbortAt w u g :=
  ⟨by rw [hgroup], by rw [hgroup], by rw [hgroup], by rw [hgroup], by rw [hgroup], hmem, hclock, hbefore⟩

theorem State.AbortAt.phase (h : s.AbortAt w u g) (hstate : (s.group g).state = .unwinding) :
    (w.group g).phase = (s.group g).phase ∧ (w.group g).popSlot = (s.group g).popSlot := by
  have hw := h.state.trans hstate
  rw [Group.phase_of_unwinding hw, Group.phase_of_unwinding hstate, Group.popSlot_of_unwinding hw,
    Group.popSlot_of_unwinding hstate, h.unwind]
  exact ⟨rfl, rfl⟩

/-- The rollback that begins with its drain: what the cause leaves of the group and of the memory port (R76 to R78). -/
def State.rollbackBegun (s t u : State) (g : GroupId) (k : CloseCause) : Prop :=
  (t.group g).state = .rollingBack ∧ (t.group g).rollback.map (fun x => x.cause) = some k
    ∧ ((s.group g).state = .unwinding → (t.group g).unwind = none)
    ∧ (t.group g).journalLength = (s.group g).journalLength
    ∧ (if (s.group g).step ≠ none then
        (t.group g).phase = some .drain ∧ (t.group g).popSlot = none ∧ t.mem = u.mem
      else u.drainsTo t g (s.group g).journalLength)

theorem State.rollbackBegun_of_same {v : State} (h : s.rollbackBegun v u g k) (hgroup : t.group g = v.group g)
    (hmem : t.mem = v.mem) : s.rollbackBegun t u g k := by
  simp only [State.rollbackBegun, State.drainsTo, State.clearsFrom] at h ⊢
  rw [hgroup, hmem]
  exact h

theorem State.rollbackBegun_enterRollingBack (h : s.AbortAt w u g)
    (hdrain : (s.group g).state = .unwinding → (s.group g).phase = some .drain ∧ (s.group g).popSlot = none)
    (hslots : 3 ≤ (s.group g).config.slots) (k : CloseCause) : s.rollbackBegun (w.enterRollingBack g k) u g k := by
  obtain ⟨hstate, -, hcause, -, -, -, -, -, -, hlength, -⟩ := w.rolledInto_enterRollingBack g k
  have hgroup := w.rolling_group g k
  have hdrains : (w.group g).state = .unwinding → (w.group g).phase = some .drain ∧ (w.group g).popSlot = none := fun hun => by
    have hun' := h.state.symm.trans hun
    obtain ⟨hphase, hslot⟩ := h.phase hun'
    rw [hphase, hslot]
    exact hdrain hun'
  obtain ⟨hphase, hslot⟩ := Group.rolled_phase hdrains k
  refine ⟨hstate, hcause, fun hun => ?_, hlength.trans h.journalLength, ?_⟩
  · rw [State.enterRollingBack_unwind]
    have hun' := h.state.trans hun
    exact Group.unwindAtEntry_of_drain hun' (hdrains hun').2
  · rw [State.enterRollingBack_rolling]
    split
    next hstep =>
      have hstays : (w.rolling g k).drainCheck g = w.rolling g k := by
        rw [State.drainCheck_of_draining (.inr (by rw [hgroup]; rfl)), State.drained_of_step (by
          rw [hgroup]
          exact fun hnone => hstep (h.step.1 hnone))]
        rfl
      rw [hstays, hgroup]
      exact ⟨hphase, hslot, h.mem⟩
    next hstep =>
      have hdrainsTo := State.drainsTo_drainCheck (s := w.rolling g k) (u := u) (g := g) (by rw [hgroup]; exact hphase)
        (by rw [hgroup]; exact h.step.2 (not_not.1 hstep)) (by rw [hgroup]; exact h.config ▸ hslots) h.mem.symm h.clock.symm
        (by
          rw [hgroup, h.before]
          exact h.config.symm)
      rw [hgroup] at hdrainsTo
      rw [← h.journalLength]
      exact hdrainsTo

/-- A rollback that overtakes an undo behind its drain stands where the undo stood (R61). -/
theorem State.enterRollingBack_of_undo (h : s.AbortAt w u g) {x : UnwindContext} (hstate : (s.group g).state = .unwinding)
    (hx : (s.group g).unwind = some x) (hphase : x.phase ≠ .drain) (k : CloseCause) :
    w.enterRollingBack g k = w.rolling g k
      ∧ ((w.rolling g k).group g).rollback = some { cause := k, phase := x.phase, slot := x.slot }
      ∧ ((w.rolling g k).group g).unwind = (if x.slot = none then none else some x) ∧ (w.rolling g k).mem = u.mem := by
  have hgroup := w.rolling_group g k
  have hw : (w.group g).unwind = some x := h.unwind.trans hx
  have hrollback := Group.rolled_rollback_of_unwinding (w.group g) k (h.state.trans hstate) hw
  have hnot : ((w.rolling g k).group g).phase ≠ some .drain := by
    rw [hgroup, Group.phase_of_rollingBack (Group.rolled_state _ _), hrollback]
    exact fun heq => hphase (Option.some.inj heq)
  refine ⟨?_, by rw [hgroup, hrollback], ?_, h.mem⟩
  · rw [State.enterRollingBack_rolling, State.drainCheck_of_draining (.inr (by rw [hgroup]; rfl)), State.drained_of_phase hnot]
    rfl
  · rw [hgroup, Group.rolled_unwind]
    exact Group.unwindAtEntry_of_some hw

end

/-! ### Each cause by its command -/

section
variable {s : State} {g : GroupId} {p : PortId}

/-- A trigger that would send one group only into ROLLING_BACK is an abort cause for that group (R165). -/
theorem State.triggerGroups_of_one {n : TrigId} {gs : List GroupId} (hnodup : gs.Nodup) (hg : g ∈ gs) (s : State)
    (hothers : ∀ j ∈ gs, j ≠ g → (s.group j).state ∉ abortedStates) : s.triggerGroups n gs = s.abortCause g (.trigger n) := by
  have hidle : ∀ (ks : List GroupId) (u : State), (∀ j ∈ ks, (u.group j).state ∉ abortedStates) → u.triggerGroups n ks = u := by
    intro ks
    induction ks with
    | nil => exact fun _ _ => rfl
    | cons k ks ih =>
      intro u hu
      rw [State.triggerGroups_cons, State.abortCause_of_not_abortable (hu k List.mem_cons_self)]
      exact ih u fun j hj => hu j (List.mem_cons_of_mem k hj)
  induction gs with
  | nil => cases hg
  | cons k gs ih =>
    obtain ⟨hk, hgs⟩ := List.nodup_cons.1 hnodup
    rw [State.triggerGroups_cons]
    by_cases hgk : g = k
    · subst hgk
      refine hidle gs _ fun j hj => ?_
      have hne : j ≠ g := fun heq => hk (heq ▸ hj)
      rw [s.othersKept_abortCause g _ j hne]
      exact hothers j (List.mem_cons_of_mem g hj) hne
    · rw [State.abortCause_of_not_abortable (hothers k List.mem_cons_self (Ne.symm hgk))]
      exact ih hgs ((List.mem_cons.1 hg).resolve_left hgk) fun j hj => hothers j (List.mem_cons_of_mem k hj)

/-- A write classified into an overflow under ABORT is refused, and its group enters ROLLING_BACK (R45). -/
theorem exec_classification_of_abort {r : Request} {i : EntryId} {o : Overflow} (h : s.classifying p r)
    (hreaches : s.reaches p r i g) (hwrite : r.kind = .write)
    (hstate : (s.group g).state = .opened ∨ ((s.group g).state = .voting ∧ (s.group g).voteSet.get p = false))
    (hqueue : (s.group g).queue = []) (hstep : (s.group g).step = none) (hhold : (s.group g).hold = none)
    (hover : s.meetsOverflow g (blockOf r.addr) o) (hpolicy : (s.group g).config.policy = .abort) :
    ∃ w : State, exec (.classification p) s = .next (w.enterRollingBack g .overflow)
      ∧ w.group g = { s.group g with queue := [], hold := none, stats := (s.group g).stats.addOverflow }
      ∧ w.table = s.table ∧ w.mem = s.mem ∧ w.clock = s.clock + 1 := by
  have hexec := exec_classification_of_judged h hreaches hwrite hstate
  have hopen : (s.group g).state = .opened ∨ (s.group g).state = .voting := hstate.imp_right fun hs => hs.1
  obtain ⟨hhead, -⟩ := h
  obtain ⟨u, hu⟩ : ∃ u, u = s.tick.setHeadClass p (some i) (some g) := ⟨_, rfl⟩
  have hr : u.head p = some r := by rw [hu]; exact (s.tick.setHeadClass_head p _ _ p).trans hhead
  have hgroup : u.group g = s.group g := by rw [hu]; rfl
  have htable : u.table = s.table := by rw [hu]; rfl
  have hjudge : u.judge g p = (u.enqueue g p).runQueue g [p] := by
    rw [State.judge, State.judgeTo_of_joins (State.headBlock_of_head hr) (by rw [htable, hgroup]; exact hover.joins),
      State.joinQueue_of_empty (hgroup ▸ hqueue)]
  have hqueued : (u.enqueue g p).group g = { s.group g with queue := [p] } := by
    rw [State.enqueue_group, hgroup, hqueue]
    rfl
  have hdecision : (u.enqueue g p).startDecision g ((u.enqueue g p).headBlock p) = .overflow o := by
    rw [State.enqueue_headBlock hr, State.enqueue_startDecision,
      State.startDecision_of_agrees htable (by rw [hgroup]; exact ⟨rfl, rfl, rfl, rfl, rfl⟩)]
    exact State.startDecision_of_meetsOverflow hover
  have hact : ((u.enqueue g p).group g).overflowAct = .abort := by
    rw [Group.overflowAct_of_policy (by rw [hqueued]; exact hopen), hqueued, hpolicy]
  have hleft : ((u.enqueue g p).refuseOverflow g p o).group g
      = { s.group g with queue := [], hold := none, stats := (s.group g).stats.addOverflow } := by
    rw [State.refuseOverflow_group, hqueued]
    rfl
  have habort : (u.enqueue g p).runQueue g [p] = ((u.enqueue g p).refuseOverflow g p o).enterRollingBack g .overflow := by
    rw [State.runQueue_of_abort (State.enqueue_canStart (hgroup ▸ hopen) (hgroup ▸ hstep) (hgroup ▸ hhold)) hdecision hact]
    exact State.abortCause_of_abortable _ g (by rw [hleft]; exact hopen) _
  refine ⟨_, ?_, hleft, ?_, ?_, ?_⟩
  · rw [hexec, ← hu, hjudge, habort]
  · rw [State.refuseOverflow_table, hu]
    rfl
  · rw [State.refuseOverflow_mem, hu]
    rfl
  · rw [State.refuseOverflow, State.refuseHead_clock, hu]
    rfl

/-- A port reset that starts no head, in a machine where no other group drains, is the abort cause for the port's group (R14). -/
theorem State.portReset_of_alone (hgroup : s.groupOf p = some g) (hstate : (s.group g).state ∈ abortedStates)
    (halone : s.resetsAlone p g) : s.portReset p = (s.flushPort p).enterRollingBack g (.portReset p) := by
  obtain ⟨hheads, hdrains⟩ := halone
  have hnone : s.headless p = [] := List.filter_eq_nil_iff.2 fun k _ => by
    rw [Group.losesHead]
    have hnot := hheads k
    cases hstep : (s.group k).step with
    | none =>
      have hne : (s.group k).queue.head? ≠ some p := fun h => hnot h hstep
      simp [hne]
    | some st => simp
  have hstarted : s.resetStarted p = s.flushPort p := by rw [State.resetStarted, hnone]; rfl
  have hflushed : ((s.flushPort p).group g).state ∈ abortedStates := by rw [State.flushPort_group]; exact hstate
  rw [State.portReset_of_group hgroup, hstarted, State.abortCause_of_aborted hflushed]
  obtain ⟨z, hz⟩ : ∃ z, z = (s.flushPort p).enterRollingBack g (.portReset p) := ⟨_, rfl⟩
  have hstays : ∀ k, z.drainCheck k = z := fun k => by
    by_cases hk : k = g
    · rw [hk, hz, State.enterRollingBack_rolling]
      exact State.drainCheck_again (by rw [State.rolling_group]; rfl)
    · refine State.drainCheck_of_other ?_
      rw [hz, (s.flushPort p).othersKept_enterRollingBack g _ k hk, State.flushPort_group]
      exact hdrains k hk
  rw [← hz, State.drainAll]
  suffices hfold : ∀ gs : List GroupId, gs.foldl (fun s k => s.drainCheck k) z = z from hfold fourIds
  intro gs
  induction gs with
  | nil => rfl
  | cons k gs ih => rw [List.foldl_cons, hstays k, ih]

end

end Sys2Proof.Machine
end

section
/-! The rollback by each of its causes, and the rollbacks of a trigger (R13, R14, R45, R165). -/

namespace Sys2Proof.Machine

section
variable {s u : State} {g : GroupId} {c : Instr} {k : CloseCause}

/-- The cause reaches group `g` in `w` and leaves `t`: the group and the memory port are as the entry to ROLLING_BACK leaves
them, and but for a port reset the table and the group's writes before it are those of `s`. -/
def State.entersFrom (s w t : State) (g : GroupId) (k : CloseCause) : Prop :=
  t.group g = (w.enterRollingBack g k).group g ∧ t.mem = (w.enterRollingBack g k).mem
    ∧ ((∀ p, k ≠ .portReset p) → t.table = s.table ∧ (w.group g).queue = (s.group g).queue
      ∧ (w.group g).putBack = (s.group g).putBack ∧ (w.group g).step = (s.group g).step)

theorem State.entersFrom_of_group {w : State} (hgroup : w.group g = s.group g) (htable : w.table = s.table) (k : CloseCause) :
    s.entersFrom w (w.enterRollingBack g k) g k :=
  ⟨rfl, rfl, fun _ => ⟨(w.enterRollingBack_table g k).trans htable, by rw [hgroup], by rw [hgroup], by rw [hgroup]⟩⟩

theorem State.risen_triggerGroups_of_one {n : TrigId} (haction : (s.trigger n).action = .rollback)
    (hmask : (s.trigger n).mask.get g = true) (hstate : (s.group g).state ∈ abortedStates)
    (hothers : ∀ j, j ≠ g → (s.trigger n).mask.get j = true → (s.group j).state ∉ abortedStates) :
    s.triggerEvent n = (s.risen n).enterRollingBack g (.trigger n) := by
  have hg : g ∈ (s.trigger n).targets := Trigger.mem_targets.2 (by simp [Trigger.acts, haction, hmask])
  rw [State.triggerEvent_eq, State.triggerGroups_of_one (Trigger.nodup_targets _) hg (s.risen n) fun j hj hne => ?_]
  · exact State.abortCause_of_aborted (s := s.risen n) hstate _
  · have hacts := Trigger.mem_targets.1 hj
    refine hothers j hne ?_
    simpa [Trigger.acts, haction] using hacts

/-- Each cause finds its group as it was, and the memory port as the command leaves it, and the group enters ROLLING_BACK. -/
theorem State.abortsBy_enters (h : s.abortsBy g c k u) (hstate : (s.group g).state ∈ abortedStates) :
    ∃ w t, exec c s = .next t ∧ s.AbortAt w u g ∧ s.entersFrom w t g k := by
  rcases h with ⟨rfl, p, a, rfl, rfl, hcommands⟩ | ⟨rfl, rfl, rfl, hvoting, htimer⟩ | ⟨rfl, rfl, rfl, hawaits⟩
    | ⟨rfl, n, rfl, rfl, hpin, hlevel, haction, hmask, hothers⟩
    | ⟨rfl, p, r, i, o, rfl, rfl, hclass, hreaches, hwrite, hopen, hqueue, hstep, hhold, hover, hpolicy⟩
    | ⟨p, rfl, rfl, rfl, hpin, hgroup, halone⟩
  · refine ⟨s.tick.wait p .voteAbort a g, _,
      congrArg Host.Outcome.next (State.takeCommand_of_commands (s := s.tick) hcommands _),
      .of_group rfl rfl rfl rfl, ?_⟩
    rw [State.voteAbort_of_abortable (s := s.tick) hstate]
    exact State.entersFrom_of_group (s := s) (w := s.tick.wait p .voteAbort a g) rfl rfl _
  · exact ⟨s.tick, _, execVoteTimeout_of_running hvoting htimer, .of_group rfl rfl rfl rfl,
      State.entersFrom_of_group (s := s) (w := s.tick) rfl rfl _⟩
  · refine ⟨s.tick, _, exec_of_awaits (c := .forceAbort) hawaits rfl, .of_group rfl rfl rfl rfl, ?_⟩
    rw [State.decideAs, State.carryOut, State.forceAbort_of_abortable (s := s.tick) hstate]
    exact State.entersFrom_of_group (s := s) (w := s.tick) rfl rfl _
  · refine ⟨s.tick.risen n, _, exec_triggerEvent hpin hlevel, .of_group rfl rfl rfl rfl, ?_⟩
    rw [State.risen_triggerGroups_of_one (s := s.tick) haction hmask hstate hothers]
    exact State.entersFrom_of_group (s := s) (w := s.tick.risen n) rfl rfl _
  · obtain ⟨w, hexec, hgroup, htable, hmem, hclock⟩ := exec_classification_of_abort hclass hreaches hwrite hopen hqueue hstep
      hhold hover hpolicy
    refine ⟨w, _, hexec, ⟨by rw [hgroup], by rw [hgroup], by rw [hgroup], by rw [hgroup], by rw [hgroup], hmem, hclock, rfl⟩,
      rfl, rfl, fun _ => ⟨(w.enterRollingBack_table g _).trans htable, ?_, by rw [hgroup], by rw [hgroup]⟩⟩
    rw [hgroup, hqueue]
  · have hflushed := s.tick.flushPort_group p g
    refine ⟨s.tick.flushPort p, _, exec_portReset hpin, ⟨by rw [hflushed]; rfl, ?_, by rw [hflushed]; rfl,
      by rw [hflushed]; rfl, by rw [hflushed]; rfl, rfl, rfl, rfl⟩, ?_⟩
    · rw [hflushed, Group.leftBy, State.tick_group]
      exact Option.map_eq_none_iff
    · rw [State.portReset_of_alone (s := s.tick) hgroup hstate halone]
      exact ⟨rfl, rfl, fun hnot => absurd rfl (hnot p)⟩

/-! ### Several groups of one trigger (R165) -/

/-- What the entry to ROLLING_BACK hands on and where it leaves the phase, for a group that was in no undo (R77, R78). -/
theorem State.enterRollingBack_of_open (hnot : (s.group g).state ≠ .unwinding) (hslots : 3 ≤ (s.group g).config.slots)
    (k : CloseCause) :
    (s.enterRollingBack g k).mem = { s.mem with
        waiting := s.mem.waiting ++ (s.firstOfDrain g).map (fun y => { y with stamp := s.clock }) }
      ∧ ((s.enterRollingBack g k).group g).phase = some (if (s.group g).step ≠ none ∨ s.writesUnanswered g = true then .drain
          else if (s.group g).journalLength < (s.group g).config.slots - 2 then .clear else .pop) := by
  have hgroup := s.rolling_group g k
  obtain ⟨hphase, -⟩ := Group.rolled_phase (x := s.group g) (fun h => absurd h hnot) k
  have hcheck := State.drainCheck_of_drain (s := s.rolling g k) (g := g) (by rw [hgroup]; exact hphase)
    (by rw [hgroup]; exact hslots)
  have hwaits : ((s.rolling g k).group g).step ≠ none ∨ (s.rolling g k).writesUnanswered g = true
      ↔ (s.group g).step ≠ none ∨ s.writesUnanswered g = true := by
    rw [hgroup]
    rfl
  rw [State.enterRollingBack_rolling, hcheck, State.firstOfDrain]
  by_cases hdrain : (s.group g).step ≠ none ∨ s.writesUnanswered g = true
  · rw [if_pos (hwaits.2 hdrain), if_pos hdrain, if_pos hdrain, hgroup, List.map_nil, List.append_nil]
    exact ⟨rfl, hphase⟩
  · rw [if_neg fun h => hdrain (hwaits.1 h), if_neg hdrain, if_neg hdrain, State.handOn_group, State.modGroup_group_self, hgroup]
    by_cases hroom : (s.group g).journalLength < (s.group g).config.slots - 2
    · have hend : ((s.group g).rolled k).drainEnd = (.clear, none) := if_pos hroom
      have hfirst : ((s.group g).rolled k).firstTxn g
          = (s.group g).clearing g (2 + (s.group g).journalLength) .clearPhase := if_pos hroom
      obtain ⟨hclear, -⟩ := Group.phase_atPhase hphase .clear none
      rw [if_pos hroom, if_pos hroom, hend, hfirst]
      exact ⟨rfl, hclear⟩
    · have hend : ((s.group g).rolled k).drainEnd = (.pop, some (1 + (s.group g).journalLength)) := if_neg hroom
      have hfirst : ((s.group g).rolled k).firstTxn g
          = (s.group g).slotRead g (1 + (s.group g).journalLength) .popRead := if_neg hroom
      obtain ⟨hpop, -⟩ := Group.phase_atPhase hphase .pop (some (1 + (s.group g).journalLength))
      rw [if_neg hroom, if_neg hroom, hend, hfirst]
      exact ⟨rfl, hpop⟩

/-- What a drain hands on at its end is no data write of a requester (R150). -/
theorem State.firstOfDrain_no_data (s : State) (g j : GroupId) : ∀ y ∈ s.firstOfDrain g, y.isDataWriteOf j = false := by
  intro y hy
  rw [State.firstOfDrain] at hy
  split at hy
  · cases hy
  · split at hy
    · rw [List.mem_singleton.1 hy]
      rfl
    · rw [List.mem_singleton.1 hy]
      rfl

/-- One group's rollback leaves the others' drains as they are. -/
theorem State.firstOfDrain_enterRollingBack {j : GroupId} (hnot : (s.group g).state ≠ .unwinding)
    (hslots : 3 ≤ (s.group g).config.slots) (hj : j ≠ g) (k : CloseCause) :
    (s.enterRollingBack g k).writesUnanswered j = s.writesUnanswered j
      ∧ (s.enterRollingBack g k).firstOfDrain j = s.firstOfDrain j := by
  obtain ⟨hmem, -⟩ := State.enterRollingBack_of_open hnot hslots k
  have hwrites : (s.enterRollingBack g k).writesUnanswered j = s.writesUnanswered j := by
    have hnone : ((s.firstOfDrain g).map fun y => { y with stamp := s.clock }).any (fun y => y.isDataWriteOf j) = false := by
      refine List.any_eq_false.2 fun x hx => ?_
      obtain ⟨y, hy, rfl⟩ := List.mem_map.1 hx
      exact Bool.eq_false_iff.1 (s.firstOfDrain_no_data g j y hy)
    rw [State.writesUnanswered, hmem, State.writesUnanswered, MemPort.held, MemPort.held, List.any_append, List.any_append,
      hnone, Bool.or_false, List.any_append]
    rfl
  refine ⟨hwrites, ?_⟩
  rw [State.firstOfDrain, s.othersKept_enterRollingBack g k j hj, hwrites, State.firstOfDrain]

/-- The groups of a list that an abort cause takes, each once: what they hand on, in their order, and their phases. -/
theorem State.triggerGroups_of_open {n : TrigId} {gs : List GroupId} (hnodup : gs.Nodup) (s : State)
    (hgs : ∀ g ∈ gs, (s.group g).state ≠ .unwinding ∧ 3 ≤ (s.group g).config.slots) :
    (s.triggerGroups n gs).mem = { s.mem with
        waiting := s.mem.waiting ++ (gs.filter fun g => decide ((s.group g).state ∈ abortedStates)).flatMap fun g =>
          (s.firstOfDrain g).map (fun y => { y with stamp := s.clock }) }
      ∧ ∀ g ∈ gs, (s.group g).state ∈ abortedStates → ((s.triggerGroups n gs).group g).phase
        = some (if (s.group g).step ≠ none ∨ s.writesUnanswered g = true then .drain
          else if (s.group g).journalLength < (s.group g).config.slots - 2 then .clear else .pop) := by
  induction gs generalizing s with
  | nil => exact ⟨by rw [List.filter_nil, List.flatMap_nil, List.append_nil]; rfl, fun g hg => absurd hg List.not_mem_nil⟩
  | cons k gs ih =>
    obtain ⟨hk, hnodup⟩ := List.nodup_cons.1 hnodup
    obtain ⟨hnot, hslots⟩ := hgs k List.mem_cons_self
    rw [State.triggerGroups_cons]
    by_cases haborted : (s.group k).state ∈ abortedStates
    · obtain ⟨hmem, hphase⟩ := State.enterRollingBack_of_open hnot hslots (.trigger n)
      obtain ⟨hrest, -⟩ := s.enterRollingBack_frame k (.trigger n)
      have hkept := s.othersKept_enterRollingBack k (.trigger n)
      have hdrains : ∀ j, j ≠ k → _ := fun j hj => State.firstOfDrain_enterRollingBack (j := j) hnot hslots hj (.trigger n)
      rw [State.abortCause_of_aborted haborted]
      obtain ⟨u, hu⟩ : ∃ u, u = s.enterRollingBack k (.trigger n) := ⟨_, rfl⟩
      rw [← hu] at hmem hphase hkept hdrains ⊢
      have hne : ∀ j ∈ gs, j ≠ k := fun j hj heq => hk (heq ▸ hj)
      have hclock : u.clock = s.clock := by rw [hu, hrest]
      obtain ⟨hmems, hphases⟩ := ih hnodup u fun g hg => by
        rw [hkept g (hne g hg)]
        exact hgs g (List.mem_cons_of_mem k hg)
      have hfilter : gs.filter (fun g => decide ((u.group g).state ∈ abortedStates))
          = gs.filter fun g => decide ((s.group g).state ∈ abortedStates) :=
        List.filter_congr fun g hg => by rw [hkept g (hne g hg)]
      refine ⟨?_, fun g hg hstate => ?_⟩
      · have hlist : (gs.filter fun g => decide ((s.group g).state ∈ abortedStates)).flatMap
            (fun g => (u.firstOfDrain g).map (fun y => { y with stamp := u.clock }))
            = (gs.filter fun g => decide ((s.group g).state ∈ abortedStates)).flatMap
              (fun g => (s.firstOfDrain g).map (fun y => { y with stamp := s.clock })) :=
          List.flatMap_congr fun g hg => by
            rw [(hdrains g (hne g (List.mem_filter.1 hg).1)).2, hclock]
        rw [hmems, hmem, hfilter, hlist, List.filter_cons, if_pos (decide_eq_true haborted), List.flatMap_cons,
          List.append_assoc]
      · by_cases hgk : g = k
        · rw [hgk, State.triggerGroups_group_of_not_mem hk]
          exact hphase
        · have hg := (List.mem_cons.1 hg).resolve_left hgk
          rw [hphases g hg (by rw [hkept g hgk]; exact hstate), hkept g hgk, (hdrains g hgk).1]
    · rw [State.abortCause_of_not_abortable haborted]
      obtain ⟨hmems, hphases⟩ := ih hnodup s fun g hg => hgs g (List.mem_cons_of_mem k hg)
      refine ⟨?_, fun g hg hstate => hphases g ?_ hstate⟩
      · rw [hmems, List.filter_cons, if_neg (by simpa using haborted)]
      · exact (List.mem_cons.1 hg).resolve_left fun heq => haborted (heq ▸ hstate)

end

/-- Settles O32: the entry to ROLLING_BACK by the state in which each cause finds its group. -/
theorem rollbackBeginsWithTheDrain : Obligations.RollbackBeginsWithTheDrain := by
  refine ⟨fun s g c k u haborts hstate hslots => ?begins, fun s g c k u x haborts hstate hx hphase => ?overtakes,
    fun s n hpin hlevel haction hgroups => ?trigger⟩
  case begins =>
    have haborted : (s.group g).state ∈ abortedStates := by
      rcases hstate with h | h | ⟨h, -⟩ <;> rw [h] <;> decide
    obtain ⟨w, t, hexec, hat, hgroup, hmem, -⟩ := State.abortsBy_enters haborts haborted
    refine ⟨t, hexec, State.rollbackBegun_of_same (State.rollbackBegun_enterRollingBack hat (fun hun => ?_) hslots k) hgroup hmem⟩
    rcases hstate with h | h | ⟨-, hdrain⟩
    · exact absurd (h.symm.trans hun) nofun
    · exact absurd (h.symm.trans hun) nofun
    · exact hdrain
  case overtakes =>
    have haborted : (s.group g).state ∈ abortedStates := by rw [hstate]; decide
    obtain ⟨w, t, hexec, hat, hgroup, hmem, hrest⟩ := State.abortsBy_enters haborts haborted
    obtain ⟨henter, hrollback, hunwind, hlast⟩ := State.enterRollingBack_of_undo hat hstate hx hphase k
    rw [henter] at hgroup hmem
    refine ⟨t, hexec, by rw [hgroup, hrollback], by rw [hgroup, hunwind], hmem.trans hlast, fun hnot => ?_⟩
    obtain ⟨htable, hqueue, hput, hstep⟩ := hrest hnot
    refine ⟨htable, ?_⟩
    rw [hgroup, State.rolling_group, ← hqueue, ← hput, ← hstep]
    exact congrArg ((w.group g).putBack ++ ·) (w.group g).unbegun_eq
  case trigger =>
    have hacts : ∀ g, (s.trigger n).acts g = (s.trigger n).mask.get g := fun g => by simp [Trigger.acts, haction]
    have htargets : ∀ g, g ∈ (s.trigger n).targets ↔ (s.trigger n).mask.get g = true := fun g => by
      rw [Trigger.mem_targets, hacts]
    obtain ⟨hmem, hphases⟩ := State.triggerGroups_of_open (n := n) (Trigger.nodup_targets (s.trigger n)) (s.tick.risen n)
      fun g hg => hgroups g ((htargets g).1 hg)
    have hlist : (s.trigger n).targets.filter (fun g => decide ((s.group g).state ∈ abortedStates))
        = fourIds.filter fun g => (s.trigger n).mask.get g && decide ((s.group g).state ∈ abortedStates) := by
      rw [Trigger.targets, List.filter_filter]
      exact List.filter_congr fun g _ => by rw [hacts g, Bool.and_comm]
    refine ⟨_, exec_triggerEvent hpin hlevel, ?_, fun g hmask hstate => hphases g ((htargets g).2 hmask) hstate⟩
    rw [← hlist]
    exact hmem

end Sys2Proof.Machine
end

section
/-! Classification of one head, seen from a group and from ports that it is not about (R15, R115): they keep what they have. -/

namespace Sys2Proof.Machine

/-! ### What is left alone elsewhere -/

/-- From `x` to `y` nothing but the stage of the head has moved, and the head is still undecided. -/
def Port.restaged (x y : Port) : Prop := ∃ o : Option Stage, (∀ k, o = some k → k.undecided = true) ∧ y = x.staged o

theorem Port.staged_or (x : Port) {o o' : Option Stage} (h : ∀ k, o = some k → k.undecided = true) :
    (x.staged o).staged o' = x.staged (o'.or o) := by
  cases o' with
  | none => rfl
  | some j =>
    cases o with
    | none => rfl
    | some k =>
      have hmap : mapHead (fun r => r.atStage j) (mapHead (fun r => r.atStage k) x.queue)
          = mapHead (fun r => r.atStage j) x.queue := mapHead_mapHead (fun _ => h k rfl) _ x.queue
      change { x with queue := mapHead (fun r => r.atStage j) (mapHead (fun r => r.atStage k) x.queue) } = _
      rw [hmap]
      rfl

theorem Port.restaged.refl (x : Port) : x.restaged x := ⟨none, nofun, rfl⟩

theorem Port.restaged.trans {x y z : Port} (h : x.restaged y) (h' : y.restaged z) : x.restaged z := by
  obtain ⟨o, ho, rfl⟩ := h
  obtain ⟨o', ho', rfl⟩ := h'
  refine ⟨o'.or o, fun k hk => ?_, x.staged_or ho⟩
  rcases Option.or_eq_some_iff.1 hk with hk | ⟨-, hk⟩
  · exact ho' k hk
  · exact ho k hk

/-- From `s` to `t` group `g` keeps what it has and gets no entry of the table, no channel moves, and a port of `P` that is in
no journal queue stays out of them all, with at most the stage of its head changed. -/
structure State.Elsewhere (s t : State) (g : GroupId) (P : PortId → Prop) : Prop where
  group : t.group g = s.group g
  table : (∀ e ∈ s.table, e.group ≠ g) → ∀ e ∈ t.table, e.group ≠ g
  channel : ∀ q, (t.port q).channel = (s.port q).channel
  queues : ∀ p, P p → (∀ k, p ∉ (s.group k).queue) → ∀ k, p ∉ (t.group k).queue
  ports : ∀ p, P p → (∀ k, p ∉ (s.group k).queue) → (s.port p).restaged (t.port p)

section
variable {g k : GroupId} {P : PortId → Prop} {q : PortId}

theorem State.Elsewhere.refl (s : State) : s.Elsewhere s g P :=
  ⟨rfl, id, fun _ => rfl, fun _ _ h => h, fun _ _ _ => .refl _⟩

theorem State.Elsewhere.trans {a b c : State} (h : a.Elsewhere b g P) (h' : b.Elsewhere c g P) : a.Elsewhere c g P where
  group := h'.group.trans h.group
  table := fun ha => h'.table (h.table ha)
  channel := fun q => (h'.channel q).trans (h.channel q)
  queues := fun p hp ha => h'.queues p hp (h.queues p hp ha)
  ports := fun p hp ha => (h.ports p hp ha).trans (h'.ports p hp (h.queues p hp ha))

/-- A move about the queue of group `k` alone is about no port outside the queues. -/
theorem State.Elsewhere.of_queued {s t : State} (h : s.Elsewhere t g fun p => p ∉ (s.group k).queue) : s.Elsewhere t g P where
  group := h.group
  table := h.table
  channel := h.channel
  queues := fun p _ hp => h.queues p (hp k) hp
  ports := fun p _ hp => h.ports p (hp k) hp

/-- A move of ports and the memory port alone. -/
theorem State.elsewhere_of_ports {s t : State} (hgroups : t.groups = s.groups) (htable : t.table = s.table)
    (hchannel : ∀ q, (t.port q).channel = (s.port q).channel) (hports : ∀ p, P p → (s.port p).restaged (t.port p)) :
    s.Elsewhere t g P where
  group := congrArg (fun v => v.get g) hgroups
  table := by rw [htable]; exact id
  channel := hchannel
  queues := fun p _ hp j => by
    rw [State.group, hgroups]
    exact hp j
  ports := fun p hp _ => hports p hp

theorem State.elsewhere_modGroup (hk : g ≠ k) {f : Group → Group} (s : State)
    (hqueue : ∀ p, P p → p ∉ (s.group k).queue → p ∉ (f (s.group k)).queue) : s.Elsewhere (s.modGroup k f) g P where
  group := by rw [State.modGroup_group, if_neg hk]
  table := id
  channel := fun _ => rfl
  queues := fun p hp h j => by
    rw [State.modGroup_group]
    split
    · exact hqueue p hp (h k)
    · exact h j
  ports := fun _ _ _ => .refl _

theorem State.elsewhere_stageHeads {σ : PortId → Option Stage} (hσ : keepsHeads σ) (s : State) :
    s.Elsewhere (s.stageHeads σ) g P :=
  State.elsewhere_of_ports rfl rfl (fun q => s.stageHeads_channel σ q) fun p _ => ⟨σ p, hσ p, s.stageHeads_port σ p⟩

theorem State.elsewhere_stageHead (q : PortId) {j : Stage} (hj : j.undecided = true) (s : State) :
    s.Elsewhere (s.stageHead q j) g P := by
  rw [State.stageHead_eq]
  exact State.elsewhere_stageHeads (keepsHeads_single q hj) s

theorem State.elsewhere_setTable {l : List TrackEntry} (s : State) (h : ∀ e ∈ l, e.group ≠ g ∨ e ∈ s.table) :
    s.Elsewhere (s.setTable l) g P where
  group := rfl
  table := fun hs e he => (h e he).elim id fun he => hs e he
  channel := fun _ => rfl
  queues := fun _ _ h => h
  ports := fun _ _ _ => .refl _

theorem State.elsewhere_handOn (y : Txn) (s : State) : s.Elsewhere (s.handOn y) g P :=
  State.elsewhere_of_ports rfl rfl (fun _ => rfl) fun _ _ => .refl _

theorem Port.restaged.of_eq {x y : Port} (h : y = x) : x.restaged y := h ▸ .refl x

theorem State.elsewhere_issueHead (hq : ∀ p, P p → p ≠ q) (d : Option GroupId) (s : State) :
    s.Elsewhere (s.issueHead q d) g P :=
  State.elsewhere_of_ports (s.issueHead_groups q d) (s.issueHead_table q d) (State.issueHead_channel s q d) fun p hp =>
    .of_eq (State.issueHead_other d (hq p hp))

theorem State.elsewhere_refuseHead (hq : ∀ p, P p → p ≠ q) (why : RefusalReason) (s : State) :
    s.Elsewhere (s.refuseHead q why) g P :=
  State.elsewhere_of_ports (s.refuseHead_groups q why) (s.refuseHead_table q why) (State.refuseHead_channel s q why) fun p hp =>
    .of_eq (State.refuseHead_other why (hq p hp))

theorem State.elsewhere_setHeadClass (hq : ∀ p, P p → p ≠ q) (d : Option EntryId) (j : Option GroupId) (s : State) :
    s.Elsewhere (s.setHeadClass q d j) g P := by
  refine State.elsewhere_of_ports (s.setHeadClass_groups q d j) rfl (fun p => ?_) fun p hp =>
    .of_eq (s.setHeadClass_other q d j (hq p hp))
  rw [State.setHeadClass_port]
  split
  next h => rw [h]
  next => rfl

/-! ### The start of a head of another group -/

theorem State.elsewhere_reserve (hk : g ≠ k) (q : PortId) (s : State) : s.Elsewhere (s.reserve k q) g P where
  group := s.othersKept_reserve k q g hk
  table := fun h e he => by
    rw [State.reserve_table] at he
    rcases mem_putEntry he with rfl | he
    · rw [stagedEntry_eq]
      split
      · exact hk.symm
      next e he => exact h e (findEntry_mem he)
    · exact h e he
  channel := fun p => by rw [State.reserve_port, State.stageHead_eq, State.stageHeads_channel]
  queues := fun p _ h j => by
    by_cases hj : j = k
    · rw [hj, State.reserve_group]
      exact h k
    · rw [s.othersKept_reserve k q j hj]
      exact h j
  ports := fun p _ _ => ⟨if p = q then some .inQueue else none, fun _ => keepsHeads_single q rfl p _, by
    rw [State.reserve_port, State.stageHead_eq, State.stageHeads_port]⟩

theorem State.elsewhere_headLeaves (hk : g ≠ k) {f : Group → Group} (hf : ∀ x, (f x).queue = x.queue.tail) (s : State) :
    s.Elsewhere (s.modGroup k f) g P :=
  State.elsewhere_modGroup hk s fun p _ hp => by
    rw [hf]
    exact not_mem_tail hp

theorem State.elsewhere_drainCheck (hk : g ≠ k) (s : State) (h : (s.group k).state = .rollingBack) :
    s.Elsewhere (s.drainCheck k) g P := by
  obtain ⟨hrest, hothers, -, hkept⟩ := State.drainCheck_frame (s := s) (g := k) fun hun => absurd (h.symm.trans hun) nofun
  obtain ⟨-, -, -, -, -, -, -, -, -, -, -, hqueue, -⟩ := Group.kept_of_atPhase hkept
  have hport : ∀ p, (s.drainCheck k).port p = s.port p := fun p => by
    rw [hrest]
    rfl
  refine ⟨hothers g hk, ?_, fun q => by rw [hport], fun p _ hp j => ?_, fun p _ _ => .of_eq (hport p)⟩
  · rw [hrest]
    exact id
  · by_cases hj : j = k
    · rw [hj, hqueue]
      exact hp k
    · rw [hothers j hj]
      exact hp j

theorem State.elsewhere_enterRollingBack (hk : g ≠ k) (c : CloseCause) (s : State) :
    s.Elsewhere (s.enterRollingBack k c) g P := by
  rw [State.enterRollingBack_rolling]
  refine .trans (.trans (State.elsewhere_stageHeads (keepsHeads_stagesOf (s.rolledPorts k) rfl) s)
    (State.elsewhere_modGroup hk _ fun p _ hp hmem => ?_))
    (State.elsewhere_drainCheck hk (s.rolling k c) (by rw [State.rolling_group]; rfl))
  rw [show ∀ x : Group, (x.rolled c).queue = x.begun from fun _ => rfl, Group.begun_eq] at hmem
  exact hp (List.mem_filter.1 hmem).1

theorem State.elsewhere_abortCause (hk : g ≠ k) (c : CloseCause) (s : State) : s.Elsewhere (s.abortCause k c) g P := by
  rcases s.abortCause_cases k c with h | h
  · rw [h]
    exact .refl s
  · rw [h]
    exact State.elsewhere_enterRollingBack hk c s

theorem State.elsewhere_refuseOverflow (hk : g ≠ k) (hq : ∀ p, P p → p ≠ q) (o : Overflow) (s : State) :
    s.Elsewhere (s.refuseOverflow k q o) g P :=
  .trans (State.elsewhere_headLeaves hk (f := fun x => x.headLeaves.modStats Stats.addOverflow) (fun _ => rfl) s)
    (State.elsewhere_refuseHead hq _ _)

theorem State.elsewhere_beginHold (hk : g ≠ k) (q : PortId) (o : Overflow) (s : State) :
    s.Elsewhere (s.beginHold k q o) g P := by
  have h := (State.elsewhere_modGroup (P := P) (f := fun x =>
      { x with hold := some { reason := o, timer := x.config.holdLimit, since := s.nextHold } }) hk s fun _ _ hp => hp).trans
    (State.elsewhere_stageHead q (j := .held (.overflow o)) rfl _)
  exact ⟨h.group, h.table, h.channel, h.queues, h.ports⟩

theorem State.elsewhere_runQueue (hk : g ≠ k) (l : List PortId) (s : State) : s.Elsewhere (s.runQueue k l) g (· ∉ l) := by
  have hne : ∀ q ∈ l, ∀ p, p ∉ l → p ≠ q := fun q hq p hp heq => hp (heq ▸ hq)
  exact State.runQueue_rel (R := fun s t => s.Elsewhere t g (· ∉ l)) State.Elsewhere.refl State.Elsewhere.trans
    (fun s q hq => (State.elsewhere_headLeaves hk (fun _ => rfl) s).trans (State.elsewhere_issueHead (hne q hq) _ _))
    (fun s q _ => State.elsewhere_reserve hk q s) (fun s q hq o => State.elsewhere_refuseOverflow hk (hne q hq) o s)
    (fun s q _ o _ => State.elsewhere_beginHold hk q o s)
    (fun s q hq o _ => (State.elsewhere_refuseOverflow hk (hne q hq) o s).trans (State.elsewhere_abortCause hk _ _)) s

theorem State.elsewhere_startHeads (hk : g ≠ k) (s : State) : s.Elsewhere (s.startHeads k) g P :=
  (State.elsewhere_runQueue hk (s.group k).queue s).of_queued

/-! ### Classification of a head (R10, R28, R115) -/

theorem State.elsewhere_enqueue (hk : g ≠ k) (hq : ∀ p, P p → p ≠ q) (s : State) : s.Elsewhere (s.enqueue k q) g P :=
  .trans (State.elsewhere_stageHead q rfl s) (State.elsewhere_modGroup hk _ fun p hp hnot hmem =>
    (List.mem_append.1 hmem).elim hnot fun hmem => hq p hp (List.mem_singleton.1 hmem))

theorem State.elsewhere_joinQueue (hk : g ≠ k) (hq : ∀ p, P p → p ≠ q) (s : State) : s.Elsewhere (s.joinQueue k q) g P := by
  unfold State.joinQueue
  split
  · exact (State.elsewhere_enqueue hk hq s).trans (State.elsewhere_startHeads hk _)
  · exact State.elsewhere_enqueue hk hq s

theorem State.elsewhere_joinWaiting (q : PortId) (s : State) : s.Elsewhere (s.joinWaiting q) g P := by
  have htable : s.Elsewhere (s.setTable (joinWaiters (s.headBlock q) q s.table)) g P := by
    unfold joinWaiters
    split
    · exact State.elsewhere_setTable s fun e he => .inr he
    next e he =>
      refine ⟨rfl, fun h x hx => ?_, fun _ => rfl, fun _ _ h => h, fun _ _ _ => .refl _⟩
      rcases mem_putEntry hx with rfl | hx
      · exact h e (findEntry_mem he)
      · exact h x hx
  exact htable.trans (State.elsewhere_stageHead q rfl _)

theorem State.elsewhere_judge (hk : g ≠ k) (hq : ∀ p, P p → p ≠ q) (s : State) : s.Elsewhere (s.judge k q) g P := by
  unfold State.judge State.judgeTo
  split
  · exact State.elsewhere_joinQueue hk hq s
  · split
    · exact State.elsewhere_joinWaiting q s
    · split
      · exact State.elsewhere_issueHead hq _ s
      · exact State.elsewhere_joinQueue hk hq s

theorem State.elsewhere_openEpoch (hk : g ≠ k) (s : State) : s.Elsewhere (s.openEpoch k) g P := by
  refine .trans (State.elsewhere_setTable s fun e he => .inr (List.mem_of_mem_filter he))
    (State.elsewhere_modGroup hk _ fun _ _ _ => List.not_mem_nil)

theorem State.elsewhere_autoOpen (hk : g ≠ k) (hq : ∀ p, P p → p ≠ q) (s : State) : s.Elsewhere (s.autoOpen k q) g P := by
  unfold State.autoOpen
  split
  · split
    · exact State.elsewhere_refuseHead hq _ s
    · exact (State.elsewhere_openEpoch hk s).trans (State.elsewhere_judge hk hq _)
  · exact State.elsewhere_refuseHead hq _ s

end

/-- What admission can do with a head (R10). -/
theorem State.admission_outcomes (s : State) (g : GroupId) (p : PortId) (a : AccessKind) :
    (∃ why, s.admission g p a = s.refuseHead p why) ∨ s.admission g p a = s.issueHead p none
      ∨ (∃ why, s.admission g p a = s.holdHead p why) ∨ s.admission g p a = s.judge g p
      ∨ s.admission g p a = s.autoOpen g p := by
  cases hstate : (s.group g).state with
  | disabled => exact .inl ⟨.groupUnverified, by unfold State.admission; rw [hstate]⟩
  | unverified | formatting | recovering => exact .inl ⟨_, State.admission_unverified (by rw [hstate]; decide)⟩
  | faulted => exact .inl ⟨_, State.admission_faulted hstate⟩
  | unwinding => exact .inr (.inr (.inl ⟨_, State.admission_unwinding hstate⟩))
  | rollingBack => exact .inr (.inr (.inl ⟨_, State.admission_rollingBack hstate⟩))
  | closed =>
    cases a with
    | read => exact .inr (.inl (State.admission_read (by rw [hstate]; decide)))
    | write => exact .inr (.inr (.inr (.inr (State.admission_closed_write hstate))))
  | opened =>
    cases a with
    | read => exact .inr (.inl (State.admission_read (by rw [hstate]; decide)))
    | write => exact .inr (.inr (.inr (.inl (State.admission_opened_write hstate))))
  | voting =>
    cases a with
    | read => exact .inr (.inl (State.admission_read (by rw [hstate]; decide)))
    | write =>
      cases hvote : (s.group g).voteSet.get p with
      | true => exact .inl ⟨_, State.admission_voted hstate hvote⟩
      | false => exact .inr (.inr (.inr (.inl (State.admission_voting_write hstate hvote))))
  | committing =>
    cases a with
    | read => exact .inr (.inl (State.admission_read (by rw [hstate]; decide)))
    | write => exact .inr (.inr (.inl ⟨_, State.admission_committing_write hstate⟩))

section
variable {g k : GroupId} {P : PortId → Prop} {q : PortId}

theorem State.elsewhere_admission (hk : g ≠ k) (hq : ∀ p, P p → p ≠ q) (a : AccessKind) (s : State) :
    s.Elsewhere (s.admission k q a) g P := by
  rcases s.admission_outcomes k q a with ⟨why, h⟩ | h | ⟨why, h⟩ | h | h
  · rw [h]
    exact State.elsewhere_refuseHead hq why s
  · rw [h]
    exact State.elsewhere_issueHead hq none s
  · rw [h]
    exact State.elsewhere_stageHead q rfl s
  · rw [h]
    exact State.elsewhere_judge hk hq s
  · rw [h]
    exact State.elsewhere_autoOpen hk hq s

/-- A FAULTED group is left alone by the classification of a head, and so is every port but the head's (R10, R115). -/
theorem State.elsewhere_classify (hq : ∀ p, P p → p ≠ q) (s : State) (hfaulted : (s.group g).state = .faulted) :
    s.Elsewhere (s.classify q) g P := by
  cases hr : s.head q with
  | none =>
    rw [State.classify, hr]
    exact .refl s
  | some r =>
    cases hv : s.verdict q r with
    | refuse why d j =>
      rw [State.classify_of_refuse hr hv]
      exact (State.elsewhere_setHeadClass hq d j s).trans (State.elsewhere_refuseHead hq why _)
    | pass d =>
      rw [State.classify_of_pass hr hv]
      exact (State.elsewhere_setHeadClass hq d none s).trans (State.elsewhere_issueHead hq none _)
    | handOver d k =>
      rw [State.classify_of_handOver hr hv]
      refine (State.elsewhere_setHeadClass hq (some d) (some k) s).trans ?_
      by_cases hk : g = k
      · rw [← hk, State.admission_faulted (show ((s.setHeadClass q (some d) (some g)).group g).state = .faulted from hfaulted)]
        exact State.elsewhere_refuseHead hq _ _
      · exact State.elsewhere_admission hk hq _ _

/-! ### Held heads of other groups (R41) -/

theorem State.elsewhere_retakeHead (hk : g ≠ k) (s : State) : s.Elsewhere (s.retakeHead k) g P := by
  unfold State.retakeHead
  split
  next h q rest _ hqueue =>
    have hq : ∀ p, p ∉ (s.group k).queue → p ≠ q := fun p hp heq => hp (by rw [hqueue, heq]; exact List.mem_cons_self)
    refine State.Elsewhere.of_queued (k := k) ?_
    split
    · exact ((State.elsewhere_headLeaves hk (fun _ => rfl) s).trans (State.elsewhere_issueHead hq _ _)).trans
        (State.elsewhere_startHeads hk _)
    · exact State.elsewhere_reserve hk q s
    · exact (State.elsewhere_modGroup hk s fun _ _ hp => hp).trans (State.elsewhere_stageHead q rfl _)
  next => exact .refl s

/-- The retakes of held heads are of other groups than one that holds none (R41, R43). -/
theorem State.elsewhere_retakeAll (s : State) (h : (s.group g).hold = none) : s.Elsewhere s.retakeAll g P := by
  have hnot : g ∉ s.heldGroups := fun hmem => State.mem_heldGroups.1 hmem h
  suffices hfold : ∀ (js : List GroupId) (u : State), g ∉ js → u.Elsewhere (js.foldl (fun s j => s.retakeHead j) u) g P from
    hfold s.heldGroups s hnot
  intro js
  induction js with
  | nil => exact fun u _ => .refl u
  | cons j js ih =>
    intro u hj
    obtain ⟨hgj, hgjs⟩ : g ≠ j ∧ g ∉ js := by simpa using hj
    exact (State.elsewhere_retakeHead hgj u).trans (ih _ hgjs)

end

end Sys2Proof.Machine
end

section
/-! Entry to FAULTED (R15): the six items, and the refusal of every head that stood inside the group. -/

namespace Sys2Proof.Machine

/-! ### What a head keeps while other heads are classified -/

@[simp] theorem Port.staged_refusalCount (x : Port) (o : Option Stage) : (x.staged o).refusalCount = x.refusalCount := by
  cases o <;> rfl

theorem Port.restaged.refusal {x y : Port} (h : x.restaged y) :
    y.refusal = x.refusal ∧ y.refusalCount = x.refusalCount := by
  obtain ⟨o, -, rfl⟩ := h
  exact ⟨x.staged_refusal o, x.staged_refusalCount o⟩

theorem Port.restaged.head {x y : Port} {r : Request} (h : x.restaged y) (hr : headOf x.queue = some r) :
    ∃ k, headOf y.queue = some (r.atStage k) := by
  obtain ⟨o, ho, rfl⟩ := h
  cases o with
  | none => exact ⟨r.stage, hr⟩
  | some k =>
    refine ⟨k, (headOf_mapHead (f := fun r => r.atStage k) (fun _ => ho k rfl) x.queue).trans ?_⟩
    rw [hr]
    rfl

section
variable {P : GroupId → Prop} {s t : State} {p : PortId} {r : Request} {i : EntryId} {g : GroupId}

theorem Calm.inJournalArea (h : Calm P s t) (b : Block) : t.inJournalArea b = s.inJournalArea b := by
  unfold State.inJournalArea
  simp only [h.config]

/-- Neither the map nor a configuration moves, and classification looks at nothing else (R116 to R119). -/
theorem Calm.reaches (h : Calm P s t) (hreaches : s.reaches p r i g) : t.reaches p r i g := by
  obtain ⟨hformed, harea, hdomain, hgrant, hkind, hgroup, hpart⟩ := hreaches
  refine ⟨hformed, (h.inJournalArea _).trans harea, ?_, ?_, ?_, ?_, fun hwrite => ?_⟩
  · rw [State.domainOf, h.map]
    exact hdomain
  · rw [h.map]
    exact hgrant
  · rw [h.map]
    exact hkind
  · rw [h.map]
    exact hgroup
  · rw [h.config]
    exact hpart hwrite

theorem Calm.isLatched (h : Calm P s t) {c : Cause} (hc : s.isLatched c = true) : t.isLatched c = true := h.latched _ hc

theorem Calm.mem_emitted (h : Calm P s t) {e : Emission} (he : e ∈ s.emitted) : e ∈ t.emitted := by
  obtain ⟨l, hl⟩ := h.emitted
  rw [hl]
  exact List.mem_append_left _ he

end

/-! ### The heads inside a FAULTED group are refused (R10, R15, R59) -/

/-- From `s` to `t` the head of port `p`, the request `r`, is refused GROUP_FAULTED in domain `i` of group `g`. -/
def State.faultRefused (s t : State) (g : GroupId) (p : PortId) (r : Request) (i : EntryId) : Prop :=
  (t.port p).refusal = some { kind := r.kind, addr := r.addr, size := r.size, reason := .groupFaulted, domain := some i,
                              group := some g, epoch := some ((s.group g).closedEpoch + 1) }
    ∧ (t.port p).refusalCount = min 65535 ((s.port p).refusalCount + 1) ∧ t.isLatched (.refusal p) = true

section
variable {s t : State} {g : GroupId} {p : PortId} {r : Request} {i : EntryId} {l : List PortId}

/-- A refusal stays on record as long as the port is left alone. -/
theorem State.faultRefused.kept {u : State} (h : s.faultRefused t g p r i)
    (hport : (u.port p).refusal = (t.port p).refusal ∧ (u.port p).refusalCount = (t.port p).refusalCount)
    (hlatched : t.isLatched (.refusal p) = true → u.isLatched (.refusal p) = true) : s.faultRefused u g p r i := by
  obtain ⟨hrefusal, hcount, hcause⟩ := h
  exact ⟨hport.1.trans hrefusal, hport.2.trans hcount, hlatched hcause⟩

theorem State.faultRefused_classify (hf : (s.group g).state = .faulted) (hr : s.head p = some r)
    (hreaches : s.reaches p r i g) : s.faultRefused (s.classify p) g p r i ∧ (s.classify p).groups = s.groups := by
  have hr' : (s.setHeadClass p (some i) (some g)).head p = some r := (State.setHeadClass_head ..).trans hr
  have hclassify : s.classify p = (s.setHeadClass p (some i) (some g)).refuseHead p .groupFaulted :=
    (State.classify_of_handOver hr (State.verdict_of_reaches hreaches)).trans (State.admission_faulted hf)
  obtain ⟨hrefusal, hcount, hlatched⟩ := State.refuseHead_refusal hr' .groupFaulted
  rw [hclassify]
  refine ⟨⟨hrefusal.trans ?_, hcount.trans ?_, hlatched⟩, State.refuseHead_groups ..⟩
  · rw [State.recordOf, State.setHeadClass_port, if_pos rfl]
    rfl
  · rw [State.setHeadClass_port, if_pos rfl]

/-- The heads classified again are of ports of the list alone. -/
theorem State.elsewhere_reclassify (hf : (s.group g).state = .faulted) (l : List PortId) :
    s.Elsewhere (s.reclassify l) g (· ∉ l) := by
  suffices h : ∀ (ps : List PortId) (u : State), (u.group g).state = .faulted → ps ⊆ l →
      u.Elsewhere (u.reclassify ps) g (· ∉ l) from h l s hf (List.Subset.refl l)
  intro ps
  induction ps with
  | nil => exact fun u _ _ => .refl u
  | cons q ps ih =>
    intro u hu hsub
    obtain ⟨hq, hps⟩ := List.cons_subset.1 hsub
    have hstep : u.Elsewhere (u.classify q) g (· ∉ l) :=
      State.elsewhere_classify (fun p hp heq => hp (heq ▸ hq)) u hu
    exact hstep.trans (ih _ ((congrArg Group.state hstep.group).trans hu) hps)

/-- Each head of the list is refused once, in its turn. -/
theorem State.faultRefused_reclassify (hnodup : l.Nodup) (hp : p ∈ l) (hf : (s.group g).state = .faulted)
    (hr : s.head p = some r) (hreaches : s.reaches p r i g) (hqueues : ∀ k, p ∉ (s.group k).queue) :
    s.faultRefused (s.reclassify l) g p r i ∧ ∀ k, p ∉ ((s.reclassify l).group k).queue := by
  obtain ⟨before, after, rfl⟩ := List.append_of_mem hp
  obtain ⟨hbefore, hafter⟩ : p ∉ before ∧ p ∉ after := by
    rw [List.nodup_append] at hnodup
    obtain ⟨-, htail, hdisjoint⟩ := hnodup
    exact ⟨fun h => hdisjoint p h p List.mem_cons_self rfl, (List.nodup_cons.1 htail).1⟩
  have hfirst := State.elsewhere_reclassify hf before
  have hcalm : Calm (fun _ => False) s (s.reclassify before) := Calm.foldl calm_classify before s
  have hport := hfirst.ports p hbefore hqueues
  obtain ⟨k, hr'⟩ := hport.head hr
  have hf' := (congrArg Group.state hfirst.group).trans hf
  have hreaches' : (s.reclassify before).reaches p (r.atStage k) i g := hcalm.reaches hreaches
  obtain ⟨⟨hrefusal, hcount, hlatched⟩, hgroups⟩ := State.faultRefused_classify hf' hr' hreaches'
  have hqueues' : ∀ j, p ∉ (((s.reclassify before).classify p).group j).queue := fun j => by
    rw [State.group, hgroups]
    exact hfirst.queues p hbefore hqueues j
  have hlast := State.elsewhere_reclassify (s := (s.reclassify before).classify p) (g := g)
    (by rw [State.group, hgroups]; exact hf') after
  have hsplit : s.reclassify (before ++ p :: after) = ((s.reclassify before).classify p).reclassify after := by
    rw [State.reclassify, List.foldl_append]
    rfl
  have hturn : s.faultRefused ((s.reclassify before).classify p) g p r i := by
    refine ⟨hrefusal.trans ?_, hcount.trans ?_, hlatched⟩
    · rw [hfirst.group]
      rfl
    · rw [hport.refusal.2]
  rw [hsplit]
  exact ⟨hturn.kept (hlast.ports p hafter hqueues').refusal
    (Calm.isLatched (P := fun _ => False) (Calm.foldl calm_classify after _)), hlast.queues p hafter hqueues'⟩

end

/-! ### Entry to FAULTED (R15) -/

section
variable {s : State} {g : GroupId} {f : FaultRecord}

/-- The entry to FAULTED but for the refusals, the answers and the retakes. -/
def State.faulting (s : State) (g : GroupId) (f : FaultRecord) : State :=
  (((s.setTable (dropGroup g s.table)).modGroup g fun x => x.intoFaulted f).mapTxns (Txn.orphanedByFault g)).latch (.fault g)

/-- The entry to FAULTED with the heads inside refused. -/
def State.faultingRefused (s : State) (g : GroupId) (f : FaultRecord) : State :=
  (s.faulting g f).reclassify (fourIds.filter (s.headInside g))

/-- The entry to FAULTED but for the retakes. -/
def State.faultingAnswered (s : State) (g : GroupId) (f : FaultRecord) : State :=
  (s.faultingRefused g f).answerAll g WaitingKind.isAny (.faulted f.kind f.epoch)

theorem State.enterFaulted_eq (s : State) (g : GroupId) (f : FaultRecord) :
    s.enterFaulted g f = (s.faultingAnswered g f).retakeAll := rfl

theorem State.faulting_group (s : State) (g : GroupId) (f : FaultRecord) (k : GroupId) :
    (s.faulting g f).group k = if k = g then (s.group g).intoFaulted f else s.group k :=
  State.modGroup_group (s.setTable (dropGroup g s.table)) g (fun x => x.intoFaulted f) k

theorem State.faulting_group_self (s : State) (g : GroupId) (f : FaultRecord) :
    (s.faulting g f).group g = (s.group g).intoFaulted f := (s.faulting_group g f g).trans (if_pos rfl)

theorem State.calm_faulting (s : State) (g : GroupId) (f : FaultRecord) : Calm (fun _ => False) s (s.faulting g f) :=
  (((calm_setTable s _ fun h => tableOk_dropGroup h g).trans
    (calm_modGroup _ g _ rfl (fun _ => rfl) (by simp [Group.intoFaulted, Group.level]) id)).trans
      (calm_mapTxns _ _ (classFits_orphanedByFault g))).trans (calm_latch _ _)

theorem State.elsewhere_faultingRefused (s : State) (g : GroupId) (f : FaultRecord) :
    (s.faulting g f).Elsewhere (s.faultingRefused g f) g (· ∉ fourIds.filter (s.headInside g)) :=
  State.elsewhere_reclassify (by rw [State.faulting_group_self]; rfl) _

theorem State.answers_faulting (s : State) (g : GroupId) (f : FaultRecord) :
    (s.faultingRefused g f).Answers (s.faultingAnswered g f) fourIds g WaitingKind.isAny (.faulted f.kind f.epoch) :=
  State.answers_answerAll ..

theorem State.faultingAnswered_groups (s : State) (g : GroupId) (f : FaultRecord) :
    (s.faultingAnswered g f).groups = (s.faultingRefused g f).groups := by
  rw [(s.answers_faulting g f).rest]

theorem State.faultingAnswered_group_self (s : State) (g : GroupId) (f : FaultRecord) :
    (s.faultingAnswered g f).group g = (s.group g).intoFaulted f := by
  rw [State.group, State.faultingAnswered_groups]
  exact (s.elsewhere_faultingRefused g f).group.trans (s.faulting_group_self g f)

/-- What the retakes leave alone: they are of heads of other groups (R41). -/
theorem State.elsewhere_enterFaulted (s : State) (g : GroupId) (f : FaultRecord) :
    (s.faultingAnswered g f).Elsewhere (s.enterFaulted g f) g fun _ => True :=
  State.elsewhere_retakeAll _ (by rw [State.faultingAnswered_group_self]; rfl)

theorem State.enterFaulted_group_self (s : State) (g : GroupId) (f : FaultRecord) :
    (s.enterFaulted g f).group g = (s.group g).intoFaulted f :=
  (s.elsewhere_enterFaulted g f).group.trans (s.faultingAnswered_group_self g f)

/-- No entry of the table is the group's (R15, item 3). -/
theorem State.enterFaulted_entriesOf (s : State) (g : GroupId) (f : FaultRecord) : (s.enterFaulted g f).entriesOf g = 0 := by
  have hfaulting : ∀ e ∈ (s.faulting g f).table, e.group ≠ g := fun e he => (mem_dropGroup.1 he).2
  have hrefused := (s.elsewhere_faultingRefused g f).table hfaulting
  have hanswered : ∀ e ∈ (s.faultingAnswered g f).table, e.group ≠ g := by
    rw [(s.answers_faulting g f).rest]
    exact hrefused
  have hlast := (s.elsewhere_enterFaulted g f).table hanswered
  exact List.countP_eq_zero.2 fun e he => by simpa using hlast e he

theorem State.enterFaulted_isLatched (s : State) (g : GroupId) (f : FaultRecord) :
    (s.enterFaulted g f).isLatched (.fault g) = true := by
  have hcalm : Calm (fun _ => False) (s.faulting g f) (s.enterFaulted g f) :=
    ((Calm.foldl calm_classify _ _).trans (calm_answerAll _ _ _ _)).trans (calm_retakeAll _)
  exact hcalm.isLatched (State.isLatched_latch ..)

/-- Every waiting command of the group is answered FAULTED (R15, item 6). -/
theorem State.enterFaulted_answers {p : PortId} {o : Outstanding} (ho : (s.port p).channel = some o) (hg : o.group = g) :
    ((s.enterFaulted g f).port p).channel = none ∧ .answer p (.faulted f.kind f.epoch) ∈ (s.enterFaulted g f).emitted := by
  have hchannel : ((s.faultingRefused g f).port p).channel = some o :=
    ((s.elsewhere_faultingRefused g f).channel p).trans ho
  have hwaits : (s.faultingRefused g f).waitsFor g WaitingKind.isAny p = true := by
    rw [State.waitsFor, hchannel]
    cases hkind : o.kind <;> simp [hg, hkind, WaitingKind.isAny]
  have hanswers := s.answers_faulting g f
  refine ⟨((s.elsewhere_enterFaulted g f).channel p).trans ?_, ?_⟩
  · rw [hanswers.port, if_pos ⟨mem_fourIds p, hwaits⟩]
  · exact (calm_retakeAll (P := fun _ => False) (s.faultingAnswered g f)).mem_emitted (hanswers.given p (mem_fourIds p) hwaits)

/-- Every head that stood inside the group is refused (R15, items 3 and 5). -/
theorem State.enterFaulted_insideRefused (s : State) (g : GroupId) (f : FaultRecord) :
    s.insideRefused (s.enterFaulted g f) g := by
  intro p r i hr hinside hgroup hreaches hqueues
  have hmem : p ∈ fourIds.filter (s.headInside g) := by
    refine List.mem_filter.2 ⟨mem_fourIds p, ?_⟩
    rw [State.headInside, State.headStage_of_head hr, hgroup]
    rcases hinside with ⟨why, hstage⟩ | hstage | hstage
    all_goals
      rw [hstage]
      exact beq_self_eq_true _
  have hqueues' : ∀ k, p ∉ ((s.faulting g f).group k).queue := fun k => by
    rw [State.faulting_group]
    split
    next => exact List.not_mem_nil
    next hk => exact hqueues k hk
  obtain ⟨hrefused, hfree⟩ := State.faultRefused_reclassify (s := s.faulting g f) ((by decide : fourIds.Nodup).filter _) hmem
    (by rw [State.faulting_group_self]; rfl) hr ((s.calm_faulting g f).reaches hreaches) hqueues'
  have hanswered : (s.faulting g f).faultRefused (s.faultingAnswered g f) g p r i := by
    refine State.faultRefused.kept hrefused ?_ (calm_answerAll (P := fun _ => False) ..).isLatched
    rw [(s.answers_faulting g f).port]
    split
    · exact ⟨rfl, rfl⟩
    · exact ⟨rfl, rfl⟩
  have hfree' : ∀ k, p ∉ ((s.faultingAnswered g f).group k).queue := fun k => by
    rw [State.group, State.faultingAnswered_groups]
    exact hfree k
  obtain ⟨hrefusal, hcount, hlatched⟩ := hanswered.kept ((s.elsewhere_enterFaulted g f).ports p trivial hfree').refusal
    (calm_retakeAll (P := fun _ => False) _).isLatched
  rw [State.faulting_group_self] at hrefusal
  exact ⟨hrefusal, hcount, hlatched⟩

/-- The six items of R15. -/
theorem State.faultedIn_enterFaulted (s : State) (g : GroupId) (f : FaultRecord) :
    s.faultedIn (s.enterFaulted g f) g f.kind f.epoch f.slot f.block := by
  unfold State.faultedIn
  rw [State.enterFaulted_group_self]
  exact ⟨rfl, rfl, rfl, rfl, rfl, rfl, rfl, rfl, rfl, rfl, rfl, rfl, rfl, rfl, rfl, s.enterFaulted_entriesOf g f,
    s.enterFaulted_isLatched g f, fun _ _ ho hg => State.enterFaulted_answers ho hg, s.enterFaulted_insideRefused g f⟩

end

end Sys2Proof.Machine
end

section
/-! Failures that fault a group (R16, R59, R60, R74, R83, R95, R102): what each row's ERROR comes to, and the recovery result it leaves. -/

namespace Sys2Proof.Machine

/-! ### Each row's answer ERROR (R156) -/

section
variable {s : State} {i : PlaceId} {g : GroupId} {n : Nat}

theorem exec_clearPhaseWrite_error (h : s.ownAt i g .clearPhase n) :
    exec (.clearPhaseWrite i .error) s
      = .next ((s.placeFreed i).faultNow g .restoreWrite (some (2 + (s.group g).journalLength)) none) := by
  rw [exec, execClearPhaseWrite]
  exact State.takeOwn_error h rfl

theorem exec_recordRead_error (h : s.ownAt i g .popRead n) :
    exec (.recordRead i .error) s = .next ((s.placeFreed i).faultNow g .recordCorrupt (s.group g).popSlot none) := by
  rw [exec, execRecordRead]
  exact State.takeOwn_error h rfl

theorem exec_restoreWrite_error {b : Block} {prior : Option Nat} (h : s.ownAt i g (.popRestore b prior) n) :
    exec (.restoreWrite i .error) s = .next ((s.placeFreed i).faultNow g .restoreWrite (some (s.group g).popSlotNumber)
      (Role.popRestore b prior).poppedBlock) := by
  rw [exec, execRestoreWrite]
  exact State.takeOwn_error h rfl

theorem exec_popComplete_error {b : Block} {prior : Option Nat} (h : s.ownAt i g (.popClear b prior) n) :
    exec (.popComplete i .error) s = .next ((s.placeFreed i).faultNow g .restoreWrite (some (s.group g).popSlotNumber)
      (Role.popClear b prior).poppedBlock) := by
  rw [exec, execPopComplete]
  exact State.takeOwn_error h rfl

theorem exec_commitHeaderWrite_error (h : s.ownAt i g .commitHeader n) :
    exec (.commitHeaderWrite i .error) s
      = .next ((s.placeFreed i).faultNow g .headerWrite (some (s.group g).headerSlotNumber) none) := by
  rw [exec, execCommitHeaderWrite]
  exact State.takeOwn_error h rfl

theorem exec_rollbackHeaderWrite_error (h : s.ownAt i g .rollbackHeader n) :
    exec (.rollbackHeaderWrite i .error) s
      = .next ((s.placeFreed i).faultNow g .headerWrite (some (s.group g).headerSlotNumber) none) := by
  rw [exec, execRollbackHeaderWrite]
  exact State.takeOwn_error h rfl

theorem exec_formatClearingWrite_error {slot : Nat} (h : s.ownAt i g (.formatClear slot) n) :
    exec (.formatClearingWrite i .error) s = .next ((s.placeFreed i).formatFailed g (.formatClear slot)) := by
  rw [exec, execFormatClearingWrite]
  exact State.takeOwn_error h rfl

theorem exec_formatHeaderWrite_error {y : Copy} (h : s.ownAt i g (.formatHeader y) n) :
    exec (.formatHeaderWrite i .error) s = .next ((s.placeFreed i).formatFailed g (.formatHeader y)) := by
  rw [exec, execFormatHeaderWrite]
  exact State.takeOwn_error h rfl

theorem exec_headerRead_error {y : Copy} (h : s.ownAt i g (.headerRead y) n) :
    exec (.headerRead i .error) s = .next ((s.placeFreed i).recoveryFailed g
      { kind := .recoveryRead, epoch := 0, slot := (Role.headerRead y).headerCopy.map Copy.slot, block := none }) := by
  rw [exec, execHeaderRead]
  exact State.takeOwn_error h rfl

theorem exec_scanRead_error (h : s.ownAt i g .scanRead n) :
    exec (.scanRead i .error) s = .next ((s.placeFreed i).recoveryFailed g
      { kind := .recoveryRead, epoch := (s.group g).currentEpoch, slot := some (2 + (s.group g).journalLength), block := none }) := by
  rw [exec, execScanRead]
  exact State.takeOwn_error h rfl

theorem exec_replayRead_error (h : s.ownAt i g .replayRead n) :
    exec (.replayRead i .error) s = .next ((s.placeFreed i).replayFailed g) := by
  rw [exec, execReplayRead]
  exact State.takeOwn_error h rfl

theorem exec_recoveryRestoreWrite_error {b : Block} (h : s.ownAt i g (.recoveryRestore b) n) :
    exec (.recoveryRestoreWrite i .error) s = .next ((s.placeFreed i).recoveryFailed g
      { kind := .recoveryWrite, epoch := (s.group g).currentEpoch, slot := some (1 + (s.group g).journalLength),
        block := (Role.recoveryRestore b).restoredBlock }) := by
  rw [exec, execRecoveryRestoreWrite]
  exact State.takeOwn_error h rfl

theorem exec_recoveryHeaderWrite_error (h : s.ownAt i g .recoveryHeader n) :
    exec (.recoveryHeaderWrite i .error) s = .next ((s.placeFreed i).recoveryFailed g
      { kind := .recoveryWrite, epoch := (s.group g).currentEpoch, slot := some (s.group g).headerSlotNumber, block := none }) := by
  rw [exec, execRecoveryHeaderWrite]
  exact State.takeOwn_error h rfl

end

/-! ### What a failure leaves (R15, R19) -/

section
variable {s : State} {i : PlaceId} {g : GroupId} {c : Instr}

/-- The recovery result is no part of what an entry to FAULTED is judged by. -/
theorem State.faultedIn_of_report {t : State} {report : Group → RecoveryResult} {k : FaultKind} {e : Epoch} {slot : Option Nat}
    {b : Option Block} (h : (s.modGroup g fun x => { x with recoveryResult := report x }).faultedIn t g k e slot b) :
    s.faultedIn t g k e slot b := by
  have hcalm : Calm (fun _ => False) s (s.modGroup g fun x => { x with recoveryResult := report x }) :=
    calm_modGroup s g _ rfl (fun _ => rfl) le_rfl id
  unfold State.faultedIn at h ⊢
  rw [State.modGroup_group_self] at h
  obtain ⟨hstate, hfault, hmarks, hvotes, htimer, hqueue, hputBack, hstep, hhold, hconfig, hepoch, hlength, hquota, hstats,
    hclose, hentries, hlatched, hanswers, hinside⟩ := h
  refine ⟨hstate, hfault, hmarks, hvotes, htimer, hqueue, hputBack, hstep, hhold, hconfig, hepoch, hlength, hquota, hstats,
    hclose, hentries, hlatched, hanswers, fun p r j hr hstands hgroup hreaches hqueues => ?_⟩
  have hrefused := hinside p r j hr hstands hgroup (hcalm.reaches hreaches) fun k hk => by
    rw [State.modGroup_group, if_neg hk]
    exact hqueues k hk
  rw [State.modGroup_group_self] at hrefused
  exact hrefused

/-- The entry to FAULTED after a report of the recovery, from the state before the answer. -/
theorem State.faultedIn_reported (s : State) (i : PlaceId) (g : GroupId) (report : Group → RecoveryResult) (f : FaultRecord) :
    s.faultedIn (((s.placeFreed i).modGroup g fun x => { x with recoveryResult := report x }).enterFaulted g f) g f.kind f.epoch
      f.slot f.block :=
  State.faultedIn_of_report (s := s.placeFreed i) (State.faultedIn_enterFaulted _ g f)

theorem State.reported_recoveryResult (s : State) (g : GroupId) (report : Group → RecoveryResult) (f : FaultRecord) :
    (((s.modGroup g fun x => { x with recoveryResult := report x }).enterFaulted g f).group g).recoveryResult
      = report (s.group g) := by
  rw [State.enterFaulted_group_self, State.modGroup_group_self]
  rfl

theorem State.faults_of_faultNow {k : FaultKind} {slot : Option Nat} {b : Option Block}
    (hexec : exec c s = .next ((s.placeFreed i).faultNow g k slot b))
    (hresult : ∀ y : Group, y.recoveryResult = (s.group g).recoveryResult → (s.group g).resultAfter y c) :
    ∃ t, exec c s = .next t ∧ s.faultedIn t g k ((s.group g).closedEpoch + 1) slot b
      ∧ (s.group g).resultAfter (t.group g) c :=
  ⟨_, hexec, State.faultedIn_enterFaulted (s.placeFreed i) g _,
    hresult _ ((congrArg Group.recoveryResult (State.enterFaulted_group_self (s.placeFreed i) g _)).trans rfl)⟩

theorem State.faults_of_formatFailed {role : Role} {slot : Option Nat} (hslot : role.formatSlot = slot)
    (hexec : exec c s = .next ((s.placeFreed i).formatFailed g role))
    (hresult : ∀ y : Group, y.recoveryResult = { RecoveryResult.reset with outcome := .faulted } → (s.group g).resultAfter y c) :
    ∃ t, exec c s = .next t ∧ s.faultedIn t g .recoveryWrite 0 slot none ∧ (s.group g).resultAfter (t.group g) c := by
  subst hslot
  exact ⟨_, hexec, State.faultedIn_reported s i g (fun _ => { RecoveryResult.reset with outcome := .faulted }) _,
    hresult _ (State.reported_recoveryResult ..)⟩

theorem State.faults_of_recoveryFailed {f : FaultRecord}
    (hexec : exec c s = .next ((s.placeFreed i).recoveryFailed g f))
    (hresult : ∀ y : Group, y.recoveryResult = (s.group g).recoveryReport .faulted → (s.group g).resultAfter y c) :
    ∃ t, exec c s = .next t ∧ s.faultedIn t g f.kind f.epoch f.slot f.block ∧ (s.group g).resultAfter (t.group g) c :=
  ⟨_, hexec, State.faultedIn_reported s i g (fun x => x.recoveryReport .faulted) f,
    hresult _ (State.reported_recoveryResult ..)⟩

/-- The recovery result of a failed RECOVER tells how far it came (R102). -/
theorem Group.recoveryReport_faulted {x y : Group} (h : y.recoveryResult = x.recoveryReport .faulted) (k : RecoveryContext)
    (hk : x.recovery = some k) : y.recoveryResult =
      { copy := k.chosen, closedFound := k.named, found := k.found.getD x.journalLength,
        replayed := k.found.getD x.journalLength - x.journalLength, outcome := .faulted } := by
  rw [h, Group.recoveryReport, Group.recoveryContext, hk]
  rfl

theorem Group.headerSlotNumber_eq (x : Group) : x.headerSlotNumber = (x.closedEpoch + 1).toNat % 2 := by
  rw [Group.headerSlotNumber, Group.currentEpoch, copyFor_eq]
  rcases Nat.mod_two_eq_zero_or_one (x.closedEpoch + 1).toNat with h | h
  all_goals
    rw [h]
    rfl

theorem Copy.slot_eq (y : Copy) : y.slot = if y = .a then 0 else 1 := by cases y <;> rfl

theorem State.slotRead_of_mismatch {slot : List Byte}
    (h : matchesRecord g ((s.group g).closedEpoch + 1) (s.group g).journalLength slot = false) :
    s.slotRead g slot = s.faultNow g .recordCorrupt (s.group g).popSlot none :=
  if_neg (Bool.eq_false_iff.1 h)

theorem State.slotReplayed_of_mismatch {slot : List Byte}
    (h : matchesRecord g ((s.group g).closedEpoch + 1) (s.group g).journalLength slot = false) :
    s.slotReplayed g slot = s.replayFailed g :=
  if_neg (Bool.eq_false_iff.1 h)

end

/-- Settles O50: each failure is an entry to FAULTED, after a report where a FORMAT or a RECOVER fails. -/
theorem failuresFaultTheGroup : Obligations.FailuresFaultTheGroup := by
  intro s i g c k e slot b h
  rcases h with ⟨hown, rfl, rfl, rfl, rfl, rfl⟩ | ⟨hown, hrow, rfl, rfl, rfl, rfl⟩
    | ⟨bl, prior, n, hrow, rfl, rfl, hslot, rfl, rfl⟩ | ⟨hrow, rfl, rfl, rfl, rfl⟩ | ⟨n, hown, rfl, rfl, rfl, rfl, rfl⟩
    | ⟨y, hown, rfl, rfl, rfl, rfl, rfl⟩ | ⟨y, hown, rfl, rfl, rfl, rfl, rfl⟩ | ⟨hown, rfl, rfl, rfl, rfl, rfl⟩
    | ⟨hown, hrow, rfl, rfl, rfl, rfl⟩ | ⟨bl, hown, rfl, rfl, rfl, rfl, rfl⟩ | ⟨hown, rfl, rfl, rfl, rfl, rfl⟩
  · exact State.faults_of_faultNow (exec_clearPhaseWrite_error hown) fun _ hy => hy
  · rcases hrow with rfl | ⟨data, rfl, hcorrupt⟩
    · exact State.faults_of_faultNow (exec_recordRead_error hown) fun _ hy => hy
    · exact State.faults_of_faultNow ((exec_recordRead_ok data hown).trans
        (congrArg _ (State.slotRead_of_mismatch (s := s.placeFreed i) hcorrupt))) fun _ hy => hy
  · rw [← Group.popSlotNumber_of_some hslot]
    rcases hrow with ⟨hown, rfl⟩ | ⟨hown, rfl⟩
    · have hfaults := State.faults_of_faultNow (exec_restoreWrite_error hown) fun _ hy => hy
      exact hfaults
    · have hfaults := State.faults_of_faultNow (exec_popComplete_error hown) fun _ hy => hy
      exact hfaults
  · rw [← Group.headerSlotNumber_eq]
    rcases hrow with ⟨hown, rfl⟩ | ⟨hown, rfl⟩
    · exact State.faults_of_faultNow (exec_commitHeaderWrite_error hown) fun _ hy => hy
    · exact State.faults_of_faultNow (exec_rollbackHeaderWrite_error hown) fun _ hy => hy
  · exact State.faults_of_formatFailed rfl (exec_formatClearingWrite_error hown) fun _ hy => hy
  · exact State.faults_of_formatFailed (role := .formatHeader y) (congrArg some y.slot_eq)
      (exec_formatHeaderWrite_error hown) fun _ hy => hy
  · rw [← Copy.slot_eq]
    exact State.faults_of_recoveryFailed (exec_headerRead_error hown) fun _ => Group.recoveryReport_faulted
  · exact State.faults_of_recoveryFailed (exec_scanRead_error hown) fun _ => Group.recoveryReport_faulted
  · rcases hrow with rfl | ⟨data, rfl, hcorrupt⟩
    · exact State.faults_of_recoveryFailed (exec_replayRead_error hown) fun _ => Group.recoveryReport_faulted
    · exact State.faults_of_recoveryFailed ((exec_replayRead_ok data hown).trans
        (congrArg _ (State.slotReplayed_of_mismatch (s := s.placeFreed i) hcorrupt))) fun _ => Group.recoveryReport_faulted
  · exact State.faults_of_recoveryFailed (exec_recoveryRestoreWrite_error hown) fun _ => Group.recoveryReport_faulted
  · rw [← Group.headerSlotNumber_eq]
    exact State.faults_of_recoveryFailed (exec_recoveryHeaderWrite_error hown) fun _ => Group.recoveryReport_faulted

end Sys2Proof.Machine
end
